-- ==== Sys2Proof/Word.lean ====
section
/-! DEFINITION. The word types of the module: bytes, the 32-bit words of status objects and code, the
64-bit words of lane memory and working registers (R11, R133, R135). -/
namespace Sys2Proof

/-- A byte of an image, a frame or a record. -/
abbrev Byte := BitVec 8
/-- A word of a status object, of a code section or of a register map. -/
abbrev W32 := BitVec 32
/-- A word of lane memory, a working register, an output word of a checkpoint record. -/
abbrev W64 := BitVec 64
/-- The d and s fields of a code word (R135). -/
abbrev Reg := BitVec 5
/-- The i field of a code word (R135). -/
abbrev Imm := BitVec 14

end Sys2Proof
end

