-- ==== Sys2Proof/Machine/Mem.lean ====
section
/-! DEFINITION. Keyed storage. `Mem` is the one canonical form of byte and word memories: addresses
strictly rising, nothing listed that equals what an unlisted address reads as (zero, R257, R142). `Tab`
is a table of records by number, kept in rising order; an unlisted number reads as the given default. -/
namespace Sys2Proof.Machine

/-- A memory of cells of `w` bits by address. -/
abbrev Mem (w : Nat) := List (Nat × BitVec w)

/-- A table of records by number. -/
abbrev Tab (α : Type) := List (Nat × α)

/-- The first entry of a number in a table. -/
def tabFind {α : Type} : Tab α → Nat → Option α
  | [], _ => none
  | (k, v) :: t, n => if k = n then some v else tabFind t n

/-- The entry of number `n`, or the default. -/
def tabGet {α : Type} (t : Tab α) (d : α) (n : Nat) : α := (tabFind t n).getD d

/-- Puts an entry, in its place of the rising order. -/
def tabSet {α : Type} : Tab α → Nat → α → Tab α
  | [], n, v => [(n, v)]
  | (k, w) :: t, n, v =>
    if n < k then (n, v) :: (k, w) :: t
    else if n = k then (n, v) :: t
    else (k, w) :: tabSet t n v

/-- Removes the entry of a number. -/
def tabDel {α : Type} : Tab α → Nat → Tab α
  | [], _ => []
  | (k, w) :: t, n => if k = n then t else (k, w) :: tabDel t n

/-- Changes the entry of number `n`. -/
def tabMod {α : Type} (t : Tab α) (d : α) (n : Nat) (f : α → α) : Tab α :=
  tabSet t n (f (tabGet t d n))

/-- Changes every listed entry. -/
def tabMap {α β : Type} (f : Nat → α → β) (t : Tab α) : Tab β := t.map fun p => (p.1, f p.1 p.2)

/-- A table from a list, numbered from `n`. -/
def tabOf {α : Type} (n : Nat) : List α → Tab α
  | [] => []
  | x :: xs => (n, x) :: tabOf (n + 1) xs

/-- The cell at an address; an unlisted address reads zero. -/
def memGet {w : Nat} (m : Mem w) (a : Nat) : BitVec w := tabGet m 0 a

/-- Puts a cell into a memory and keeps the canonical form: a zero is not listed. -/
def memSet {w : Nat} (m : Mem w) (a : Nat) (v : BitVec w) : Mem w :=
  if v = 0 then tabDel m a else tabSet m a v

/-- `n` cells from an address. -/
def memRead {w : Nat} (m : Mem w) (a : Nat) : Nat → List (BitVec w)
  | 0 => []
  | n + 1 => memGet m a :: memRead m (a + 1) n

/-- Puts cells from an address. -/
def memWrite {w : Nat} (m : Mem w) (a : Nat) : List (BitVec w) → Mem w
  | [] => m
  | v :: vs => memWrite (memSet m a v) (a + 1) vs

/-- Copies `n` cells at `a` of `src` into `dst` at the same address. -/
def memCopy {w : Nat} (src dst : Mem w) (a n : Nat) : Mem w := memWrite dst a (memRead src a n)

/-- The keys of a table rise strictly and lie above `lo`. -/
def keysAbove {α : Type} : Nat → Tab α → Bool
  | _, [] => true
  | lo, (k, _) :: t => decide (lo < k) && keysAbove k t

/-- The keys of a table rise strictly. -/
def keysRise {α : Type} : Tab α → Bool
  | [] => true
  | (k, _) :: t => keysAbove k t

/-- The canonical form of a memory holds. -/
def Memory.wf {w : Nat} (m : Mem w) : Bool := keysRise m && m.all fun p => decide (p.2 ≠ 0)

/-! ### Little-endian values in byte memories (R11) -/

/-- The value of bytes, least significant first. -/
def leNat : List Byte → Nat
  | [] => 0
  | b :: bs => b.toNat + 256 * leNat bs

/-- The `n` low bytes of a value, least significant first. -/
def leBytes (v : Nat) : Nat → List Byte
  | 0 => []
  | n + 1 => BitVec.ofNat 8 v :: leBytes (v / 256) n

/-- Reads `n` bytes as a little-endian value. -/
def memNat (m : Mem 8) (a n : Nat) : Nat := leNat (memRead m a n)

/-- Writes the `n` low bytes of a value, little-endian. -/
def memPutNat (m : Mem 8) (a n v : Nat) : Mem 8 := memWrite m a (leBytes v n)

/-- A byte padded list, cut or filled with zeros to `n` bytes. -/
def padTo (n : Nat) (bs : List Byte) : List Byte := (bs ++ List.replicate n 0).take n

/-- The 8-byte words of a byte list, the last padded with zeros (R93). -/
def wordsOf (bs : List Byte) : Nat → List W64
  | 0 => []
  | n + 1 => BitVec.ofNat 64 (leNat (bs.take 8)) :: wordsOf (bs.drop 8) n

end Sys2Proof.Machine
end

