-- ==== Sys2Proof/Syntax/Data.lean ====
section
/-! DEFINITION. The plain data that commands and the state share: places and enumerations of the
manual, the decoded block image (R201-R208), frames (R281), Savis request headers (R639) and Hallway
bodies (R500). -/
namespace Sys2Proof

/-! ### Names of the manual -/

/-- The three lanes (R29). -/
inductive LaneId | A | B | C
deriving DecidableEq, Repr, Inhabited

/-- Roles, coded as in R38. -/
inductive Role | out | alone | owner | shadow | joining
deriving DecidableEq, Repr, Inhabited

/-- Key positions, coded as by KEY (R183, R213). -/
inductive KeyPos | run | edit | halt | service
deriving DecidableEq, Repr, Inhabited

/-- The eight error tasks (R199). -/
inductive ErrTask | station | overrun | lane | pair | time | access | loop | axis
deriving DecidableEq, Repr, Inhabited

/-- Task classes: the fourteen entries of the class table in the order of R203. -/
inductive Cls | M | F1 | F2 | F3 | F4 | B | E (t : ErrTask)
deriving DecidableEq, Repr, Inhabited

/-- Areas of a point reference (R243). -/
inductive Area | imgIn | imgOut | axIn | axOut
deriving DecidableEq, Repr, Inhabited

/-- Binary64 or binary32 form of a floating-point operation (R152). -/
inductive FWidth | b64 | b32
deriving DecidableEq, Repr, Inhabited

/-- Access types (R216). -/
inductive AccType | r | w | x
deriving DecidableEq, Repr, Inhabited

/-- Request outcomes, coded as by RQST (R170). -/
inductive Outc | issued | pending | done | refusedFull | delayed | busyTest | failedStation
  | failedSwitchover | failedTimeout | rejectedAccess | none
deriving DecidableEq, Repr, Inhabited

/-- Port roles (R19), coded as in R207. -/
inductive PortRole | unused | segment | peer
deriving DecidableEq, Repr, Inhabited

/-- The checkpoint kinds of R93 that the Newel votes. -/
inductive CkSel | cls (c : Cls) | lsu | supv
deriving DecidableEq, Repr, Inhabited

/-! ### The decoded block image (R201-R208) -/

/-- A byte range of an image area. -/
structure Range where
  area : Area
  start : Nat
  len : Nat
deriving DecidableEq, Repr, Inhabited

/-- An engine share of a class (R203). -/
structure Share where
  engine : Nat
  routine : Nat
  root : Nat
deriving DecidableEq, Repr, Inhabited

/-- An entry of the CLASS section (R203). -/
structure ClassEnt where
  en : Bool
  mtable : Bool
  k : Nat
  shares : List Share
  reads : List Range
deriving DecidableEq, Repr, Inhabited

/-- A ROUTINE entry (R204). -/
structure Routine where
  addr : Nat
  typeId : Nat
deriving DecidableEq, Repr, Inhabited

/-- Field types (R205). -/
inductive FieldTy | int64 | real64 | real32 | int32 | bool | turn96 | handle | edge | timer | counter | words
deriving DecidableEq, Repr, Inhabited

/-- A field of a block type (R205). -/
structure Field where
  id : Nat
  word : Nat
  width : Nat
  scratch : Bool
  ty : FieldTy
deriving DecidableEq, Repr, Inhabited

/-- A TYPE entry (R205). -/
structure TypeEnt where
  typeId : Nat
  fmtVer : Nat
  fields : List Field
deriving DecidableEq, Repr, Inhabited

/-- An INST entry: the header words 0 and 1 and the initial state words (R206). -/
structure InstEnt where
  handle : Nat
  words : List W64
deriving DecidableEq, Repr, Inhabited

/-- A WRITERS record (R207); `cls` is the class index of R203. -/
structure Writer where
  range : Range
  cls : Nat
  engine : Nat
deriving DecidableEq, Repr, Inhabited

/-- A SLOTMAP record (R207); `station` is the index 512 × segment + number. -/
structure SlotRec where
  station : Nat
  slot : Nat
  output : Bool
  range : Range
  order : Nat
deriving DecidableEq, Repr, Inhabited

/-- A source of the PEER record (R207). -/
structure PeerSrc where
  domain : Nat
  len : Nat
  start : Nat
deriving DecidableEq, Repr, Inhabited

/-- The PEER record (R207). -/
structure PeerCfg where
  outStart : Nat
  outLen : Nat
  srcs : List PeerSrc
deriving DecidableEq, Repr, Inhabited

/-- Substitute modes (R258). -/
inductive SubstMode | hold | zero | configured
deriving DecidableEq, Repr, Inhabited

/-- A station record of the STATION section (R318) with its parameter and substitute blocks. -/
structure StationRec where
  station : Nat
  mode : SubstMode
  limit : Nat
  devType : Nat
  ks : Nat
  verMin : Nat
  train : Bool
  wdUs : Nat
  latchNs : Nat
  txNs : Nat
  applyNs : Nat
  inLen : Nat
  outLen : Nat
  fwdNs : Nat
  param : List Byte
  paramDig : W32
  subst : List Byte
deriving DecidableEq, Repr, Inhabited

/-- Master kinds (R359). -/
inductive MasterKind | unused | virtual | external
deriving DecidableEq, Repr, Inhabited

/-- Source types of an external master (R359). -/
inductive SrcType | turn96 | int32 | int64
deriving DecidableEq, Repr, Inhabited

/-- A master record (R359). -/
structure MasterRec where
  kind : MasterKind
  srcType : SrcType
  filter : Nat
  holdTicks : Nat
  src : W32
  snum : Int
  sden : Nat
  extraNs : Int
  haltDec : Nat
  jerk : Nat
  vmax : Nat
deriving DecidableEq, Repr, Inhabited

/-- An axis record (R359). -/
structure AxisRec where
  axis : Nat
  station : Nat
  slot : Nat
  engDist : Nat
  vmax : Nat
  feLim : Nat
deriving DecidableEq, Repr, Inhabited

/-- A compare record (R359). -/
structure CmpRec where
  unit : Nat
  isMaster : Bool
  number : Nat
  lnum : Nat
  lden : Nat
  forward : Bool
  onPos : Nat
  offPos : Nat
  leadOn : Int
  leadOff : Int
deriving DecidableEq, Repr, Inhabited

/-- A registration record (R359). -/
structure RegRec where
  axis : Nat
  ch : Nat
  master : Nat
  lnum : Nat
  lden : Nat
  gnum : Int
  gden : Nat
  ramp : Nat
  onAtLoad : Bool
  expect : Int
  window : Nat
  maxStep : Nat
deriving DecidableEq, Repr, Inhabited

/-- A cam segment (R347). -/
structure CamSeg where
  xStart : Nat
  xLen : Nat
  c0 : Int
  c1 : Int
  c2 : Int
  c3 : Int
deriving DecidableEq, Repr, Inhabited

/-- A cam table (R347). -/
structure CamTab where
  id : Nat
  cnum : Nat
  cden : Nat
  oneshot : Bool
  stroke : Int
  segs : List CamSeg
deriving DecidableEq, Repr, Inhabited

/-- The AXIS section (R358). -/
structure AxisCfg where
  cmdOfs : Nat
  masters : List MasterRec
  axes : List AxisRec
  cmps : List CmpRec
  regs : List RegRec
  cams : List CamTab
deriving DecidableEq, Repr, Inhabited

/-- One cell of the reflex table (R368). -/
structure CellCfg where
  lut : W64
  sel : List Nat
  mode : Nat
  owner : Nat
deriving DecidableEq, Repr, Inhabited

/-- The reflex table (R368); CAPCFG as (source, edge, FILTER_NS), OUTMAP as (cell or 0xFF, invert). -/
structure ReflexCfg where
  cells : List CellCfg
  outmap : List (Nat × Bool)
  capcfg : List (Nat × Nat × Nat)
  term : W32
deriving DecidableEq, Repr, Inhabited

/-- A window record of the analogue table (R408). -/
structure WinCfg where
  en : Bool
  ret : Bool
  entry : Nat
  low : Int
  high : Int
  hyst : Nat
deriving DecidableEq, Repr, Inhabited

/-- Loop channel modes (R382). -/
inductive LoopMode | off | input | output
deriving DecidableEq, Repr, Inhabited

/-- A channel record of the analogue table (R408). -/
structure ChanCfg where
  mode : LoopMode
  devN : Nat
  devUa : Nat
  neFilt : Nat
deriving DecidableEq, Repr, Inhabited

/-- The analogue table (R408); entries as (SRC, AVG), NSEQ is their number. -/
structure AnaCfg where
  urgMax : Nat
  anaOfs : Nat
  loopOfs : Nat
  entries : List (Nat × Nat)
  wins : List WinCfg
  chans : List ChanCfg
deriving DecidableEq, Repr, Inhabited

/-- External reference sources (R419). -/
inductive ExtSrc | none | peer | eng1
deriving DecidableEq, Repr, Inhabited

/-- The time record (R419). -/
structure TimeRec where
  follower : Bool
  extSrc : ExtSrc
  ltPtpDom : Nat
  xPtpDom : Nat
  jumpLimUs : Nat
  ltWaitS : Nat
deriving DecidableEq, Repr, Inhabited

/-- The PROOF section (R208); `ports` as (OUT_END, IN_START, FWD_MAX), `loops` as (address, budget). -/
structure ProofRec where
  tickCode : Nat
  delta : Nat
  nax : Nat
  buildPt : Nat
  cM : Nat
  cF : List Nat
  cLsu : Nat
  copyMax : Nat
  retMax : Nat
  ports : List (Nat × Nat × Nat)
  loops : List (Nat × Nat)
deriving DecidableEq, Repr, Inhabited

/-- A directory entry as checked (R201): section type and whether its CRC-32C holds. -/
structure SecEnt where
  type : Nat
  crcOk : Bool
deriving DecidableEq, Repr, Inhabited

/-- The SIGN section (R579): digest of PUBKEY, whether SIG holds under it, and whether it stands last. -/
structure SignSec where
  pubDigest : Nat
  sigOk : Bool
  last : Bool
deriving DecidableEq, Repr, Inhabited

/-- An OUT_INIT record (R207). -/
structure OutInit where
  area : Area
  start : Nat
  bytes : List Byte
deriving DecidableEq, Repr, Inhabited

/-- A block image, decoded (R201-R208). -/
structure Image where
  magic : W32
  fmt : Nat
  total : Nat
  hdrCrcOk : Bool
  generation : Nat
  project : Nat
  secs : List SecEnt
  layoutOk : Bool
  digest : Nat
  digestOk : Bool
  sign : Option SignSec
  domain : Nat
  tickCode : Nat
  delta : Nat
  lineId : Nat
  portRole : List PortRole
  portRate : List Bool
  kp : Nat
  classes : List ClassEnt
  routines : List Routine
  code : List W32
  consts : List W64
  types : List TypeEnt
  insts : List InstEnt
  points : List W32
  slots : List SlotRec
  writers : List Writer
  peer : Option PeerCfg
  reflex : Option ReflexCfg
  analogue : Option AnaCfg
  time : TimeRec
  outInit : List OutInit
  etype : Nat
  oP : List Nat
  stations : List StationRec
  axis : Option AxisCfg
  proof : ProofRec
  watch : List (W32 × Nat)
deriving DecidableEq, Repr, Inhabited

/-! ### Frames and messages -/

/-- A frame as the MAC delivers it, header fields decoded (R281); PTP frames have EtherType 0x88F7. -/
structure Frame where
  fcsOk : Bool
  vlan : Bool
  dst : BitVec 48
  src : BitVec 48
  etype : Nat
  ver : Nat
  type : Nat
  epoch : BitVec 16
  addr : BitVec 16
  seq : W32
  tick : W32
  len : Nat
  hops : Nat
  payload : List Byte
  e2e : W32
deriving DecidableEq, Repr, Inhabited

/-- A launch queue entry descriptor and its frame (R269). -/
structure TxEntry where
  launch : Nat
  len : Nat
  kind : Nat
  state : Nat
  station : Nat
  item : Nat
  tick : Nat
  sent : Nat
  relay : Bool
  stations : List Nat
  frame : Frame
deriving DecidableEq, Repr, Inhabited

/-- The moment and header of a Savis request: session, REQ_ID, and whether the body length and the
reserved fields match the method (R639, R648). -/
structure Req where
  moment : Nat
  session : Nat
  id : Nat
  bodyOk : Bool
deriving DecidableEq, Repr, Inhabited

/-- Header of a Hallway message as received: moment, MSEQ and whether CHK holds (R498). -/
structure Msg where
  moment : Nat
  mseq : Nat
  tick : Nat
  chkOk : Bool
deriving DecidableEq, Repr, Inhabited

/-- The HELLO body (R501). -/
structure Hello where
  family : Nat
  part : Nat
  hwRev : Nat
  order : Nat
  side : Nat
  fwVer : Nat
  fwSvn : Nat
  pflMin : Nat
  pflMax : Nat
  hofMin : Nat
  hofMax : Nat
  role : Role
  img : Bool
  serial : Nat
  generation : Nat
  digest : Nat
  l0 : Nat
  epoch : BitVec 16
deriving DecidableEq, Repr, Inhabited

/-- The AGREE body (R500). -/
structure Agree where
  pfl : Nat
  hof : Nat
  result : Nat
  winner : Nat
  l0 : Nat
deriving DecidableEq, Repr, Inhabited

/-- A time value (R416). -/
structure TimeVal where
  sec : Nat
  ns : Nat
  frac : Nat
deriving DecidableEq, Repr, Inhabited

/-- An event record (R199); the place as the four words of R31. -/
structure Event where
  placeD : W32
  placeM : W32
  placePt : W32
  placeInst : W32
  task : ErrTask
  code : Nat
  lost : Nat
  seq : Nat
  tick : Nat
  detail : List Byte
deriving DecidableEq, Repr, Inhabited

/-- Faults of the Newel's inputs at a vote that no lane's state can show: the comparator copies
differ (R114), bits flipped in the words a lane streams, records that miss (R98). -/
structure VoteFaults where
  split : Bool
  flips : List (LaneId × Nat × W64)
  missing : List LaneId
deriving DecidableEq, Repr, Inhabited

/-- A stamp of a capture channel: line time in ns and its sequence count (R374). -/
structure Stamp where
  ns : Nat
  count : Nat
deriving DecidableEq, Repr, Inhabited

/-- The frozen sampled set of a tick (R84, R48). -/
structure Frozen where
  tick : Nat
  lt : Nat
  pinsIn : BitVec 16
  pinsOut : BitVec 16
  cells : W64
  arm : W64
  stamps : List (List Stamp)
  lost : Nat
  key : KeyPos
  skips : List Nat
  releases : List Nat
  events : List Event
  ana : List Byte
  epoch : BitVec 16
  go : Option Nat
  halted : Nat
  rqst : List (Nat × Outc)
deriving DecidableEq, Repr, Inhabited

/-- Trims of one channel or port of one module (R529). -/
structure Trim where
  latency : Bool
  serial : Nat
  index : Nat
  v0 : Int
  v1 : Int
deriving DecidableEq, Repr, Inhabited

/-- A card journal record (R528, R529). -/
inductive JBody
  | change (oldDigest newDigest : Nat) (reqId : Nat) (image : Image)
  | cancel (jseq : Nat) (reason : Nat)
  | trim (t : Trim)
  | skip
deriving DecidableEq, Repr, Inhabited

/-- A journal record with its header fields and its length in bytes. -/
structure JRec where
  jseq : Nat
  sbGen : Nat
  bytes : Nat
  crcOk : Bool
  body : JBody
deriving DecidableEq, Repr, Inhabited

/-- A superblock (R526). -/
structure Super where
  valid : Bool
  layout : Nat
  base : Nat
  sbGen : Nat
  jStart : Nat
  jSeq : Nat
  serial : Nat
  digest : Nat
deriving DecidableEq, Repr, Inhabited

/-- A base slot (R527). -/
structure Base where
  crcOk : Bool
  image : Option Image
  trims : List Trim
  sbGen : Nat
deriving DecidableEq, Repr, Inhabited

/-- The contents of a configuration card (R525). -/
structure Card where
  usable : Bool
  capacityMib : Nat
  sb0 : Super
  sb1 : Super
  base0 : Base
  base1 : Base
  journal : List JRec
deriving DecidableEq, Repr, Inhabited

/-- An update package header as read (R559), with the results of the digests the module computes over it. -/
structure PkgHdr where
  magicOk : Bool
  fmt : Nat
  hdrCrcOk : Bool
  sizeOk : Bool
  nblk : Nat
  svn : Nat
  fwVer : Nat
  family : Nat
  part : Nat
  hwMin : Nat
  hwMax : Nat
  keySlot : Nat
  pubDigest : Nat
  revoke : Nat
  pflMin : Nat
  pflMax : Nat
  hofMin : Nat
  hofMax : Nat
  blkCrc : List W32
deriving DecidableEq, Repr, Inhabited

/-- Results of the power-up BIST (R608). -/
structure BistRes where
  lbist : List Bool
  mbist : List Bool
  voteL : Bool
  pantryL : Bool
  pantryM : Bool
  rulesM : Bool
  ms : Nat
deriving DecidableEq, Repr, Inhabited

/-- The handover record of one station (R518); `path` is 0 for none, 1 for DIRECT, 2 for RELAY. -/
structure HoStn where
  station : Nat
  state : Nat
  ver : Nat
  path : Nat
  missRun : Nat
  goodRun : Nat
  subst : Bool
  dropped : Bool
  seq : Option Nat
deriving DecidableEq, Repr, Inhabited

/-- What the module answers or a client asks of the object model: a READ body (R645). -/
structure ReadBody where
  obj : Nat
  first : Nat
  count : Nat
  ofs : Nat
  len : Nat
deriving DecidableEq, Repr, Inhabited

/-- An edit of the pending rule bank (R231): a user table entry or a region. -/
inductive RuleEdit
  | perm (master slot : Nat) (rwx : BitVec 3)
  | region (master r : Nat) (start stop : Nat) (en : Bool) (rwx : BitVec 3)
deriving DecidableEq, Repr, Inhabited

end Sys2Proof
end

