-- ==== Sys2Proof/Machine/Parts/Analogue.lean ====
section
/-! DEFINITION. State of the field loops, the converter and the windows (R382-R415). -/
namespace Sys2Proof.Machine

/-- One loop channel: its status flags (R410), values in nA, trims (R397), runs and filters (R393-R396),
and its counters (R409). -/
structure Loop where
  compliance : Bool
  deviation : Bool
  neLow : Bool
  neHigh : Bool
  range : Bool
  rbValid : Bool
  rbLinkErr : Bool
  cmdLimit : Bool
  devRun : Nat
  goodRun : Nat
  badFrames : Nat
  rbSeq : Option Nat
  cmdNa : Int
  measNa : Int
  rbNa : Int
  headroom : Int
  zeroTrim : Int
  spanTrim : Int
  neSide : Nat
  neSince : Option Nat
  okSince : Option Nat
  changedAt : Option Nat
  devEvents : Nat
  complEvents : Nat
  rbErrors : Nat
deriving DecidableEq, Repr, Inhabited

/-- Window states, coded as in WIN.STATE (R415). -/
inductive WinState | unknown | inside | below | above
deriving DecidableEq, Repr, Inhabited

/-- A window comparator (R406). -/
structure Win where
  state : WinState
  events : Nat
deriving DecidableEq, Repr, Inhabited

/-- The latest urgent result of a sequence entry (R404). -/
structure Urg where
  word : W32
  valid : Bool
  count : Nat
deriving DecidableEq, Repr, Inhabited

/-- A button trim in progress (R399): its channel and whether it is a span trim. -/
structure TrimRun where
  ch : Nat
  span : Bool
deriving DecidableEq, Repr, Inhabited

/-- A trim by command that waits for the end of a calibration run (R398). -/
structure TrimWait where
  ch : Nat
  zero : Int
  span : Int
  key : Nat × Nat
deriving DecidableEq, Repr, Inhabited

/-- The converter: the pass in progress and whether calibration was valid at its start (R402), result words
by entry (R403) and those of the last completed pass with its tick (R388), urgent conversions (R404),
calibration (R405), trims and the front panel's channel and result with its moment (R399, R667), and the
counters of CONV (R412). `ana` is the analogue block of the frozen set (R388). -/
structure Conv where
  passActive : Bool := false
  passValid : Bool := false
  nextEntry : Nat := 0
  passTick : Nat := 0
  results : Tab W32 := []
  lastPass : Tab W32 := []
  lastPassTick : Nat := 0
  urg : Tab Urg := []
  urgPend : List Nat := []
  urgThisTick : Nat := 0
  calBusy : Bool := false
  calDueAt : Nat := 0
  calValid : Bool := false
  calStarved : Bool := false
  lastCal : Nat := 0
  trim : Option TrimRun := none
  trimWait : List TrimWait := []
  display : Nat := 0
  panel : Nat := 0
  panelAt : Nat := 0
  ana : Mem 8 := []
  passes : Nat := 0
  urgents : Nat := 0
  urgAborts : Nat := 0
  calRuns : Nat := 0
  calRestarts : Nat := 0
deriving DecidableEq, Repr, Inhabited

/-- A channel that drives nothing (R410). -/
def Loop.zero : Loop :=
  ⟨false, false, false, false, false, false, false, false, 0, 0, 0, none, 0, 0, 0, 0, 0, 0, 0, none,
   none, none, 0, 0, 0⟩

/-- A converter with no results (R412). -/
def Conv.zero : Conv := {}

end Sys2Proof.Machine
end

