-- ==== Sys2Proof/Machine/Parts/Block.lean ====
section
/-! DEFINITION. State of the block engines: working registers, stacks and flags of an engine (R133), the
context of one execution of a class in one lane (R132-R151), delay register entries (R88). -/
namespace Sys2Proof.Machine

/-- An open loop: start, end, bound and count (R133), with the index register and the next index (R163). -/
structure LoopEnt where
  start : Nat
  stop : Nat
  bound : Nat
  count : Nat
  reg : Reg
  idx : Nat
deriving DecidableEq, Repr, Inhabited

/-- A block-code exception (R171) with what a violation record shows of it (R234): whether the access was a
write, and the address or point reference, none where the manual gives it none. -/
structure Exc where
  code : Nat
  write : Bool
  addr : Option Nat
deriving DecidableEq, Repr, Inhabited

/-- Where an engine stands in the running execution (R132, R151, R172). -/
inductive EngSt | idle | run | wait (link : Nat) | ended | exc (x : Exc)
deriving DecidableEq, Repr, Inhabited

/-- The state of one engine in one execution (R133). `ops` counts the operations retired in the
execution (R90), `cyc` its lane cycles (R78). -/
structure Eng where
  regs : Mem 64
  ib : Nat
  pc : Nat
  calls : List (Nat × Nat)
  loops : List LoopEnt
  fsr : BitVec 5
  st : EngSt
  ops : Nat
  cyc : Nat
deriving DecidableEq, Repr, Inhabited

/-- The byte areas of the process image (R22). -/
structure Areas where
  imgIn : Mem 8
  imgOut : Mem 8
  axIn : Mem 8
  axOut : Mem 8
deriving DecidableEq, Repr, Inhabited

/-- Nothing listed: every byte reads zero. -/
def Areas.zero : Areas := ⟨[], [], [], []⟩

/-- A written link word: its value and the writer's cycle count (R151, R78). -/
structure Link where
  value : W64
  cyc : Nat
deriving DecidableEq, Repr, Inhabited

/-- A word group placed in the REQ part of the checkpoint record (R168). -/
inductive ReqRec
  | arm (bits : W64)
  | req (id : Nat) (words : List W64)
  | full (id : Nat)
deriving DecidableEq, Repr, Inhabited

/-- Values that stay the same throughout one execution (R152, R84), with the request count and the
outstanding requests of its class at its start (R169). -/
structure Snap where
  relTick : Nat
  clk : Nat
  first : Bool
  key : KeyPos
  lt : Nat
  pinsIn : BitVec 16
  pinsOut : BitVec 16
  cells : W64
  rqst : List (Nat × Outc)
  event : Option Event
  ord : Nat
  full : Bool
  reqBase : Nat := 0
  reqOut : Nat := 0
deriving DecidableEq, Repr, Inhabited

/-- The context of one execution of a class in one lane: its engines, link words, release copy, output
buffer, and the words the checkpoint unit tracks. Word numbers are offsets in the instance area / 8. -/
structure Ctx where
  snap : Snap
  engs : Tab Eng
  links : Tab Link
  rel : Areas
  mtab : Mem 8
  obuf : Areas
  req : List ReqRec
  written : Tab Unit
  scratch : Tab Unit
  called : List Nat
  preempts : Nat
deriving DecidableEq, Repr, Inhabited

/-- An entry of a delay register file (R88): 64 bits of value tagged with the block-code position;
`part` numbers the words of a pair. -/
structure DrEnt where
  eng : Nat
  count : Nat
  part : Nat
  value : W64
  bad : Bool
deriving DecidableEq, Repr, Inhabited

/-- An event record frozen for execution (R180): its release tick and the halted ticks counted then, the record,
what the sampled set gives its execution, and the release copy once it is complete (R49). -/
structure ErrRec where
  rel : Nat
  halted : Nat
  ev : Event
  snap : Snap
  copy : Option (Areas × Mem 8)
deriving DecidableEq, Repr, Inhabited

/-- A class waiting to start in a lane at the operation counts at which the leading lane took it (R82). -/
structure Gate where
  cls : Nat
  ctx : Ctx
  at_ : Tab Nat
deriving DecidableEq, Repr, Inhabited

/-- A live sample forwarded by the owner (R90). -/
structure FwdLive where
  eng : Nat
  cls : Nat
  ord : Nat
  relTick : Nat
  count : Nat
  v0 : W64
  v1 : W64
deriving DecidableEq, Repr, Inhabited

/-- An idle engine (R132). -/
def Eng.idle : Eng := ⟨[], 0, 0, [], [], 0, .idle, 0, 0⟩

end Sys2Proof.Machine
end

