-- ==== Sys2Proof/Machine/Parts/Lsu.lean ====
section
/-! DEFINITION. State of one copy of the Line Shaft Unit (R324-R355). Positions, velocities and distances
are integers in 2^-48 turn (R324). -/
namespace Sys2Proof.Machine

/-- Master states, coded as in MSTAT (R336). -/
inductive MState | unused | standstill | ramping | steady | holdover | lost
deriving DecidableEq, Repr, Inhabited

/-- Axis states, coded as in SP_STAT (R352). -/
inductive AState | notReady | disengaged | geared | cammed | disengaging
deriving DecidableEq, Repr, Inhabited

/-- A master: position, velocity, acceleration, the profile in force (target and limits, R330), the last
acknowledgement (R329), and for an external master its raw total, source value, holdover offset, sample
history and estimate (R332-R334). `pts` holds the last four shaft points, newest first (R327). -/
structure MasterSt where
  state : MState
  p : Int
  v : Int
  a : Int
  g : Int
  acc : Int
  dec : Int
  ack : Nat
  result : Nat
  first : Bool
  seen : Bool
  total : Int
  lastSrc : Int
  hofs : Int
  hist : List Int
  hold : Nat
  pts : List Int
deriving DecidableEq, Repr, Inhabited

/-- What a waiting axis command will do (R339). -/
inductive WaitOp
  | gear (num : Int) (den : Nat)
  | cam (id : Nat)
  | disengage
deriving DecidableEq, Repr, Inhabited

/-- A waiting axis command (R339): its CSEQ, its master, and the angle it waits for, if any. -/
structure WaitCmd where
  cseq : Nat
  master : Nat
  angle : Option Nat
  op : WaitOp
deriving DecidableEq, Repr, Inhabited

/-- An axis (R337): base `b`, coupling term `c`, ratios `r0` and `r1` over `dist` of master travel from
`mref` (R340), cam table in use (R341), phase ramp (R343), the waiting command, the last acknowledgement,
the last four setpoints, newest first, and the flags of the monitors (R346) and registration (R344). -/
structure AxisSt where
  state : AState
  b : Int
  c : Int
  master : Nat
  r0 : Rat
  r1 : Rat
  dist : Nat
  mref : Rat
  cam : Nat
  phi0 : Int
  dphi : Int
  rampR : Nat
  rampI : Nat
  wait : Option WaitCmd
  ack : Nat
  result : Nat
  pts : List Int
  spVel : Int
  spAcc : Int
  first : Bool
  fast : Bool
  fe : Bool
  fault : Bool
  regOn : Bool
  accepted : Bool
  wasDropped : Bool
deriving DecidableEq, Repr, Inhabited

/-- A compare unit (R353): whether it has run, its source's readiness, its level, and the runs of merged
ticks (R355). -/
structure CmpSt where
  started : Bool
  ready : Bool
  level : Bool
  merged : Bool
deriving DecidableEq, Repr, Inhabited

/-- What an E_AXIS record is about (R360). -/
inductive AxisPlace | axis (n : Nat) | master (n : Nat) | unit (n : Nat)
deriving DecidableEq, Repr, Inhabited

/-- An event of an LSU run: the words of DETAIL 0x24 and 0x28 (R360). -/
structure LsuEv where
  place : AxisPlace
  code : Nat
  d24 : Int
  pos : Int
deriving DecidableEq, Repr, Inhabited

/-- An edge handed to the edge-launch unit (R354): unit, launch time in ns of line time, level, and
whether it is the report-free setting of a first run (R355). -/
structure CmpEdge where
  unit : Nat
  at_ : Int
  level : Bool
  silent : Bool
deriving DecidableEq, Repr, Inhabited

/-- One copy of the LSU: its state area, what its last run hands to the vote, and its counters (R361). -/
structure Lsu where
  runs : Bool
  haltRamp : Bool
  fresh : Bool
  tick : Nat
  done : Bool
  masters : Tab MasterSt
  axes : Tab AxisSt
  cmps : Tab CmpSt
  events : List LsuEv
  edges : List CmpEdge
  refused : Nat
  feEvents : Nat
  regAcc : Nat
  regRej : Nat
  merged : Nat
  skips : Nat
deriving DecidableEq, Repr, Inhabited

/-- A master at a restart of the program: position 0, velocity 0 (R330, R332). -/
def MasterSt.init (k : MasterKind) : MasterSt :=
  ⟨match k with | .unused => .unused | .virtual => .standstill | .external => .lost,
   0, 0, 0, 0, 0, 0, 0, 0, true, false, 0, 0, 0, [], 0, [0, 0, 0, 0]⟩

/-- An axis at a restart of the program: NOT_READY (R345). -/
def AxisSt.init : AxisSt :=
  ⟨.notReady, 0, 0, 0, 0, 0, 0, 0, 0, 0, 0, 1, 1, none, 0, 0, [0, 0, 0, 0], 0, 0, false, false, false,
   false, false, false, false⟩

/-- A compare unit before its first run (R355). -/
def CmpSt.init : CmpSt := ⟨false, false, false, false⟩

/-- An LSU that has not run. -/
def Lsu.zero : Lsu := ⟨false, false, true, 0, false, [], [], [], [], [], 0, 0, 0, 0, 0, 0⟩

end Sys2Proof.Machine
end

