-- ==== Sys2Proof/Machine/Parts/Lane.lean ====
section
/-! DEFINITION. State of the three lanes, the Newel and the scheduler (R43-R131). -/
namespace Sys2Proof.Machine

/-- Lane states, coded as in LANE[x].STATE (R127). -/
inductive LaneMode | off | serving | resync | test | retired | halted
deriving DecidableEq, Repr, Inhabited

/-- Take-out causes, coded as in LANE[x].STATE.CAUSE (R127). -/
inductive Cause | none | output | digestChg | digestFull | timeout | poison | memUncorr | rotation | resyncTimeout
deriving DecidableEq, Repr, Inhabited

/-- Steps of a resync, coded as in LANE[x].STATE.PHASE (R127). -/
inductive RPhase | none | reset | first | converge | waitEdge | final
deriving DecidableEq, Repr, Inhabited

/-- One lane: its status words (R126, R127), the line-time moments of its last take-outs (R111), whether
it is stopped and by its memory (R107), its operation counts (R81), instance area (R138), executions in
progress by class, starts it has yet to take (R82), delay register file (R88) and LSU copy (R79). -/
structure Lane where
  mode : LaneMode
  cause : Cause
  phase : RPhase
  donor : LaneId
  power : Bool
  bistOk : Bool
  resyncs : Nat
  upsets : Nat
  resyncUs : Nat
  drCorr : Nat
  memCorr : Nat
  poisoned : Nat
  copiedKib : Nat
  outTick : Nat
  moments : List Nat
  outAt : Nat
  marked : Nat
  poison : Bool
  stopped : Option Bool
  ops : Tab Nat
  inst : Mem 64
  ctxs : Tab Ctx
  gates : List Gate
  dr : List DrEnt
  lsu : Lsu
deriving DecidableEq, Repr, Inhabited

/-- The three lanes. -/
structure Lanes where
  a : Lane
  b : Lane
  c : Lane
deriving DecidableEq, Repr, Inhabited

/-- Module failure causes, coded as in NEWEL.FAIL_CAUSE (R130). -/
inductive FailCode | none | noMajority | twoLaneDisagree | comparatorSplit | samplerSplit | katFail | lanesBelowTwo
deriving DecidableEq, Repr, Inhabited

/-- The Newel (R128-R130): counters, failure flag and cause, the lane the next known-answer test names
(R115). -/
structure Newel where
  counts : Nat
  unanimous : Nat
  majority : Nat
  resamples : Nat
  katRuns : Nat
  katLane : LaneId
  katBusy : Nat
  mismatch : Nat
  failed : Bool
  failCode : FailCode
  failCls : Nat
deriving DecidableEq, Repr, Inhabited

/-- A class's run record in the scheduler (R47, R63-R67, R77, R96): whether an execution is open and its
release tick, whether it is the first since the restart (R191) and carries DIG_FULL, the voted outputs held for
the next frame edge (R48) or tick edge (R65), skipped releases, task clock, last executed release and the halted
ticks counted then (R192), execution count (R96) and ordinal among the checkpoints of its release tick (R508),
whether a skipped release had met the condition of R96, request count (R169), and the figures of SCHED.CLASS. -/
structure ClsRun where
  running : Bool := false
  relTick : Nat := 0
  first : Bool := false
  full : Bool := false
  held : Option Areas := none
  skips : Nat := 0
  clk : Nat := 0
  nPrev : Option Nat := none
  hPrev : Nat := 0
  firstDone : Bool := false
  execs : Nat := 0
  ord : Nat := 0
  fullDue : Bool := false
  ovr : Bool := false
  reqs : Nat := 0
  last : Nat := 0
  max : Nat := 0
  releases : Nat := 0
  overruns : Nat := 0
  skipped : Nat := 0
  lastRel : Nat := 0
deriving DecidableEq, Repr, Inhabited

/-- The scheduler: the tick, whether ticks run, whether the release copies of the tick have begun (R48), whether
the tick's build point has passed (R52) and its build has ended, the classes released at this tick whose copies
are due (R49), whether the LSU has yet to run in this tick, the line time in ns of the last vote of M (R466), the
run records by class index, and the figures of SCHED (R74). -/
structure Sched where
  tick : Nat := 0
  running : Bool := false
  built : Bool := false
  buildEnd : Bool := false
  toCopy : List Nat := []
  lsuDue : Bool := false
  mVoted : Nat := 0
  runs : Tab ClsRun := []
  sagEvents : Nat := 0
  lateDropped : Nat := 0
deriving DecidableEq, Repr, Inhabited

/-- A lane before the power-up BIST (R127). -/
def Lane.zero : Lane :=
  ⟨.off, .none, .none, .A, false, false, 0, 0, 0, 0, 0, 0, 0, 0, [], 0, 0, false, none, [], [], [], [], [],
   Lsu.zero⟩

/-- Nothing voted yet (R128-R130). -/
def Newel.zero : Newel := ⟨0, 0, 0, 0, 0, .A, 0, 0, false, .none, 7⟩

/-- No execution yet. -/
def ClsRun.zero : ClsRun := {}

/-- Before the first tick (R74). -/
def Sched.zero : Sched := {}

end Sys2Proof.Machine
end

