-- ==== Sys2Proof/Machine/Parts/Pantry.lean ====
section
/-! DEFINITION. State of the Pantry, the stations and the line ports (R247-R323). -/
namespace Sys2Proof.Machine

/-- A receive ring entry (R251): the frame, its receive stamp in ns of line time, and whether it was
relayed from the partner. -/
structure RxEnt where
  frame : Frame
  stamp : Nat
  relayed : Bool
deriving DecidableEq, Repr, Inhabited

/-- A line port (R278, R319, R320): link, receive ring, launch queue by entry,
the relay frames that the partner launches for this module (R306), and its counters. -/
structure Port where
  link : Bool
  ring : List RxEnt
  txq : Tab TxEntry
  relayQ : Tab TxEntry
  lastRej : Nat
  txFrames : Nat
  rxFrames : Nat
  fcsErr : Nat
  rejected : Nat
  e2eErr : Nat
  relayed : Nat
  lateDropped : Nat
deriving DecidableEq, Repr, Inhabited

/-- Station states, coded as in STATION.STATE (R322). -/
inductive TspState | absent | announced | starting | run | revalidating | refused
deriving DecidableEq, Repr, Inhabited

/-- Station paths (R305, R322). -/
inductive Path | none | own | relay
deriving DecidableEq, Repr, Inhabited

/-- An acyclic item for a station (R308, R472): its request, kind, body, times in ns of line time, and the
marks of the shadow's mirror. `cls` is the class code of block code's request, `none` for an engineering
request; `testUntil` is the end of the wait that a TEST_WAIT asked for; `reply` the reply that the module holds
in its mirror (status, WAIT_MS, data). -/
structure Item where
  reqId : Nat := 0
  cls : Option Nat := none
  client : Nat := 0
  kind : Nat := 0
  idem : Bool := false
  timeoutMs : Nat := 0
  index : Nat := 0
  sub : Nat := 0
  data : List Byte := []
  pended : Bool := false
  firstSend : Option Nat := none
  lastSend : Option Nat := none
  waiting : Bool := false
  reissued : Bool := false
  delayed : Bool := false
  testUntil : Option Nat := none
  sentMark : Bool := false
  sentAcked : Bool := false
  reply : Option (Nat × Nat × List Byte) := none
  final : Option Outc := none
deriving DecidableEq, Repr, Inhabited

/-- A record due at a station (R290): the tick at whose sample point it is checked, its TICK, and its
launch queue entry. -/
structure AckDue where
  tick : Nat
  recTick : Nat
  port : Nat
  entry : Nat
deriving DecidableEq, Repr, Inhabited

/-- A payload kept in a station slot or standby copy: its generation, CYC_IN status and input bytes (R253,
R464). -/
structure Kept where
  gen : Nat
  status : List Byte
  bytes : List Byte
deriving DecidableEq, Repr, Inhabited

/-- One station: the Pantry's record (R258-R262, R276) with the generations for which a payload entered and
for which a good frame came, the station slots by parity (R253), the standby copy (R464); the TSP record
(R297-R303, R321, R322) with the last START and its sends, the records due (R290), and the acyclic items
(R309, R310). `lastSeq` is the last SEQ accepted in any frame (R284), `cycSeq` that of the last CYC_IN accepted (R321). `ownGen` and `relGen` are the last
generations of which a copy came on the own port or from the partner (R305). -/
structure Stn where
  subst : Bool := true
  dropped : Bool := true
  missRun : Nat := 0
  goodRun : Nat := 0
  lastTick : Nat := 0
  slot0 : Option Kept := none
  slot1 : Option Kept := none
  gotGen : Option Nat := none
  goodGen : Option Nat := none
  ownGen : Option Nat := none
  relGen : Option Nat := none
  valid : Bool := false
  started : Bool := false
  revalDone : Bool := false
  standby : Option Kept := none
  state : TspState := .absent
  ver : Nat := 0
  path : Path := .none
  announcedAt : Option Nat := none
  reason : Nat := 0
  hops0 : Nat := 0xFFFF
  hops1 : Nat := 0xFFFF
  devType : Nat := 0
  src : BitVec 48 := 0
  reported : Nat := 0
  lastSeq : Option Nat := none
  cycSeq : Nat := 0
  notAcked : Nat := 0
  acyDone : Nat := 0
  acyFailed : Nat := 0
  starts : Nat := 0
  reval : Bool := false
  sends : Nat := 0
  sentAt : Nat := 0
  ackTick : Option Nat := none
  nackRun : Bool := false
  due : List AckDue := []
  flight : Option Item := none
  items : List Item := []
deriving DecidableEq, Repr, Inhabited

/-- A peer source (R317, R323). -/
structure Peer where
  valid : Bool
  age : Nat
  tick : Nat
  block : List Byte
  gen : Option Nat
deriving DecidableEq, Repr, Inhabited

/-- A publication that waits for the end of the build (R265). -/
structure LatePub where
  data : Areas
  ranges : List Range
deriving DecidableEq, Repr, Inhabited

/-- The Pantry: three IMG_IN and AXIN buffers, two IMG_OUT and AXOUT copies, two master tables (R247),
the one that the last LSU vote wrote, the images and the master table as of t0 + 0.6 µs (R50, R147), whether the generation of the tick is complete, publications that
wait (R265), the copy that the last build read, the stations, the peers, the ports, the SEQ counters of the
segments (R285), close records and payloads that wait for the shadow's sample point (R272), the requests that
a shadow's lanes have voted (R474), the image whose layout the previous generation has (R264), the stations
whose substitutes it and the current one carry, with the bytes that readers see in place of the buffer's (R260, R264), the DROPPED stations whose GOOD_RUN changed at the sample point (R272), and the figures of PANTRY (R274). -/
structure Pantry where
  buf0 : Areas := .zero
  buf1 : Areas := .zero
  buf2 : Areas := .zero
  out0 : Areas := .zero
  out1 : Areas := .zero
  mt0 : Mem 8 := []
  mt1 : Mem 8 := []
  mtLast : Bool := false
  snap : Areas := .zero
  mtSnap : Mem 8 := []
  complete : Bool := false
  late : List LatePub := []
  lastBuild : Bool := false
  stns : Tab Stn := []
  peers : Tab Peer := []
  ports : Tab Port := []
  segSeq : Tab Nat := []
  closes : List (Nat × List Nat × List Nat × List (Nat × Nat)) := []
  payloads : List (Nat × Nat × List Byte × List Byte) := []
  held : List (Nat × Item) := []
  oldCfg : Option Image := none
  prevSubst : List (Nat × Option (List Byte)) := []
  curSubst : List (Nat × Option (List Byte)) := []
  good : List Nat := []
  misses : Nat := 0
  lateIn : Nat := 0
  duplicates : Nat := 0
  rxFull : Nat := 0
  replayMax : Nat := 0
deriving DecidableEq, Repr, Inhabited

/-- A port with its link down and nothing stored. -/
def Port.zero : Port := ⟨false, [], [], [], 0, 0, 0, 0, 0, 0, 0, 0⟩

/-- A station that has not started since the restart (R262, R322). -/
def Stn.zero : Stn := {}

/-- A peer source that was never heard (R323). -/
def Peer.zero : Peer := ⟨false, 0, 0, [], none⟩

/-- The Pantry after a restart: every byte zero (R257). -/
def Pantry.zero : Pantry := {}

end Sys2Proof.Machine
end

