-- ==== Sys2Proof/Machine/Parts/Reflex.lean ====
section
/-! DEFINITION. State of the reflex plane (R364-R381). -/
namespace Sys2Proof.Machine

/-- The plane: the table in force (R379), input pins, arm bits and compare levels, the latches of the
three copies (R370) as of the reflex clock edge `at_` in ns of the time base, arm bits voted and not yet
applied (R372), pending edges and previous edge of each compare unit (R355, R376), and for each capture
channel its sequence count, newest stamp and stamps since the freeze (R374, R375). -/
structure Reflex where
  table : Option ReflexCfg
  pinsIn : BitVec 16
  arm : W64
  cmp : BitVec 32
  q0 : W64
  q1 : W64
  q2 : W64
  at_ : Nat
  armPend : List (Nat × W64)
  edges : Tab (List CmpEdge)
  prevEdge : Tab Int
  lateRun : Tab Bool
  capSeq : Tab Nat
  capLast : Tab Stamp
  capNew : Tab (List Stamp)
  copyDiff : Bool
  mismatch : Nat
  capLost : Nat
  capStamps : Nat
  cmpEdges : Nat
  cmpLate : Nat
deriving DecidableEq, Repr, Inhabited

/-- No table; every latch and arm bit 0 (R379). -/
def Reflex.zero : Reflex :=
  ⟨none, 0, 0, 0, 0, 0, 0, 0, [], [], [], [], [], [], [], false, 0, 0, 0, 0, 0⟩

end Sys2Proof.Machine
end

