-- ==== Sys2Proof/Machine/Parts/Time.lean ====
section
/-! DEFINITION. State of line time, calendar time and the PTP instances (R416-R446). -/
namespace Sys2Proof.Machine

/-- A clock: at `base` it stood at `val` (2^-16 ns) and has run at its rate correction in ppb since (R418).
`base` is a moment of the time base in ns for line time, a line time in 2^-16 ns for calendar time (R417). -/
structure Clock where
  base : Nat
  val : Nat
  rate : Int
deriving DecidableEq, Repr, Inhabited

/-- Line time states, coded as in TIME.STATUS.LT_STATE (R442). -/
inductive LtState | none | waiting | free | locked | holdover | tracking
deriving DecidableEq, Repr, Inhabited

/-- Calendar states, coded as in TIME.STATUS.CAL_STATE (R442, R443). -/
inductive CalState | unset | acquiring | locked | holdover | refused | tracking
deriving DecidableEq, Repr, Inhabited

/-- A PTP master as heard (R425): its domain, consecutive good exchanges, last offset in ns, whether it is
qualified, and its grandmasterIdentity. -/
structure PtpMaster where
  dom : Nat
  good : Nat
  offset : Int
  qual : Bool
  gm : Nat
deriving DecidableEq, Repr, Inhabited

/-- Calibration and counters of one port (R437, R438, R445). -/
structure PortTime where
  opticOk : Bool
  loopOk : Bool
  txLat : Int
  rxLat : Int
  txTrim : Int
  rxTrim : Int
  syncTx : Nat
  syncRx : Nat
  delayRx : Nat
deriving DecidableEq, Repr, Inhabited

/-- A calendar step that waits for the next tick edge (R430): the new time, none for RESTEP, and the
request it answers. -/
structure CalStep where
  value : Option Nat
  key : Option (Nat × Nat)
deriving DecidableEq, Repr, Inhabited

/-- Time (R417-R446): both clocks, their states, the masters heard, keeper flag, the pending
calendar step, and the figures of TIME. `calFrom` is the calendar state to return to when a reference is
lost before it qualifies, `gmNew` says that a reference with a new grandmasterIdentity has yet to be within the
limit (R429), `calOwner` the owner's calendar state while tracking (R443). -/
structure TimeSt where
  line : Clock
  cal : Clock
  begun : Bool
  begunAt : Nat
  released : Bool
  lt : LtState
  calSt : CalState
  calFrom : CalState
  calOwner : CalState
  calValid : Bool
  phaseFar : Bool
  refused : Bool
  keeper : Bool
  keeperAt : Option Nat
  waitFrom : Option Nat
  l0 : Nat
  lineM : Option PtpMaster
  extM : Option PtpMaster
  lastGm : Option Nat
  gmNew : Bool
  masterDom : Nat
  ltOffset : Int
  calOffset : Int
  utcValid : Bool
  utcOffset : Int
  lastTimeMsg : Nat
  step : Option CalStep
  ports : Tab PortTime
  refChanges : Nat
  refLosses : Nat
  jumpsRefused : Nat
  resteps : Nat
deriving DecidableEq, Repr, Inhabited

/-- A port before calibration (R446). -/
def PortTime.zero : PortTime := ⟨false, false, 0, 0, 0, 0, 0, 0, 0⟩

/-- Before line time begins (R442). -/
def TimeSt.zero : TimeSt :=
  { line := ⟨0, 0, 0⟩, cal := ⟨0, 0, 0⟩, begun := false, begunAt := 0, released := false, lt := .none
    calSt := .unset, calFrom := .unset, calOwner := .unset, calValid := false, phaseFar := false, refused := false
    keeper := false, keeperAt := none, waitFrom := none, l0 := 0, lineM := none, extM := none, lastGm := none
    gmNew := false, masterDom := 0xFF, ltOffset := 0, calOffset := 0, utcValid := false, utcOffset := 0
    lastTimeMsg := 0, step := none, ports := [], refChanges := 0, refLosses := 0
    jumpsRefused := 0, resteps := 0 }

end Sys2Proof.Machine
end

