-- ==== Sys2Proof/Machine/Parts/Section.lean ====
section
/-! DEFINITION. The sections of a handover (R517, R518), with what the agreed format lets them carry. -/
namespace Sys2Proof.Machine

/-- A handover section as received (R518): PROGRAM, STATION, LSU, REFLEX, TIME, QUEUE, ANALOGUE, ENGQ. -/
inductive Section
  | program (generation digest : Nat) (runs : Tab ClsRun) (key : KeyPos) (events : List Event) (evSeq : Nat)
  | station (recs : List HoStn) (segSeq : Tab Nat) (epoch : BitVec 16)
  | lsu (l : Lsu) (edges : Tab (List CmpEdge))
  | reflex (arm q : W64) (counts : Tab Nat)
  | time (epoch : BitVec 16) (calState : Nat) (calValid refused : Bool) (lineM extM : Option PtpMaster) (lastGm : Option Nat)
  | queue (reqs : Tab Outc)
  | analogue (wins : Tab Win) (loops : Tab Loop) (urg : Tab Urg)
  | engq (reqs : List (Nat × Nat × Outc))
  | unreadable
deriving DecidableEq, Repr, Inhabited

end Sys2Proof.Machine
end

