-- ==== Sys2Proof/Syntax.lean ====
section
/-! DEFINITION. The commands of the module, one constructor of `Instr` per row of the opcode table. -/
namespace Sys2Proof

/-- An engine of a lane: who carries out a block-code operation (R29, R132). -/
structure EngRef where
  lane : LaneId
  eng : Fin 16
deriving DecidableEq, Repr, Inhabited

/-- The commands of the module: one constructor per row of the opcode table. `t` is the moment of the
event in ns of the module's time base; `r` the header of a Savis request; `m` of a Hallway message. -/
inductive Instr where
  /-- HELLO (R502) -/
  | mHello (m : Msg) (b : Hello)
  /-- AGREE (R502) -/
  | mAgree (m : Msg) (b : Agree)
  /-- IDLE (R496) -/
  | mIdle (m : Msg)
  /-- ROLE (R500) -/
  | mRole (m : Msg) (role : Role) (ready armed : Bool) (key : KeyPos) (failCause : W32) (epoch : BitVec 16)
  /-- TIME (R509) -/
  | mTime (m : Msg) (t1 cal : TimeVal) (ltRate calRate : Int) (status : W32) (delayPs : Int) (t2 : TimeVal)
  /-- TIME_ECHO (R509) -/
  | mTimeEcho (m : Msg) (answered : Nat) (t1 t2 t3 t4 : TimeVal)
  /-- PLAN (R479) -/
  | mPlan (m : Msg) (released : Bool) (tick : Nat) (entries : List (Nat × Nat × Nat × Nat))
  /-- PAYLOAD (R272) -/
  | mPayload (m : Msg) (gen stn : Nat) (status : List Byte) (input : List Byte)
  /-- CLOSE (R272) -/
  | mClose (m : Msg) (gen : Nat) (subst entered : List Nat) (good : List (Nat × Nat))
  /-- SAMPLE (R90) -/
  | mSample (m : Msg) (f : Frozen)
  /-- LIVE (R90) -/
  | mLive (m : Msg) (eng : Nat) (cls : Nat) (ord relTick count : Nat) (v0 v1 : W64)
  /-- DIGEST (R508) -/
  | mDigest (m : Msg) (kind : W32) (relTick ord : Nat) (full : Bool) (chg dfull : W64)
  /-- DIGEST_WAIT_TIMEOUT (R508) -/
  | digestWaitTimeout (t : Nat)
  /-- RELAY_UP (R304) -/
  | mRelayUp (m : Msg) (port : Nat) (ptp : Bool) (first last : Nat) (f : Frame)
  /-- RELAY_DN (R306) -/
  | mRelayDn (m : Msg) (port entry : Nat) (e : TxEntry)
  /-- RELAY_RPT (R307) -/
  | mRelayRpt (m : Msg) (port entry : Nat) (state sent : Nat)
  /-- MIRROR (R472) -/
  | mMirror (m : Msg) (op : Nat) (idem engineering : Bool) (stn reqId client : Nat) (outcome : Outc) (sentAt : Nat) (body : List Byte)
  /-- MIRROR_ACK (R506) -/
  | mMirrorAck (m : Msg) (mseq reqId op : Nat)
  /-- CMD (R500) -/
  | mCmd (m : Msg) (session reqId : Nat) (method : Nat) (args : List Int)
  /-- CMD_RSP (R500) -/
  | mCmdRsp (m : Msg) (session reqId : Nat) (outcome : Outc) (data : List Byte)
  /-- STNSTATE (R272) -/
  | mStnstate (m : Msg) (stn tsp ver reason : Nat)
  /-- IMAGE (R510) -/
  | mImage (m : Msg) (change : Bool) (image : Option Image)
  /-- VERDICT (R195) -/
  | mVerdict (m : Msg) (change : Bool) (reason : Nat)
  /-- HO_OPEN (R510) -/
  | mHoOpen (m : Msg) (fmt : Nat) (donor : LaneId) (pages openTick : Nat)
  /-- PAGE (R511) -/
  | mPage (m : Msg) (area page pass : Nat) (words : List W64)
  /-- SECTION (R518) -/
  | mSection (m : Msg) (ver : Nat) (crcOk : Bool) (sec : Machine.Section)
  /-- HELD (R512) -/
  | mHeld (m : Msg) (stn gen : Nat) (bytes : List Byte)
  /-- HO_CUT (R514) -/
  | mHoCut (m : Msg) (tick sections pages : Nat)
  /-- HO_END (R515) -/
  | mHoEnd (m : Msg) (result : Nat)
  /-- TICK_EDGE (R48) -/
  | tickEdge (t : Nat)
  /-- GENERATION_COMPLETE (R48) -/
  | generationComplete (t : Nat)
  /-- RELEASE_COPY_DONE (R49) -/
  | releaseCopyDone (t : Nat) (c : Cls)
  /-- CHECKPOINT_VOTE (R101) -/
  | checkpointVote (t : Nat) (k : CkSel) (f : VoteFaults)
  /-- VOTE_DEADLINE (R98) -/
  | voteDeadline (t : Nat) (k : CkSel) (f : VoteFaults)
  /-- RESYNC_PASS_DONE (R105) -/
  | resyncPassDone (t : Nat) (l : LaneId) (kib marked : Nat)
  /-- RESYNC_FINAL_PASS (R105) -/
  | resyncFinalPass (t : Nat) (l : LaneId)
  /-- RESYNC_TIMEOUT (R106) -/
  | resyncTimeout (t : Nat) (l : LaneId)
  /-- LANE_STOP (R107) -/
  | laneStop (t : Nat) (l : LaneId) (mem : Bool)
  /-- DELAY_REG_ERROR (R89) -/
  | delayRegError (t : Nat) (l : LaneId) (correctable : Bool)
  /-- SAMPLE_RETRY (R86) -/
  | sampleRetry (t : Nat) (agree : Bool)
  /-- KAT_TEST (R115) -/
  | katTest (t : Nat) (v0 v1 : Option (LaneId × Nat)) (planted : Nat)
  /-- SHADOW_STALL_TIMEOUT (R91) -/
  | shadowStallTimeout (t : Nat)
  /-- BUILD_POINT (R52) -/
  | buildPoint (t : Nat)
  /-- FRAME_LAUNCH (R53) -/
  | frameLaunch (t : Nat) (port entry : Nat)
  /-- ATTIC_COMMIT (R546) -/
  | atticCommit (t : Nat)
  /-- ATTIC_APPLY (R547) -/
  | atticApply (t : Nat)
  /-- ATTIC_HEADER_WRITE (R547) -/
  | atticHeaderWrite (t : Nat)
  /-- ATTIC_REFILL_DONE (R550) -/
  | atticRefillDone (t : Nat)
  /-- ATTIC_FAULT (R553) -/
  | atticFault (t : Nat)
  /-- NOP (R152) -/
  | nop (e : EngRef)
  /-- MOV (R152) -/
  | mov (e : EngRef) (d s : Reg)
  /-- MOVI (R152) -/
  | movi (e : EngRef) (d : Reg) (i : Imm)
  /-- LDC (R152) -/
  | ldc (e : EngRef) (d : Reg) (i : Imm)
  /-- LD (R152) -/
  | ld (e : EngRef) (d : Reg) (i : Imm)
  /-- ST (R152) -/
  | st (e : EngRef) (d : Reg) (i : Imm)
  /-- LDX (R152) -/
  | ldx (e : EngRef) (d s : Reg) (i : Imm)
  /-- STX (R152) -/
  | stx (e : EngRef) (d s : Reg) (i : Imm)
  /-- LDR (R146) -/
  | ldr (e : EngRef) (d s : Reg) (i : Imm)
  /-- STR (R146) -/
  | str (e : EngRef) (d s : Reg) (i : Imm)
  /-- IRD (R149) -/
  | ird (e : EngRef) (d s : Reg)
  /-- IWR (R148) -/
  | iwr (e : EngRef) (d s : Reg)
  /-- LKR (R151) -/
  | lkr (e : EngRef) (d : Reg) (i : Imm)
  /-- LKW (R151) -/
  | lkw (e : EngRef) (d : Reg) (i : Imm)
  /-- MOVH (R152) -/
  | movh (e : EngRef) (d : Reg) (i : Imm)
  /-- ADD (R152) -/
  | add (e : EngRef) (d s : Reg)
  /-- SUB (R152) -/
  | sub (e : EngRef) (d s : Reg)
  /-- ADDI (R152) -/
  | addi (e : EngRef) (d s : Reg) (i : Imm)
  /-- MUL (R152) -/
  | mul (e : EngRef) (d s : Reg)
  /-- MULH (R152) -/
  | mulh (e : EngRef) (d s : Reg)
  /-- DIV (R152) -/
  | div (e : EngRef) (d s : Reg)
  /-- DIVU (R152) -/
  | divu (e : EngRef) (d s : Reg)
  /-- REM (R152) -/
  | rem (e : EngRef) (d s : Reg)
  /-- NEG (R152) -/
  | neg (e : EngRef) (d s : Reg)
  /-- ABS (R152) -/
  | abs (e : EngRef) (d s : Reg)
  /-- ADDS (R152) -/
  | adds (e : EngRef) (d s : Reg)
  /-- SUBS (R152) -/
  | subs (e : EngRef) (d s : Reg)
  /-- MULS (R152) -/
  | muls (e : EngRef) (d s : Reg)
  /-- FADD (R153) -/
  | fadd (e : EngRef) (w : FWidth) (d s : Reg)
  /-- FSUB (R153) -/
  | fsub (e : EngRef) (w : FWidth) (d s : Reg)
  /-- FMUL (R153) -/
  | fmul (e : EngRef) (w : FWidth) (d s : Reg)
  /-- FDIV (R153) -/
  | fdiv (e : EngRef) (w : FWidth) (d s : Reg)
  /-- FSQRT (R153) -/
  | fsqrt (e : EngRef) (w : FWidth) (d s : Reg)
  /-- FMA (R155) -/
  | fma (e : EngRef) (w : FWidth) (d s : Reg) (i : Imm)
  /-- FMIN (R154) -/
  | fmin (e : EngRef) (w : FWidth) (d s : Reg)
  /-- FMAX (R154) -/
  | fmax (e : EngRef) (w : FWidth) (d s : Reg)
  /-- FNEG (R154) -/
  | fneg (e : EngRef) (w : FWidth) (d s : Reg)
  /-- FABS (R154) -/
  | fabs (e : EngRef) (w : FWidth) (d s : Reg)
  /-- FCVTI (R153) -/
  | fcvti (e : EngRef) (w : FWidth) (d s : Reg)
  /-- FCVTF (R152) -/
  | fcvtf (e : EngRef) (w : FWidth) (d s : Reg)
  /-- FCVTW (R152) -/
  | fcvtw (e : EngRef) (w : FWidth) (d s : Reg)
  /-- FEQ (R154) -/
  | feq (e : EngRef) (w : FWidth) (d s : Reg)
  /-- FLT (R154) -/
  | flt (e : EngRef) (w : FWidth) (d s : Reg)
  /-- FLE (R154) -/
  | fle (e : EngRef) (w : FWidth) (d s : Reg)
  /-- CEQ (R152) -/
  | ceq (e : EngRef) (d s : Reg)
  /-- CNE (R152) -/
  | cne (e : EngRef) (d s : Reg)
  /-- CLT (R152) -/
  | clt (e : EngRef) (d s : Reg)
  /-- CLE (R152) -/
  | cle (e : EngRef) (d s : Reg)
  /-- CLTU (R152) -/
  | cltu (e : EngRef) (d s : Reg)
  /-- CLEU (R152) -/
  | cleu (e : EngRef) (d s : Reg)
  /-- CEQI (R152) -/
  | ceqi (e : EngRef) (d s : Reg) (i : Imm)
  /-- CLTI (R152) -/
  | clti (e : EngRef) (d s : Reg) (i : Imm)
  /-- SEL (R152) -/
  | sel (e : EngRef) (d s : Reg) (i : Imm)
  /-- MIN (R152) -/
  | min (e : EngRef) (d s : Reg)
  /-- MAX (R152) -/
  | max (e : EngRef) (d s : Reg)
  /-- LIM (R152) -/
  | lim (e : EngRef) (d s : Reg) (i : Imm)
  /-- AND (R152) -/
  | and (e : EngRef) (d s : Reg)
  /-- OR (R152) -/
  | or (e : EngRef) (d s : Reg)
  /-- XOR (R152) -/
  | xor (e : EngRef) (d s : Reg)
  /-- NOT (R152) -/
  | not (e : EngRef) (d s : Reg)
  /-- ANDI (R152) -/
  | andi (e : EngRef) (d s : Reg) (i : Imm)
  /-- ORI (R152) -/
  | ori (e : EngRef) (d s : Reg) (i : Imm)
  /-- XORI (R152) -/
  | xori (e : EngRef) (d s : Reg) (i : Imm)
  /-- SHL (R152) -/
  | shl (e : EngRef) (d s : Reg)
  /-- SHR (R152) -/
  | shr (e : EngRef) (d s : Reg)
  /-- SAR (R152) -/
  | sar (e : EngRef) (d s : Reg)
  /-- SHI (R152) -/
  | shi (e : EngRef) (d s : Reg) (i : Imm)
  /-- BTST (R152) -/
  | btst (e : EngRef) (d s : Reg) (i : Imm)
  /-- BSET (R152) -/
  | bset (e : EngRef) (d s : Reg) (i : Imm)
  /-- BCLR (R152) -/
  | bclr (e : EngRef) (d s : Reg) (i : Imm)
  /-- CLZ (R152) -/
  | clz (e : EngRef) (d s : Reg)
  /-- EXT (R152) -/
  | ext (e : EngRef) (d s : Reg) (i : Imm)
  /-- RTRIG (R158) -/
  | rtrig (e : EngRef) (d s : Reg) (i : Imm)
  /-- FTRIG (R158) -/
  | ftrig (e : EngRef) (d s : Reg) (i : Imm)
  /-- ATRIG (R158) -/
  | atrig (e : EngRef) (d s : Reg) (i : Imm)
  /-- TON (R159) -/
  | ton (e : EngRef) (d s : Reg) (i : Imm)
  /-- TOF (R159) -/
  | tof (e : EngRef) (d s : Reg) (i : Imm)
  /-- TP (R159) -/
  | tp (e : EngRef) (d s : Reg) (i : Imm)
  /-- TELAP (R159) -/
  | telap (e : EngRef) (d : Reg) (i : Imm)
  /-- TRST (R159) -/
  | trst (e : EngRef) (i : Imm)
  /-- CTU (R161) -/
  | ctu (e : EngRef) (d s : Reg) (i : Imm)
  /-- CTD (R161) -/
  | ctd (e : EngRef) (d s : Reg) (i : Imm)
  /-- CTUD (R161) -/
  | ctud (e : EngRef) (d s : Reg) (i : Imm)
  /-- CALL (R143) -/
  | call (e : EngRef) (s : Reg) (i : Imm)
  /-- RET (R143) -/
  | ret (e : EngRef)
  /-- CALLS (R143) -/
  | calls (e : EngRef) (i : Imm)
  /-- END (R132) -/
  | endShare (e : EngRef)
  /-- BR (R162) -/
  | br (e : EngRef) (i : Imm)
  /-- BZ (R162) -/
  | bz (e : EngRef) (s : Reg) (i : Imm)
  /-- BNZ (R162) -/
  | bnz (e : EngRef) (s : Reg) (i : Imm)
  /-- LOOP (R163) -/
  | loop (e : EngRef) (d s : Reg) (i : Imm) (len : BitVec 16)
  /-- LEND (R163) -/
  | lend (e : EngRef)
  /-- LBRK (R163) -/
  | lbrk (e : EngRef)
  /-- STIME (R166) -/
  | stime (e : EngRef) (t : Nat) (d : Reg)
  /-- SRFX (R373) -/
  | srfx (e : EngRef) (t : Nat) (d : Reg) (i : Imm)
  /-- SSTMP (R375) -/
  | sstmp (e : EngRef) (t : Nat) (d : Reg) (i : Imm)
  /-- SURG (R404) -/
  | surg (e : EngRef) (t : Nat) (d : Reg) (i : Imm)
  /-- SURGR (R404) -/
  | surgr (e : EngRef) (t : Nat) (d : Reg) (i : Imm)
  /-- AXRD (R152) -/
  | axrd (e : EngRef) (d s : Reg) (i : Imm)
  /-- AXWR (R152) -/
  | axwr (e : EngRef) (d s : Reg) (i : Imm)
  /-- AXMP (R335) -/
  | axmp (e : EngRef) (d : Reg) (i : Imm)
  /-- AXMV (R335) -/
  | axmv (e : EngRef) (d : Reg) (i : Imm)
  /-- TADD (R165) -/
  | tadd (e : EngRef) (d s : Reg)
  /-- TSUB (R165) -/
  | tsub (e : EngRef) (d s : Reg)
  /-- TTOF (R165) -/
  | ttof (e : EngRef) (d s : Reg)
  /-- TFRF (R165) -/
  | tfrf (e : EngRef) (d s : Reg)
  /-- TCMP (R165) -/
  | tcmp (e : EngRef) (d s : Reg)
  /-- TICK (R152) -/
  | tick (e : EngRef) (d : Reg)
  /-- CLK (R192) -/
  | clk (e : EngRef) (d : Reg)
  /-- FIRST (R191) -/
  | first (e : EngRef) (d : Reg)
  /-- KEY (R183) -/
  | key (e : EngRef) (d : Reg)
  /-- TT0 (R152) -/
  | tt0 (e : EngRef) (d : Reg)
  /-- RFXF (R373) -/
  | rfxf (e : EngRef) (d : Reg) (i : Imm)
  /-- ARM (R372) -/
  | arm (e : EngRef) (s : Reg)
  /-- REQ (R169) -/
  | req (e : EngRef) (d : Reg) (i : Imm)
  /-- RQST (R170) -/
  | rqst (e : EngRef) (d s : Reg)
  /-- FST (R156) -/
  | fst (e : EngRef) (d : Reg)
  /-- EVR (R199) -/
  | evr (e : EngRef) (d : Reg) (i : Imm)
  /-- BAD_OPCODE (R152) -/
  | badOpcode (e : EngRef) (word : W32)
  /-- HALT_COMPLETE (R120) -/
  | haltComplete (t : Nat)
  /-- BREAKPOINT_HIT (R620) -/
  | breakpointHit (t : Nat) (b : Nat)
  /-- KEY_SWITCH_CHANGE (R182) -/
  | keySwitchChange (t : Nat) (pos : KeyPos)
  /-- CHANGE_STAGED (R196) -/
  | changeStaged (t : Nat)
  /-- CHANGE_REMAP (R196) -/
  | changeRemap (t : Nat)
  /-- CHANGE_TIMEOUT (R198) -/
  | changeTimeout (t : Nat)
  /-- MASTER_ACCESS (R230) -/
  | masterAccess (t : Nat) (master : Nat) (ty : AccType) (addr len : Nat)
  /-- SEAL (R231) -/
  | seal (t : Nat) (edits : List RuleEdit)
  /-- TABLE_ERROR (R233) -/
  | tableError (t : Nat) (master : Nat) (correctable : Bool)
  /-- RX_FRAME_STORE (R251) -/
  | rxFrameStore (t : Nat) (port : Nat) (f : Frame)
  /-- CYC_IN (R252) -/
  | cycIn (t : Nat) (port : Nat)
  /-- ANNOUNCE (R300) -/
  | announce (t : Nat) (port : Nat)
  /-- READY (R302) -/
  | ready (t : Nat) (port : Nat)
  /-- ACY_RSP (R310) -/
  | acyRsp (t : Nat) (port : Nat)
  /-- PEER_FRAME (R317) -/
  | peerFrame (t : Nat) (port : Nat)
  /-- DISCOVER_TIMER (R298) -/
  | discoverTimer (t : Nat)
  /-- START_TIMEOUT (R300) -/
  | startTimeout (t : Nat) (stn : Nat)
  /-- REVAL_TIMEOUT (R302) -/
  | revalTimeout (t : Nat) (stn : Nat)
  /-- ACY_ITEM_SEND (R310) -/
  | acyItemSend (t : Nat) (stn : Nat)
  /-- ACY_RESEND (R310) -/
  | acyResend (t : Nat) (stn : Nat)
  /-- ACY_TIMEOUT (R310) -/
  | acyTimeout (t : Nat) (stn : Nat)
  /-- TEST_WAIT_END (R310) -/
  | testWaitEnd (t : Nat) (stn : Nat)
  /-- PORT_LINK_CHANGE (R305) -/
  | portLinkChange (t : Nat) (port : Nat) (up : Bool)
  /-- SHADOW_GENERATION_TIMEOUT (R272) -/
  | shadowGenerationTimeout (t : Nat)
  /-- VELOCITY (R330) -/
  | velocity (m : Nat) (cseq : Nat) (vTgt : Int) (acc dec : Int)
  /-- STOP (R330) -/
  | stop (m : Nat) (cseq : Nat) (dec : Int)
  /-- QUICK_STOP (R330) -/
  | quickStop (m : Nat) (cseq : Nat)
  /-- SETPOS (R330) -/
  | setpos (m : Nat) (cseq : Nat) (count : Int) (frac : Nat)
  /-- GEAR (R340) -/
  | gear (axis cseq master : Nat) (atAngle : Bool) (angle : Nat) (num : Int) (den : Nat)
  /-- CAM (R341) -/
  | cam (axis cseq master : Nat) (atAngle : Bool) (angle : Nat) (camId : Nat)
  /-- PHASE (R343) -/
  | phase (axis cseq : Nat) (rampTicks : Nat) (delta : Int)
  /-- DISENGAGE (R339) -/
  | disengage (axis cseq : Nat)
  /-- REG_ON (R339) -/
  | regOn (axis cseq : Nat)
  /-- REG_OFF (R339) -/
  | regOff (axis cseq : Nat)
  /-- MASTER_LOST (R334) -/
  | masterLost (t : Nat) (m : Nat)
  /-- EDGE_LAUNCH (R376) -/
  | edgeLaunch (t : Nat) (unit : Nat)
  /-- REFLEX_PIN_CHANGE (R369) -/
  | reflexPinChange (t : Nat) (pin : Nat) (level : Bool)
  /-- EDGE_CAPTURE (R374) -/
  | edgeCapture (t : Nat) (ch : Nat) (edgeLt : Nat) (rising : Bool) (held : Nat)
  /-- ARM_APPLY (R372) -/
  | armApply (t : Nat)
  /-- REFLEX_CONFIG_REWRITE (R371) -/
  | reflexConfigRewrite (t : Nat)
  /-- REFLEX_MISMATCH (R371) -/
  | reflexMismatch (t : Nat) (pin : Nat) (copy : LaneId)
  /-- LOOP_COMMAND_APPLY (R387) -/
  | loopCommandApply (t : Nat) (ch : Nat)
  /-- READBACK_SAMPLE (R393) -/
  | readbackSample (t : Nat) (ch : Nat) (crcOk : Bool) (seq na minNa : Nat) (meanNa : Option Nat) (stageNa : Nat) (disturbed : Bool)
  /-- HEADROOM_CHECK (R394) -/
  | headroomCheck (t : Nat) (ch : Nat) (mv stageNa : Nat)
  /-- NE43_FILTER_EXPIRY (R396) -/
  | ne43FilterExpiry (t : Nat) (ch : Nat)
  /-- CONVERSION_DONE (R403) -/
  | conversionDone (t : Nat) (e : Nat) (sum : Int)
  /-- URGENT_CONVERSION_DONE (R404) -/
  | urgentConversionDone (t : Nat) (e : Nat) (code : Int) (abortedCal : Bool)
  /-- CAL_DUE (R405) -/
  | calDue (t : Nat) (tempMoved : Bool)
  /-- CAL_DONE (R405) -/
  | calDone (t : Nat)
  /-- CAL_STARVED (R405) -/
  | calStarved (t : Nat)
  /-- ZERO (R399) -/
  | zero (t : Nat)
  /-- SPAN (R399) -/
  | span (t : Nat)
  /-- SELECT (R399) -/
  | select (t : Nat)
  /-- BUTTON_TRIM_DONE (R399) -/
  | buttonTrimDone (t : Nat) (meanNa : Int)
  /-- PTP_SYNC (R423) -/
  | ptpSync (t : Nat) (ext : Bool) (dom : Nat) (offset : Int) (ratePpb : Int) (gmId : Nat)
  /-- DELAY_REQ (R433) -/
  | delayReq (t : Nat) (port : Nat) (clockId seq stamp : Nat) (relayed : Bool)
  /-- DELAY_RESP (R432) -/
  | delayResp (t : Nat) (ext : Bool) (offset : Int) (gmId : Nat)
  /-- PTP_ANNOUNCE (R432) -/
  | ptpAnnounce (t : Nat) (gmId : Nat) (better : Bool) (utcValid : Bool) (utcOffset : Int)
  /-- PTP_MASTER_LOST (R425) -/
  | ptpMasterLost (t : Nat) (ext : Bool)
  /-- KEEPER_START (R420) -/
  | keeperStart (t : Nat)
  /-- LT_WAIT_EXPIRY (R421) -/
  | ltWaitExpiry (t : Nat)
  /-- TIME_MSG_TIMEOUT (R426) -/
  | timeMsgTimeout (t : Nat)
  /-- PARTNER_OWN_FALL (R465) -/
  | partnerOwnFall (t : Nat)
  /-- OWN_RAISE (R451) -/
  | ownRaise (t : Nat)
  /-- PARTNER_OWN_RISE (R453) -/
  | partnerOwnRise (t : Nat)
  /-- OWN_FALL_NO_LIVE (R452) -/
  | ownFallNoLive (t : Nat)
  /-- PARTNER_LIVE_LOST (R459) -/
  | partnerLiveLost (t : Nat)
  /-- OWN_STUCK (R455) -/
  | ownStuck (t : Nat)
  /-- LIVENESS_WATCHDOG (R450) -/
  | livenessWatchdog (t : Nat)
  /-- HALLWAY_LOST (R463) -/
  | hallwayLost (t : Nat)
  /-- START_RULE (R458) -/
  | startRule (t : Nat)
  /-- READY_HOLD_EXPIRY (R461) -/
  | readyHoldExpiry (t : Nat)
  /-- PLANNED_OWN_RELEASE (R479) -/
  | plannedOwnRelease (t : Nat)
  /-- SWITCHOVER_TIMEOUT (R478) -/
  | switchoverTimeout (t : Nat)
  /-- HALL_LANE_TRAINED (R496) -/
  | hallLaneTrained (t : Nat) (hl : Nat)
  /-- HALL_LANE_LOST (R496) -/
  | hallLaneLost (t : Nat) (hl : Nat)
  /-- HALL_TRAINING_RETRY (R496) -/
  | hallTrainingRetry (t : Nat)
  /-- HALL_LINK_BLOCK (R495) -/
  | hallLinkBlock (t : Nat) (hl : Nat) (seq : Nat) (crcOk : Bool)
  /-- HALL_IDLE_TIMER (R496) -/
  | hallIdleTimer (t : Nat)
  /-- HELLO_RESEND (R500) -/
  | helloResend (t : Nat)
  /-- ROLE_PERIODIC (R500) -/
  | rolePeriodic (t : Nat)
  /-- TIME_ECHO_PERIODIC (R500) -/
  | timeEchoPeriodic (t : Nat)
  /-- JOIN_PASS_DONE (R510) -/
  | joinPassDone (t : Nat) (pages marked : Nat)
  /-- JOIN_FINAL (R513) -/
  | joinFinal (t : Nat) (tEnd : Nat)
  /-- JOIN_TIMEOUT (R515) -/
  | joinTimeout (t : Nat)
  /-- JOIN_RETRY (R515) -/
  | joinRetry (t : Nat)
  /-- CARD_READ_DONE (R530) -/
  | cardReadDone (t : Nat)
  /-- CARD_APPEND_DONE (R532) -/
  | cardAppendDone (t : Nat) (ok : Bool)
  /-- COMPACTION_STEP_DONE (R537) -/
  | compactionStepDone (t : Nat) (ok : Bool)
  /-- COMPACTION_RETRY (R537) -/
  | compactionRetry (t : Nat)
  /-- CARD_LOCK_OPEN (R665) -/
  | cardLockOpen (t : Nat)
  /-- CARD_INSERT (R541) -/
  | cardInsert (t : Nat) (card : Card)
  /-- FW_BLOCK_WRITTEN (R567) -/
  | fwBlockWritten (t : Nat) (ok : Bool)
  /-- FW_SIGN_VERIFIED (R568) -/
  | fwSignVerified (t : Nat) (holds : Bool)
  /-- DL_IDLE_TIMEOUT (R569) -/
  | dlIdleTimeout (t : Nat)
  /-- START_WATCHDOG (R572) -/
  | startWatchdog (t : Nat)
  /-- TRIAL_GOOD (R573) -/
  | trialGood (t : Nat)
  /-- POWER_ON_START (R591) -/
  | powerOnStart (t : Nat) (side : Bool) (selectHeld : Bool)
  /-- POWER_FAIL (R591) -/
  | powerFail (t : Nat)
  /-- LEVER_OPEN (R660) -/
  | leverOpen (t : Nat)
  /-- FEED_CHANGE (R590) -/
  | feedChange (t : Nat) (feed : Bool) (mv : Nat)
  /-- SAG (R596) -/
  | sag (t : Nat) (railLow : Bool)
  /-- SAG_RECOVERY (R597) -/
  | sagRecovery (t : Nat)
  /-- SFP_FAULT (R594) -/
  | sfpFault (t : Nat) (port : Nat)
  /-- SFP_RETRY (R594) -/
  | sfpRetry (t : Nat) (port : Nat) (replaced approved : Bool)
  /-- DOMAIN_TRIP (R595) -/
  | domainTrip (t : Nat) (dom : Nat)
  /-- DOMAIN_RESTORE (R595) -/
  | domainRestore (t : Nat) (dom : Nat)
  /-- CLOCK_LOSS (R600) -/
  | clockLoss (t : Nat) (l1Only : Bool)
  /-- HEARTH_WATCHDOG (R601) -/
  | hearthWatchdog (t : Nat)
  /-- BIST_DONE (R609) -/
  | bistDone (t : Nat) (r : BistRes)
  /-- ROT_POWER_ON (R612) -/
  | rotPowerOn (t : Nat)
  /-- ROT_BIST_DONE (R613) -/
  | rotBistDone (t : Nat) (pass : Bool) (ms : Nat)
  /-- PORT_TEST_DONE (R616) -/
  | portTestDone (t : Nat) (port : Nat) (roundTrip factory : Nat)
  /-- SCAN_TEST_ENTRY (R618) -/
  | scanTestEntry (t : Nat)
  /-- BYPASS (R619) -/
  | bypass (t : Nat)
  /-- IDCODE (R619) -/
  | idcode (t : Nat)
  /-- SAMPLE_PRELOAD (R619) -/
  | samplePreload (t : Nat)
  /-- EXTEST (R619) -/
  | extest (t : Nat)
  /-- CLAMP (R619) -/
  | clamp (t : Nat)
  /-- HIGHZ (R619) -/
  | highz (t : Nat)
  /-- TLS_HANDSHAKE (R631) -/
  | tlsHandshake (t : Nat) (conn : Nat) (eng2 psa : Bool) (done chainOk datesOk : Bool) (ou : Nat) (client : Nat)
  /-- ARP_REQUEST (R627) -/
  | arpRequest (t : Nat) (eng2 : Bool) (ip : Nat)
  /-- ICMP_ECHO (R627) -/
  | icmpEcho (t : Nat) (eng2 : Bool) (ip : Nat)
  /-- ENG_LINK_CHANGE (R627) -/
  | engLinkChange (t : Nat) (eng2 up : Bool)
  /-- OPEN (R636) -/
  | openSession (t : Nat) (conn id verMin verMax : Nat)
  /-- SAVIS_CLOSE (R638) -/
  | savisClose (t : Nat) (session : Nat)
  /-- PING (R634) -/
  | ping (r : Req)
  /-- READ (R645) -/
  | read (r : Req) (b : ReadBody)
  /-- READ_MULTI (R645) -/
  | readMulti (r : Req) (bs : List ReadBody)
  /-- VIOL_VALID_CLEAR (R236) -/
  | violValidClear (r : Req) (value : W32)
  /-- WRITE (R646) -/
  | write (r : Req) (obj first ofs : Nat) (value : W32)
  /-- OUTCOME (R642) -/
  | outcome (r : Req) (id : Nat)
  /-- SUBSCRIBE (R650) -/
  | subscribe (r : Req) (no : Nat) (b : ReadBody) (change : Bool) (periodMs : Nat)
  /-- UNSUBSCRIBE (R651) -/
  | unsubscribe (r : Req) (no : Nat)
  /-- NOTIFY_DUE (R651) -/
  | notifyDue (t : Nat) (session no : Nat) (sent : Bool)
  /-- SESSION_TIMEOUT (R638) -/
  | sessionTimeout (t : Nat) (session : Nat)
  /-- OUTCOME_EXPIRY (R642) -/
  | outcomeExpiry (t : Nat) (client id : Nat)
  /-- ITEM_PREAD (R310) -/
  | itemPread (r : Req) (stn : Nat) (idem : Bool) (timeoutMs index sub : Nat) (data : List Byte)
  /-- ITEM_PWRITE (R310) -/
  | itemPwrite (r : Req) (stn : Nat) (idem : Bool) (timeoutMs index sub : Nat) (data : List Byte)
  /-- ITEM_COMMAND (R310) -/
  | itemCommand (r : Req) (stn : Nat) (idem : Bool) (timeoutMs index sub : Nat) (data : List Byte)
  /-- ITEM_DIAG (R310) -/
  | itemDiag (r : Req) (stn : Nat) (idem : Bool) (timeoutMs index sub : Nat) (data : List Byte)
  /-- IMG_OPEN (R649) -/
  | imgOpen (r : Req) (load : Bool) (length : Nat)
  /-- IMG_BLOCK (R649) -/
  | imgBlock (r : Req) (ofs len : Nat) (writeOk : Bool)
  /-- IMG_END_CHANGE (R194) -/
  | imgEndChange (r : Req) (digest : Nat) (image : Image)
  /-- IMG_END_COLD (R190) -/
  | imgEndCold (r : Req) (digest : Nat) (image : Image)
  /-- IMG_END_MAPPED (R190) -/
  | imgEndMapped (r : Req) (digest : Nat) (image : Image)
  /-- IMG_ABANDON (R649) -/
  | imgAbandon (r : Req)
  /-- IMG_UPLOAD_TIMEOUT (R649) -/
  | imgUploadTimeout (t : Nat)
  /-- RESTART_COLD (R189) -/
  | restartCold (r : Req)
  /-- RESTART_WARM (R189) -/
  | restartWarm (r : Req)
  /-- RESTART_AUTO (R189) -/
  | restartAuto (r : Req)
  /-- SWITCHOVER (R477) -/
  | switchover (r : Req)
  /-- HEARTH_RESET (R601) -/
  | hearthReset (r : Req)
  /-- LOOP_TRIM (R398) -/
  | loopTrim (r : Req) (side : Bool) (ch : Nat) (zero span : Int)
  /-- LAT_TRIM (R438) -/
  | latTrim (r : Req) (side : Bool) (port : Nat) (tx rx : Int)
  /-- RESTEP (R430) -/
  | restep (r : Req)
  /-- SET (R430) -/
  | setTime (r : Req) (v : TimeVal)
  /-- FW_OPEN (R566) -/
  | fwOpen (r : Req) (h : PkgHdr)
  /-- FW_BLOCK (R567) -/
  | fwBlock (r : Req) (i : Nat) (crc : W32)
  /-- FW_SIGN (R568) -/
  | fwSign (r : Req)
  /-- FW_ABANDON (R569) -/
  | fwAbandon (r : Req)
  /-- FW_ACTIVATE (R575) -/
  | fwActivate (r : Req) (bank : Nat) (minPfl : Nat)
  /-- PROJ_ENROLL (R581) -/
  | projEnroll (r : Req) (pubDigest : Nat) (imageHolds endorsed : Bool)
  /-- PROJ_CLEAR (R585) -/
  | projClear (r : Req)
  /-- ROT_TEST (R611) -/
  | rotTest (r : Req) (lane : Option LaneId)
  /-- PORT_TEST (R616) -/
  | portTest (r : Req) (port : Nat) (pcs : Bool)
  /-- DBG_OPEN (R620) -/
  | dbgOpen (r : Req) (clockReal : Bool)
  /-- DBG_CLOSE (R621) -/
  | dbgClose (r : Req)
  /-- DBG_HALT (R120) -/
  | dbgHalt (r : Req) (n : Nat)
  /-- DBG_STEP (R120) -/
  | dbgStep (r : Req) (n : Nat)
  /-- DBG_RESUME (R123) -/
  | dbgResume (r : Req)
  /-- DBG_BREAK (R620) -/
  | dbgBreak (r : Req) (sel : Nat) (eng pc : Nat) (set : Bool)
  /-- DBG_READ (R122) -/
  | dbgRead (r : Req) (addr len : Nat)
  /-- DBG_WRITE (R122) -/
  | dbgWrite (r : Req) (addr : Nat) (bytes : List Byte)
  /-- CARD_COMPACT (R536) -/
  | cardCompact (r : Req) (layout2 : Bool)
  /-- CARD_REWRITE (R541) -/
  | cardRewrite (r : Req)
  /-- NET_SET (R630) -/
  | netSet (r : Req) (target : Nat) (eng2 : Bool) (tcpPort address pfx gateway : Nat)
  /-- CA_SET (R633) -/
  | caSet (r : Req) (anchors : List Nat)
  /-- STATUS (R585) -/
  | status (r : Req)
  /-- PORCH_RESET (R585) -/
  | porchReset (r : Req)
  /-- FIRMWARE_START (R602) -/
  | firmwareStart (t : Nat) (sigOk0 sigOk1 : Bool)
  /-- BUILD_DONE (R265) -/
  | buildDone (t : Nat)
  /-- STROKE (R450) -/
  | stroke (t : Nat)
  /-- SFP_REMOVED (R594) -/
  | sfpRemoved (t : Nat) (port : Nat)
  /-- SVC_SWITCH_OFF (R591) -/
  | svcSwitchOff (t : Nat)
  /-- PARTNER_LIVE_SEEN (R458) -/
  | partnerLiveSeen (t : Nat)
  /-- HALL_TRAINING_TIMEOUT (R496) -/
  | hallTrainingTimeout (t : Nat)
  /-- DELAY_REQ_TIMER (R431) -/
  | delayReqTimer (t : Nat) (ext : Bool)
  /-- FRAMING_ERROR (R639) -/
  | framingError (t : Nat) (session : Nat)
  /-- CARD_LOCK_CLOSE (R665) -/
  | cardLockClose (t : Nat)
  /-- CARD_REMOVED (R555) -/
  | cardRemoved (t : Nat)
deriving DecidableEq, Repr

end Sys2Proof
end

