-- ==== Sys2Proof/Machine/Point.lean ====
section
/-! DEFINITION. Point references and typed values of the process image (R149, R150, R243). -/
namespace Sys2Proof.Machine

/-- The area of a point reference, bits [31:30] (R243). -/
def pointArea (p : W32) : Area :=
  match (p >>> 30).toNat with
  | 0 => .imgIn
  | 1 => .imgOut
  | 2 => .axIn
  | _ => .axOut

/-- The type code, bits [29:27] (R243). -/
def pointType (p : W32) : Nat := (p.extractLsb' 27 3).toNat
/-- The reserved bits [26:23] (R243). -/
def pointRsvd (p : W32) : Nat := (p.extractLsb' 23 4).toNat
/-- The byte offset, bits [22:3] (R243). -/
def pointOfs (p : W32) : Nat := (p.extractLsb' 3 20).toNat
/-- The bit in the byte, bits [2:0] (R243). -/
def pointBit (p : W32) : Nat := (p.extractLsb' 0 3).toNat

/-- The size in bytes of a value of a type code (R149). -/
def typeSize : Nat → Nat
  | 0 => 1 | 1 => 2 | 2 => 4 | 3 => 8 | 4 => 4 | 5 => 8 | 6 => 12 | _ => 8

/-- The alignment in bytes of a type code (R149). -/
def typeAlign : Nat → Nat
  | 0 => 1 | 1 => 2 | 2 => 4 | 3 => 8 | 4 => 4 | 5 => 8 | 6 => 8 | _ => 1

/-- The size of an area in bytes (R22). -/
def areaSize : Area → Nat
  | .imgIn | .imgOut => 0x100000
  | .axIn | .axOut => 0x10000

/-- The bytes of an area. -/
def Areas.get (a : Areas) : Area → Mem 8
  | .imgIn => a.imgIn | .imgOut => a.imgOut | .axIn => a.axIn | .axOut => a.axOut

/-- Replaces the bytes of an area. -/
def Areas.put (a : Areas) (k : Area) (m : Mem 8) : Areas :=
  match k with
  | .imgIn => { a with imgIn := m } | .imgOut => { a with imgOut := m }
  | .axIn => { a with axIn := m } | .axOut => { a with axOut := m }

/-- Copies a byte range of an area from one image to another. -/
def Areas.copyRange (src dst : Areas) (r : Range) : Areas :=
  dst.put r.area (memCopy (src.get r.area) (dst.get r.area) r.start r.len)

/-- A point reaches past the end of its area (R243). -/
def pointPast (p : W32) : Bool :=
  decide (areaSize (pointArea p) < pointOfs p + typeSize (pointType p))

/-- A point misaligned for its type, or a non-BOOL point with a bit field (R149). -/
def pointMisaligned (p : W32) : Bool :=
  pointOfs p % typeAlign (pointType p) != 0 || (pointType p != 0 && pointBit p != 0)

/-- A byte range holds `n` bytes from an offset. -/
def rangeHolds (r : Range) (a : Area) (o n : Nat) : Bool :=
  decide (r.area = a) && decide (r.start ≤ o) && decide (o + n ≤ r.start + r.len)

/-- Every byte of the range lies in one of the ranges (R148). -/
def bytesIn (rs : List Range) (a : Area) (o : Nat) : Nat → Bool
  | 0 => true
  | n + 1 => (rs.any fun r => rangeHolds r a o 1) && bytesIn rs a (o + 1) n

/-- The signed value of `n` little-endian bytes. -/
def memInt (m : Mem 8) (a n : Nat) : Int := (BitVec.ofNat (8 * n) (memNat m a n)).toInt

/-- A TURN96 value in 2^-32 turn: the signed count and the fraction (R150). -/
def memTurn (m : Mem 8) (a : Nat) : Int := memInt m a 8 * 2 ^ 32 + memNat m (a + 8) 4

/-- The bytes of a TURN96 value given in 2^-32 turn (R150). -/
def turnBytes (x : Int) : List Byte :=
  leBytes (BitVec.ofInt 64 (x / 2 ^ 32)).toNat 8 ++ leBytes (x % 2 ^ 32).toNat 4

/-- The value a source point of an external master gives, in source units (R332). -/
def sourceValue (a : Areas) (ty : SrcType) (p : W32) : Int :=
  let m := a.get (pointArea p)
  match ty with
  | .turn96 => memTurn m (pointOfs p)
  | .int32 => memInt m (pointOfs p) 4
  | .int64 => memInt m (pointOfs p) 8

end Sys2Proof.Machine
end

