-- ==== Sys2Proof/Config.lean ====
section
/-! DEFINITION. What one module's build fixes and what the manual leaves open. The free values have no
body: nothing proved about the model can rest on a value of theirs. -/
namespace Sys2Proof.Config

/-- A value that the manual does not state, applied to a counter of the state (log entry 8). -/
opaque freeNat : Nat → Nat

/-- Whether a fused multiply-add of zero and infinity with a quiet NaN addend raises invalid: IEEE 754
leaves it to the implementation and R156 refers to IEEE 754 (log entry 9). -/
opaque fmaInvalid : FWidth → W64 → W64 → W64 → Bool

/-- The MAC address of a line port (R281): the manual gives none (log entry 12). -/
opaque portMac : Nat → BitVec 48

end Sys2Proof.Config
end

