-- ==== Sys2Proof/Machine/Parts/Hall.lean ====
section
/-! DEFINITION. State of the Hallway link and of a join (R494-R522). -/
namespace Sys2Proof.Machine

/-- Link states, coded as in HALL.STATUS.LINK (R521). -/
inductive Link4 | down | training | hello | up | refused
deriving DecidableEq, Repr, Inhabited

/-- Join phases, coded as in HALL.JOIN.PHASE (R522). -/
inductive JPhase | none | admitting | open | first | converge | wait | final | compare
deriving DecidableEq, Repr, Inhabited

/-- A digest of a voted checkpoint (R104, R508). -/
structure Dig where
  kind : W32
  relTick : Nat
  ord : Nat
  full : Bool
  chg : W64
  dfull : W64
deriving DecidableEq, Repr, Inhabited

/-- The Hallway link (R495-R499) and the join in progress (R510-R515): agreed values and partner data of
HELLO, sequence counts by class, moments of the last message sent and received, the owner's digests and
the own checkpoints that wait for one (R508), forwarded live samples (R90), the stream position of link
blocks, the pages marked, and the figures of HALL (R520). -/
structure Hall where
  link : Link4
  hl0 : Bool
  hl1 : Bool
  trainSince : Nat
  pflNow : Nat
  hofNow : Nat
  result : Nat
  own : Option Hello
  partner : Option Hello
  agree : Option Agree
  partnerAgree : Option Agree
  txSeq : Tab Nat
  rxSeq : Tab Nat
  lastTx : Nat
  lastRx : Nat
  lastTime : Option (Nat × Nat × TimeVal × TimeVal)
  delayPs : Int
  ownerDigs : List Dig
  ownDigs : List (Nat × Dig)
  live : List FwdLive
  samples : List Frozen
  blockSeq : Nat
  blocksTx : Nat
  join : JPhase
  sender : Bool
  last : Nat
  marked : Nat
  openAt : Option Nat
  endedAt : Option Nat
  donor : LaneId
  fmt : Nat
  cut : Option Nat
  compared : List Nat
  verdict : Option Nat
  txMsgs : Nat
  rxMsgs : Nat
  replays : Nat
  chkErr : Nat
  linkDowns : Nat
  joinPages : Nat
  joinUs : Nat
  partnerFw : Nat
  partnerHw : Nat
  partnerOrder : Nat
deriving DecidableEq, Repr, Inhabited

/-- The link down and no join (R521, R522). -/
def Hall.zero : Hall :=
  ⟨.down, false, false, 0, 0, 0, 0, none, none, none, none, [], [], 0, 0, none, 0, [], [], [], [], 0, 0, .none,
   false, 0, 0, none, none, .A, 0, none, [], none, 0, 0, 0, 0, 0, 0, 0, 0, 0, 0⟩

end Sys2Proof.Machine
end

