-- ==== Sys2Proof/Machine/Parts/Pair.lean ====
section
/-! DEFINITION. State of the BOLT lines and the pair (R447-R493). -/
namespace Sys2Proof.Machine

/-- The BOLT logic (R447-R455). Moments are in ns of the time base: since when the partner's OWN reads
low, the partner's last LIVE edge as far as it was lost, the own raise, and the last stroke. -/
structure Bolt where
  side : Bool
  ownSelf : Bool
  ownPartner : Bool
  permit : Bool
  liveSelf : Bool
  livePartner : Bool
  bistLatch : Bool
  armed : Bool
  request : Bool
  ownStuck : Bool
  contention : Bool
  wdExpired : Bool
  partnerLow : Nat
  partnerFall : Option Nat
  raisedAt : Option Nat
  lastStroke : Nat
  liveSeen : Option Nat
  liveLast : Nat
  started : Nat
deriving DecidableEq, Repr, Inhabited

/-- Planned switchover states, coded as in PAIR.ROLE.PLAN (R491). -/
inductive PlanState | idle | waiting | go | done | refused | failed
deriving DecidableEq, Repr, Inhabited

/-- A planned switchover (R477-R481): its state, the request, when it was accepted, the switch tick, and
whether its launch list was released. -/
structure Plan where
  st : PlanState
  key : Option (Nat × Nat)
  since : Nat
  tick : Option Nat
  entries : List (Nat × Nat × Nat × Nat)
  released : Bool
deriving DecidableEq, Repr, Inhabited

/-- The pair: role, the partner's role as reported, agreed level and formats (R487, R502), what the
partner last reported, the epoch and what it may be computed from (R456), readiness (R460, R461) and as it stood before the
service action in progress (R484), whether the first build after the raise is due (R467), the owner's tick in
which its OWN fell (R466), and the figures of PAIR (R490). -/
structure Pair where
  role : Role
  partner : Option Role
  partnerReady : Bool
  partnerKey : KeyPos
  partnerFail : W32
  outCause : Nat
  pfl : Nat
  hof : Nat
  epoch : BitVec 16
  epochSeen : Option (BitVec 16)
  epochAttic : Option (BitVec 16)
  epochHeld : Option (BitVec 16)
  digestsOk : Bool
  ready : Bool
  holdSince : Option Nat
  readyBefore : Bool
  decider : Bool
  shadowTiming : Bool
  gapTicks : Nat
  fallTick : Option Nat
  keyDiffer : Bool
  plan : Plan
  lastFrom : Nat
  lastTo : Nat
  lastCause : Nat
  changeTick : Nat
  takeovers : Nat
  planned : Nat
  joins : Nat
  gapNs : Nat
  reissued : Nat
  itemsFailed : Nat
  lateSw : Nat
  firstBuild : Bool
deriving DecidableEq, Repr, Inhabited

/-- Every line low (R492). -/
def Bolt.zero : Bolt :=
  ⟨false, false, false, false, false, false, false, false, false, false, false, false, 0, none, none, 0, none,
   0, 0⟩

/-- No planned switchover (R491). -/
def Plan.zero : Plan := ⟨.idle, none, 0, none, [], false⟩

/-- Role OUT, partner unknown (R491, R493). -/
def Pair.zero : Pair :=
  ⟨.out, none, false, .run, 0, 0, 0, 0, 0, none, none, none, true, false, none, false, false,
   false, 0, none, false, Plan.zero, 0xF, 0, 0, 0, 0, 0, 0, 0, 0, 0, 0, false⟩

end Sys2Proof.Machine
end

