-- ==== Sys2Proof/Machine/Parts/Program.lean ====
section
/-! DEFINITION. State of the program: the image, the restart, keys, online changes, requests of block code,
the event queue, exceptions and debug halts (R119-R125, R168-R214). -/
namespace Sys2Proof.Machine

/-- What the program does, coded as in PROGRAM.STATE.RUN (R212). -/
inductive RunSt | noImage | starting | running | haltedKey | haltedDebug | joining
deriving DecidableEq, Repr, Inhabited

/-- States of a change, coded as in PROGRAM.CHANGE.STATE (R214). -/
inductive ChgState | idle | checking | staged | applied | refused | discarded
deriving DecidableEq, Repr, Inhabited

/-- The program (R177-R214): running image, restart figures of PROGRAM.STATE, keys (R182, R183), the change
in progress with its request, moments, verdicts and the retained words that its remap wrote (R194-R198, R551), the load in progress (R190, R539), the
waiting restart request (R189), requests of block code with the moment of their final outcome (R168-R170),
the event queue (R181, R199) and the records frozen for execution (R180), the frozen set in force (R84), the
tick edges that fell in a halt (R192), and exceptions (R175, R176). `partnerStale` says that the shadow is to leave after the
first checkpoint that follows a restart or load (R189). `awaitFirst` holds from a restart or load,
and from pair mode HALT, to the release at a tick n with n mod k_max = 0 (R185, R191). -/
structure Program where
  image : Option Image := none
  run : RunSt := .noImage
  restart : Nat := 0
  by_ : Nat := 0
  coldWhy : Nat := 0
  mapped : Bool := false
  ownKey : KeyPos := .run
  keyAt : Nat := 0
  pairKey : KeyPos := .run
  chgState : ChgState := .idle
  chgReason : Nat := 0
  chgField : Nat := 0
  chgTick : Nat := 0
  chgInst : Nat := 0
  changes : Nat := 0
  staged : Option Image := none
  lanesStaged : Bool := false
  cardStaged : Bool := false
  remapped : Bool := false
  remapRet : List (Nat × W64) := []
  chgSince : Nat := 0
  chgKey : Option (Nat × Nat) := none
  partnerVerdict : Option Nat := none
  go : Option Nat := none
  load : Option Image := none
  loadMapped : Bool := false
  partnerStale : Bool := false
  restartKey : Option (Nat × Nat) := none
  awaitFirst : Bool := true
  reqTab : Tab Outc := []
  reqEnd : Tab Nat := []
  events : List Event := []
  errRun : List ErrRec := []
  evLostRun : Nat := 0
  evSeq : Nat := 0
  evQueued : Nat := 0
  evLost : Nat := 0
  evUnhandled : Nat := 0
  frozen : Frozen := default
  haltedTicks : Nat := 0
  excCount : Nat := 0
  excCode : Nat := 0
  excEng : Nat := 0
  excCls : Nat := 7
  excInst : Nat := 0
  excTick : Nat := 0
deriving DecidableEq, Repr, Inhabited

end Sys2Proof.Machine
end

