-- ==== Sys2Proof/Machine/Parts/Store.lean ====
section
/-! DEFINITION. State of the configuration card controller and of the Attic (R523-R557). -/
namespace Sys2Proof.Machine

/-- Results of the card read, coded as in CARD.STATUS.READ (R555). -/
inductive CardRead | notRead | ok | noCard | unusable | noSuper | layout | baseCrc | image
deriving DecidableEq, Repr, Inhabited

/-- Why a base is written (R536-R541). -/
inductive CompKind | compact | load | rewrite | command
deriving DecidableEq, Repr, Inhabited

/-- A compaction, load or rewrite in progress (R537): its step (1 base, 2 superblock), the image and trims
of the base, the JSEQ of the first record after the cut, the layout to write, and its request. -/
structure Comp where
  kind : CompKind
  step : Nat
  image : Image
  trims : List Trim
  cutSeq : Nat
  layout : Nat
  key : Option (Nat × Nat)
deriving DecidableEq, Repr, Inhabited

/-- An append that waits or runs (R532): its body, the request that ends with it, the trim that a failed one gives back
(R534), and whether the request waited for a calibration (R398). -/
structure Append where
  body : JBody
  key : Option (Nat × Nat)
  undo : Option Trim := none
  delayed : Bool := false
deriving DecidableEq, Repr, Inhabited

/-- The card controller: the seated card (non-volatile), lock, the read result (R530), the append queue
and its tries (R534), the compaction in progress, and the figures of CARD (R554). `unread` marks a card
inserted while the module runs (R541); `blocked` the new digest whose commit appends wait for (R533); a compaction of step 0 waits for `retryAt`; `lastSb` is the superblock that the module read
or wrote last. -/
structure CardCtl where
  card : Option Card
  locked : Bool
  writable : Bool
  read : CardRead
  layout : Nat
  base : Bool
  rewriteDue : Bool
  unread : Bool
  effImage : Option Image
  queue : List Append
  tries : Nat
  blocked : Option Nat
  comp : Option Comp
  retryAt : Option Nat
  nextSeq : Nat
  lastSb : Option Super
  appends : Nat
  retries : Nat
  compactions : Nat
deriving DecidableEq, Repr, Inhabited

/-- Header states of the Attic, coded as in ATTIC.STATUS.STATE (R557). -/
inductive AtticState | empty | refilling | valid
deriving DecidableEq, Repr, Inhabited

/-- A commit record (R545). `clocks` by class index: task clock and release tick. -/
structure Commit where
  nTick : Nat
  relTick : Nat
  kind : W32
  covers : Nat
  epoch : BitVec 16
  generation : Nat
  digest : Nat
  clocks : Tab (Nat × Nat)
deriving DecidableEq, Repr, Inhabited

/-- A header (R543). -/
structure AHeader where
  valid : Bool
  state : AtticState
  aGen : Nat
  appliedSeq : Nat
  serial : Nat
  last : Option Commit
deriving DecidableEq, Repr, Inhabited

/-- A journal record (R544). -/
inductive ARec
  | ret (words : List (Nat × W64))
  | commit (c : Commit)
  | refillStart
  | refillEnd (n : Nat)
deriving DecidableEq, Repr, Inhabited

/-- A journal record with its ASEQ, and when it was written in ns of the time base (R546, R547). -/
structure AEnt where
  aseq : Nat
  at_ : Nat
  body : ARec
deriving DecidableEq, Repr, Inhabited

/-- The Attic (R542): headers, home words by word number, journal; the checkpoints voted and not yet
committed (R546), the newest task clock and release tick of each class (R545), the
journal record next to apply and the last commit applied (R547), and the figures of ATTIC (R556). The headers,
`home`, `journal`, `bad` and `nextSeq` are non-volatile; `found` is the commit found at power-up, `refilling`
holds from REFILL_START to REFILL_END. -/
structure Attic where
  hdrA : AHeader
  hdrB : AHeader
  home : Mem 64
  journal : List AEnt
  bad : Bool
  nextSeq : Nat
  pendCovers : Nat
  pendKind : W32
  pendRel : Nat
  pendSince : Nat
  clocks : Tab (Nat × Nat)
  applied : Nat
  appliedLast : Option Commit
  lastCommit : Option Nat
  fault : Bool
  found : Option Commit
  mapped : Bool
  refilling : Bool
  commitTick : Nat
  commits : Nat
  retWords : Nat
  corrected : Nat
  lagUs : Nat
  loadKey : Option (Nat × Nat)
deriving DecidableEq, Repr, Inhabited

/-- A blank header. -/
def AHeader.zero : AHeader := ⟨false, .empty, 0, 0, 0, none⟩

/-- No card seated (R555). -/
def CardCtl.zero : CardCtl :=
  ⟨none, false, false, .notRead, 0, false, false, false, none, [], 0, none, none, none, 0, none, 0, 0, 0⟩

/-- A blank Attic (R557). -/
def Attic.zero : Attic :=
  ⟨.zero, .zero, [], [], false, 0, 0, 0, 0, 0, [], 0, none, none, false, none, false, false, 0, 0, 0, 0, 0, none⟩

end Sys2Proof.Machine
end

