-- ==== Sys2Proof/Machine/Parts/Call.lean ====
section
/-! DEFINITION. The requests of the engineering queue with their arguments (R640, R648). -/
namespace Sys2Proof.Machine

/-- A request as the engineering queue holds it: one constructor per request of the Savis link that passes the queue, with the
arguments of its command. -/
inductive Call
  | read (b : ReadBody)
  | readMulti (bs : List ReadBody)
  | violValidClear (value : W32)
  | write (obj first ofs : Nat) (value : W32)
  | outcome (id : Nat)
  | subscribe (no : Nat) (b : ReadBody) (change : Bool) (periodMs : Nat)
  | imgOpen (load : Bool) (length : Nat)
  | imgBlock (ofs len : Nat) (writeOk : Bool)
  | imgEndChange (digest : Nat) (image : Image)
  | imgEndCold (digest : Nat) (image : Image)
  | imgEndMapped (digest : Nat) (image : Image)
  | imgAbandon
  | restartCold
  | restartWarm
  | restartAuto
  | switchover
  | hearthReset
  | loopTrim (side : Bool) (ch : Nat) (zero span : Int)
  | latTrim (side : Bool) (port : Nat) (tx rx : Int)
  | restep
  | setTime (v : TimeVal)
  | fwOpen (h : PkgHdr)
  | fwBlock (i : Nat) (crc : W32)
  | fwSign
  | fwAbandon
  | fwActivate (bank : Nat) (minPfl : Nat)
  | projEnroll (pubDigest : Nat) (imageHolds endorsed : Bool)
  | projClear
  | rotTest (lane : Option LaneId)
  | portTest (port : Nat) (pcs : Bool)
  | dbgOpen (clockReal : Bool)
  | dbgClose
  | dbgHalt (n : Nat)
  | dbgStep (n : Nat)
  | dbgResume
  | dbgBreak (sel : Nat) (eng pc : Nat) (set : Bool)
  | dbgRead (addr len : Nat)
  | dbgWrite (addr : Nat) (bytes : List Byte)
  | cardCompact (layout2 : Bool)
  | cardRewrite
  | netSet (target : Nat) (eng2 : Bool) (tcpPort address pfx gateway : Nat)
  | caSet (anchors : List Nat)
  | status
  | porchReset
  | itemPread (stn : Nat) (idem : Bool) (timeoutMs index sub : Nat) (data : List Byte)
  | itemPwrite (stn : Nat) (idem : Bool) (timeoutMs index sub : Nat) (data : List Byte)
  | itemCommand (stn : Nat) (idem : Bool) (timeoutMs index sub : Nat) (data : List Byte)
  | itemDiag (stn : Nat) (idem : Bool) (timeoutMs index sub : Nat) (data : List Byte)
deriving DecidableEq, Repr, Inhabited

end Sys2Proof.Machine
end

