-- ==== Sys2Proof/Machine/Parts/System.lean ====
section
/-! DEFINITION. State of the units around the program: access units (R215-R242), firmware store (R558-R589),
power and start-up (R590-R607), self-test and debug (R608-R626), Savis link (R627-R657). -/
namespace Sys2Proof.Machine

/-- A region of a privileged master (R223, R242). -/
structure Region where
  start : Nat := 0
  stop : Nat := 0
  en : Bool := false
  rwx : BitVec 3 := 0
deriving DecidableEq, Repr, Inhabited

/-- One bank of rules (R221, R223): permissions of user master m for slot s under number 32 m + s, and
region r of privileged master p under number 16 p + r. -/
structure RuleBank where
  perm : Tab (BitVec 3) := []
  regions : Tab Region := []
deriving DecidableEq, Repr, Inhabited

/-- The access units (R221-R240): both banks, the seal and whether it is taken for the next edge, the
masters whose unit answers TABLE_ERROR, and the captured violation. -/
structure Access where
  active : RuleBank := {}
  pend : RuleBank := {}
  bank : Bool := false
  sealed : Bool := false
  sealNext : Bool := false
  tableErr : List Nat := []
  viol : W32 := 0
  violAddr : Nat := 0
  violTick : Nat := 0
  violInst : Nat := 0
  violCount : Nat := 0
  swaps : Nat := 0
deriving DecidableEq, Repr, Inhabited

/-- Bank states, coded as in UPDATE.BANK0.STATE (R589). -/
inductive BankSt | empty | writing | staged | trial | good | failed
deriving DecidableEq, Repr, Inhabited

/-- A firmware bank: its record (R570) and the header of the package in it (R558). -/
structure Bank where
  st : BankSt := .empty
  tries : Nat := 0
  fwVer : Nat := 0
  seq : Nat := 0
  svn : Nat := 0
  reason : Nat := 0
  pkg : Option PkgHdr := none
deriving DecidableEq, Repr, Inhabited

/-- Download states, coded as in UPDATE.STATUS.DL (R587). -/
inductive DlState | idle | receiving | verifying | staged | failed
deriving DecidableEq, Repr, Inhabited

/-- The firmware store, the keys (R562-R564, R580), the download in progress (R565-R569) and the boot
(R571-R573, R583). `dlQueue` holds the blocks that wait to be written, the first in writing, with
their requests, `dlKey` the FW_SIGN under way. Banks, fuses and the project key are non-volatile. -/
structure Update where
  bank0 : Bank := {}
  bank1 : Bank := {}
  slotDig : List (Option Nat) := [none, none, none]
  revoked : BitVec 3 := 0
  svnFused : Nat := 0
  project : Option Nat := none
  runBank : Bool := false
  fallback : Bool := false
  dl : DlState := .idle
  dlReason : Nat := 0
  dlPkg : Option PkgHdr := none
  dlBank : Bool := false
  dlDone : List Nat := []
  dlLast : Nat := 0
  dlQueue : List (Nat × (Nat × Nat)) := []
  dlTry : Nat := 0
  dlKey : Option (Nat × Nat) := none
  blkRejected : Nat := 0
  stagedCount : Nat := 0
  porch : Bool := false
  porchByKey : Bool := false
  trialFrom : Option Nat := none
deriving DecidableEq, Repr, Inhabited

/-- Where the start-up of R602 stands. -/
inductive Boot | off | bist | bistFail | rom | cardRead | ready | started | porch
deriving DecidableEq, Repr, Inhabited

/-- Power, clocks and start-up (R590-R607). Feed voltages in mV; moments in ns of the time base. `sagAt` is the last
sag, from which a return waits (R597); `leverOpen` the feed switch (R660); `failing` a power fail with SVC kept (R591). -/
structure Power where
  boot : Boot := .off
  leverOpen : Bool := false
  feed1 : Nat := 0
  feed2 : Nat := 0
  sag : Bool := true
  sagAt : Nat := 0
  l1Lost : Bool := false
  railLow : Bool := false
  on : BitVec 14 := 1
  tripped : BitVec 14 := 0
  resetCause : Nat := 0
  startedAt : Nat := 0
  handedOver : Nat := 0
  feedDrops : Nat := 0
  trips : Nat := 0
  tripAt : Tab Nat := []
  sfpFault : List Nat := []
  sfpTried : List Nat := []
  sfpAt : Tab Nat := []
  failing : Bool := false
deriving DecidableEq, Repr, Inhabited

/-- States of the rotation test, coded as in SELFTEST.ROT.STATE (R625). -/
inductive RotSt | idle | waitEdge | power | bist | resync | done | failed | aborted
deriving DecidableEq, Repr, Inhabited

/-- Instructions of the boundary-scan port (R619). -/
inductive ScanIr | none | bypass | idcode | sample | extest | clamp | highz
deriving DecidableEq, Repr, Inhabited

/-- A breakpoint (R620). -/
structure Brk where
  eng : Nat := 0
  pc : Nat := 0
deriving DecidableEq, Repr, Inhabited

/-- A request that a port carries out in turn (R616, R617): a loopback test, at the PCS or the PMA, or, with values, a latency
trim that waits for the end of one; `delayed` when it waited for a test. -/
structure PortJob where
  port : Nat := 0
  pcs : Bool := false
  trim : Option (Int × Int) := none
  key : Nat × Nat := (0, 0)
  delayed : Bool := false
deriving DecidableEq, Repr, Inhabited

/-- Self-test and debug (R608-R626): BIST results, the rotation test and the lanes it has yet to take, port
tests, the debug session and its halt (R119-R123), and the boundary-scan port (R618, R619). -/
structure Test where
  bist : Option BistRes := none
  bistPass : Bool := false
  rot : RotSt := .idle
  rotLane : LaneId := .A
  rotAll : Bool := false
  rotLeft : List LaneId := []
  rotKey : Option (Nat × Nat) := none
  rotAt : Nat := 0
  rotMsOf : List Nat := [0, 0, 0]
  rotRuns : Nat := 0
  rotFails : Nat := 0
  rotMs : Nat := 0
  reqDelayed : Nat := 0
  reqBusy : Nat := 0
  portTests : Nat := 0
  portJobs : List PortJob := []
  dbgOpen : Option Nat := none
  halted : Bool := false
  halting : Bool := false
  haltKey : Option (Nat × Nat) := none
  targets : Tab Nat := []
  clockReal : Bool := false
  breaks : Tab Brk := []
  scan : Bool := false
  ir : ScanIr := .none
deriving DecidableEq, Repr, Inhabited

/-- Roles of a Savis session (R634), coded as in SAVIS.SESSION.STATE (R657). -/
inductive SRole | viewer | operator | engineer
deriving DecidableEq, Repr, Inhabited

/-- A subscription (R650, R651). -/
structure Sub where
  reqId : Nat := 0
  body : ReadBody := ⟨0, 0, 0, 0, 0⟩
  change : Bool := false
  period : Nat := 0
  due : Nat := 0
  last : List Byte := []
  unsent : Bool := false
  skipped : Nat := 0
deriving DecidableEq, Repr, Inhabited

/-- A Savis session (R636, R657). -/
structure Sess where
  conn : Nat := 0
  role : SRole := .viewer
  ver : Nat := 0
  eng2 : Bool := false
  psa : Bool := false
  client : Nat := 0
  openTick : Nat := 0
  last : Nat := 0
  subs : Tab Sub := []
deriving DecidableEq, Repr, Inhabited

/-- A connection that has ended its TLS handshake and waits for OPEN (R631, R636). -/
structure Conn where
  eng2 : Bool := false
  psa : Bool := false
  role : Option SRole := none
  client : Nat := 0
deriving DecidableEq, Repr, Inhabited

/-- An engineering request (R640-R642): its session, method code, state, and when retained its final outcome,
reason, reply data and the moment it ended. `cmd` is the request itself until it starts; `role` that of its session; `bodyOk` says
that its body has the form of its method (R648); `pended` says that
PENDING was told; `mirrored` that the shadow keeps it too (R642); `foreign` one that the owner mirrored here or passed on
as a CMD; `viaCmd` that its outcome answers a CMD (R647). -/
structure SReq where
  client : Nat := 0
  id : Nat := 0
  session : Nat := 8
  role : SRole := .viewer
  method : Nat := 0
  bodyOk : Bool := true
  cmd : Option Call := none
  pended : Bool := false
  mirrored : Bool := false
  foreign : Bool := false
  viaCmd : Bool := false
  outcome : Option Outc := none
  reason : Nat := 0
  data : List Byte := []
  ended : Nat := 0
deriving DecidableEq, Repr, Inhabited

/-- An upload in progress (R649). -/
structure Upload where
  load : Bool := false
  length : Nat := 0
  next : Nat := 0
  last : Nat := 0
deriving DecidableEq, Repr, Inhabited

/-- The network record (R628); addresses as 32-bit numbers, 0 for none. -/
structure Net where
  own1 : Nat := 0
  pfx1 : Nat := 0
  gw1 : Nat := 0
  own2 : Nat := 0
  pfx2 : Nat := 0
  gw2 : Nat := 0
  psa1 : Nat := 0
  psaPfx1 : Nat := 0
  psa2 : Nat := 0
  psaPfx2 : Nat := 0
  tcp : Nat := 31790
deriving DecidableEq, Repr, Inhabited

/-- The Savis link (R627-R657). Network record and trust anchors are non-volatile. `cmdOut` holds the requests passed to the
partner as a CMD, the `Pend` fields what this module enrols on the partner's DONE. `hwRev`, `order`, `serial`
and `fwVer` are the figures of MODULE (R653, R654). -/
structure Savis where
  net : Net := {}
  anchors : List Nat := []
  eng1 : Bool := false
  eng2 : Bool := false
  conns : Tab Conn := []
  sess : Tab Sess := []
  reqs : List SReq := []
  upload : Option Upload := none
  netPend : Option (Net × (Nat × Nat)) := none
  caPend : Option (List Nat × (Nat × Nat)) := none
  projPend : Option (Nat × (Nat × Nat)) := none
  cmdOut : List (Nat × Nat) := []
  hwRev : Nat := 0
  order : Nat := 0
  serial : Nat := 0
  fwVer : Nat := 0
  opens : Nat := 0
  tlsFails : Nat := 0
  requests : Nat := 0
  refused : Nat := 0
  rejected : Nat := 0
  skipped : Nat := 0
deriving DecidableEq, Repr, Inhabited

end Sys2Proof.Machine
end

