-- ==== Sys2Proof/Machine/State.lean ====
section
/-! DEFINITION. The state of one line controller module and of its queue of commands. -/
namespace Sys2Proof.Machine

/-- What the module sends out: Hallway messages as the commands they are to the partner (R500), frames of
its line ports (R281), PTP messages (R417), answers of the Savis link (R639) and ARP (R627, R629), the IDCODE register at TDO (R619). -/
inductive Out
  | hall (c : Instr)
  | frame (port : Nat) (f : Frame)
  | sync (ext : Bool) (port dom : Nat) (time : Nat)
  | delayReq (ext : Bool) (port dom : Nat)
  | delayResp (port clockId seq stamp : Nat)
  | ptpAnnounce (port dom : Nat) (utcValid : Bool) (utcOffset : Int)
  | reply (session reqId outcome reason qpos : Nat) (final : Bool) (data : List Byte) (cal : Nat) (calValid : Bool)
  | notify (session no reqId skipped tick : Nat) (data : List Byte)
  | closed (conn : Nat)
  | arp (eng2 : Bool) (ip : Nat) (gratuitous : Bool)
  | echo (eng2 : Bool) (ip : Nat)
  | tdo (v : W32)
deriving DecidableEq, Repr

/-- The module: everything but the queue of commands. `now` is the moment of the last event in ns of the
time base, `out` what the last command sent out. `free` counts the open values taken so far (the model's
own field, log entry 8). -/
structure Mod where
  now : Nat := 0
  out : List Out := []
  free : Nat := 0
  power : Power := {}
  sched : Sched := Sched.zero
  lanes : Lanes := ⟨Lane.zero, Lane.zero, Lane.zero⟩
  newel : Newel := Newel.zero
  prog : Program := {}
  access : Access := {}
  pantry : Pantry := Pantry.zero
  reflex : Reflex := Reflex.zero
  loops : Tab Loop := []
  wins : Tab Win := []
  conv : Conv := Conv.zero
  time : TimeSt := TimeSt.zero
  bolt : Bolt := Bolt.zero
  pair : Pair := Pair.zero
  hall : Hall := Hall.zero
  card : CardCtl := CardCtl.zero
  attic : Attic := Attic.zero
  upd : Update := { bank0 := { st := .good } }
  test : Test := {}
  savis : Savis := {}
deriving DecidableEq, Repr

/-- The state: the module and the commands that wait, first in, first out. -/
structure State where
  m : Mod
  pending : List Instr
deriving DecidableEq, Repr

/-- Reasons to stop with a fault. No command of this block has one: the manual gives every command an
effect. -/
inductive Fault
  /-- Raised by no command; it stands here because the outcome type asks for reasons. Safe. -/
  | noEffect
deriving DecidableEq, Repr

/-- Reasons to refuse a command. -/
inductive Refusal
  /-- A command whose meaning is not written yet, by its mnemonic: raised by `exec` alone. Safe. -/
  | notModelled (mnemonic : String)
deriving DecidableEq, Repr

/-- The module without supply, before the start condition of R591: every status object at its reset value
(log entry 1), no command waiting. -/
def State.reset : State := ⟨{}, []⟩

end Sys2Proof.Machine
end

