-- ==== Sys2Proof/Machine/Ops.lean ====
section
/-! DEFINITION. The shared operations of the module: time, lanes, classes, places, events. -/
namespace Sys2Proof

/-- The number of a lane. -/
def LaneId.num : LaneId → Nat
  | .A => 0 | .B => 1 | .C => 2

/-- The number of an error task (R199). -/
def ErrTask.num : ErrTask → Nat
  | .station => 0 | .overrun => 1 | .lane => 2 | .pair => 3 | .time => 4 | .access => 5 | .loop => 6 | .axis => 7

/-- The index of a class in the class table (R203). -/
def Cls.idx : Cls → Nat
  | .M => 0 | .F1 => 1 | .F2 => 2 | .F3 => 3 | .F4 => 4 | .B => 5 | .E t => 6 + t.num

/-- The class code of a class index (R33). -/
def clsCode (i : Nat) : Nat := min i 6

/-- The place of a class index in the priority order of R62. -/
def clsRank (i : Nat) : Nat := if i < 5 then i else if i = 5 then 14 else i

/-- The entry of a class in an image. -/
def Image.cls (i : Image) (c : Nat) : ClassEnt := i.classes.getD c ⟨false, false, 1, [], []⟩

/-- The frame length of a class in ticks: k for the F classes, 1 for the others (R192). -/
def Image.k (i : Image) (c : Nat) : Nat := if 1 ≤ c ∧ c ≤ 4 then max 1 (i.cls c).k else 1

/-- The largest k of the F classes in use, k_max (R191). -/
def Image.kmax (i : Image) : Nat :=
  [1, 2, 3, 4].foldl (fun n c => if (i.cls c).en then max n (i.k c) else n) 1

/-- The motion tick in ns of a tick code (R75). -/
def tickNsOf : Nat → Nat
  | 0 => 31250 | 1 => 62500 | 2 => 125000 | _ => 250000

/-- The motion tick of an image in ns. -/
def Image.tickNs (i : Image) : Nat := tickNsOf i.tickCode

/-- The code of a role (R38). -/
def Role.code : Role → Nat
  | .out => 0 | .alone => 1 | .owner => 2 | .shadow => 3 | .joining => 4

/-- The code of a key position (R213). -/
def KeyPos.code : KeyPos → Nat
  | .run => 0 | .edit => 1 | .halt => 2 | .service => 3

/-- The rank of a key position, most restrictive first (R183). -/
def KeyPos.rank : KeyPos → Nat
  | .run => 0 | .edit => 1 | .service => 2 | .halt => 3

/-- One second in units of 2^-16 ns. -/
def secUnits : Nat := 1000000000 * 65536

/-- A time value (R416) of a count of 2^-16 ns. -/
def timeVal (u : Nat) : TimeVal := ⟨u / secUnits, u % secUnits / 65536, u % 65536⟩

/-- The count of 2^-16 ns of a time value. -/
def TimeVal.units (v : TimeVal) : Nat := v.sec * secUnits + v.ns * 65536 + v.frac

/-- The code of an outcome (R170). -/
def Outc.code : Outc → Nat
  | .issued => 0 | .pending => 1 | .done => 2 | .refusedFull => 3 | .delayed => 4 | .busyTest => 5
  | .failedStation => 6 | .failedSwitchover => 7 | .failedTimeout => 8 | .rejectedAccess => 9 | .none => 0xFF

/-- The outcome is final (R72). -/
def Outc.final : Outc → Bool
  | .issued | .pending | .none => false
  | _ => true

end Sys2Proof

namespace Sys2Proof.Machine

/-- A command's effect: the next state, the queue untouched. -/
def State.does (s : State) (f : Mod → Mod) : Host.Outcome State Fault Refusal :=
  .next { s with m := f s.m }

/-- The moment of a command: the time base never runs back (log entry 3). -/
def Mod.start (m : Mod) (t : Nat) : Mod := { m with now := max m.now t, out := [] }

/-- A command without a moment of its own. -/
def Mod.quiet (m : Mod) : Mod := { m with out := [] }

/-- Sends something out of the module. -/
def Mod.emit (m : Mod) (o : Out) : Mod := { m with out := m.out ++ [o] }

/-- The next open value and the module after taking it (log entry 8). -/
def Mod.open_ (m : Mod) : Nat × Mod := (Config.freeNat m.free, { m with free := m.free + 1 })

/-- One more, saturating at 32 bits (R126). -/
def inc32 (n : Nat) : Nat := min (n + 1) 0xFFFFFFFF

/-- A sum, saturating at 32 bits (R126). -/
def add32 (n k : Nat) : Nat := min (n + k) 0xFFFFFFFF

/-- The 32 bits of an integer in two's complement. -/
def u32 (x : Int) : Nat := (x % 2 ^ 32).toNat

/-- A lane rotation test is in progress (R611). -/
def Mod.rotating (m : Mod) : Bool :=
  match m.test.rot with
  | .waitEdge | .power | .bist | .resync => true
  | .idle | .done | .failed | .aborted => false

/-- A module service action is in progress (R184, R484): a button trim, a rotation test or a debug session; an
activation is over with its command. -/
def Mod.serviceBusy (m : Mod) : Bool :=
  m.conv.trim.isSome || m.rotating || m.test.dbgOpen.isSome

/-! ### The Hallway -/

/-- Sends a Hallway message of a priority class while the link is UP (R498, R500). -/
def Mod.hallSend (m : Mod) (cls : Nat) (f : Msg → Instr) : Mod :=
  if m.hall.link = .up then
    let n := (tabGet m.hall.txSeq 0 cls + 1) % 2 ^ 32
    let h := m.hall
    { m with
      out := m.out ++ [.hall (f ⟨m.now, n, m.sched.tick % 2 ^ 32, true⟩)]
      hall := { h with txSeq := tabSet h.txSeq cls n, txMsgs := inc32 h.txMsgs, lastTx := m.now } }
  else m

/-- The owner forwards to a shadow, and to a joiner from phase WAIT on (R507); from the switch tick of a planned
switchover the new owner forwards to the old one (R479). -/
def Mod.forwards (m : Mod) : Bool :=
  (m.pair.role = .owner && !m.pair.shadowTiming && (m.pair.partner = some .shadow ||
    (m.hall.join = .wait || m.hall.join = .final || m.hall.join = .compare)))
  || (m.pair.role = .shadow && m.pair.decider && m.pair.plan.st = .go)

/-! ### The card journal -/

/-- Hands a record to the card controller (R532, R534). -/
def Mod.cardQueue (m : Mod) (a : Append) : Mod := { m with card := { m.card with queue := m.card.queue ++ [a] } }

/-- Hands a record to the card controller, with the request that ends with it and the trim that a failure
gives back (R532, R534). -/
def Mod.cardAppend (m : Mod) (b : JBody) (key : Option (Nat × Nat)) (undo : Option Trim) : Mod :=
  m.cardQueue ⟨b, key, undo, false⟩

/-! ### Power -/

/-- A power domain is on, numbered as in R593. -/
def Mod.powered (m : Mod) (k : Nat) : Bool := m.power.on.getLsbD (k - 1)

/-- The ownership gate (R25): own OWN high and the partner's OWN low. -/
def Mod.gate (m : Mod) : Bool := m.bolt.ownSelf && !m.bolt.ownPartner

/-! ### Lanes -/

/-- The lanes in order (R81). -/
def allLanes : List LaneId := [.A, .B, .C]

/-- One lane of three. -/
def Lanes.get (l : Lanes) : LaneId → Lane
  | .A => l.a | .B => l.b | .C => l.c

/-- Replaces one lane. -/
def Lanes.put (l : Lanes) (x : LaneId) (v : Lane) : Lanes :=
  match x with
  | .A => { l with a := v } | .B => { l with b := v } | .C => { l with c := v }

/-- A lane of the module. -/
def Mod.lane (m : Mod) (x : LaneId) : Lane := m.lanes.get x

/-- Changes a lane of the module. -/
def Mod.setLane (m : Mod) (x : LaneId) (f : Lane → Lane) : Mod :=
  { m with lanes := m.lanes.put x (f (m.lanes.get x)) }

/-- Changes every lane. -/
def Mod.allLane (m : Mod) (f : Lane → Lane) : Mod :=
  { m with lanes := ⟨f m.lanes.a, f m.lanes.b, f m.lanes.c⟩ }

/-- A lane is in service (R127); a lane halted with its module stays in service (R120). -/
def Lane.inService (l : Lane) : Bool := l.mode = .serving || l.mode = .halted

/-- The lanes in service, in order. -/
def Mod.serving (m : Mod) : List LaneId := allLanes.filter fun x => (m.lane x).inService

/-- The leading lane in service (R87). -/
def Mod.leading (m : Mod) : Option LaneId := m.serving.head?

/-- The lanes in service that work, in order: one that has stopped carries out nothing more until its next checkpoint takes
it out (R107). -/
def Mod.working (m : Mod) : List LaneId := m.serving.filter fun x => (m.lane x).stopped.isNone

/-- The lane that the others follow: the leading one, or the next while that one has stopped (R81, R87, R107). -/
def Mod.leader (m : Mod) : Option LaneId := m.working.head?

/-! ### Classes -/

/-- The motion tick of the running image, 250 µs without one. -/
def Mod.tickNs (m : Mod) : Nat := match m.prog.image with | some i => i.tickNs | none => 250000

/-- The run record of a class index. -/
def Mod.run (m : Mod) (c : Nat) : ClsRun := tabGet m.sched.runs ClsRun.zero c

/-- Changes the run record of a class index. -/
def Mod.setRun (m : Mod) (c : Nat) (f : ClsRun → ClsRun) : Mod :=
  { m with sched := { m.sched with runs := tabMod m.sched.runs ClsRun.zero c f } }

/-! ### The output images (R265) -/

/-- A copy of IMG_OUT and AXOUT by tick parity. -/
def Pantry.outCopy (p : Pantry) (n : Nat) : Areas := if n % 2 = 0 then p.out0 else p.out1

/-- Replaces a copy. -/
def Pantry.setOut (p : Pantry) (n : Nat) (a : Areas) : Pantry :=
  if n % 2 = 0 then { p with out0 := a } else { p with out1 := a }

/-- The images with every publication: the copy that a build in progress does not read. -/
def Mod.outs (m : Mod) : Areas := m.pantry.outCopy (m.sched.tick + 1)

/-! ### Roles -/

/-- The module controls the domain: OWNER or ALONE. -/
def Mod.controls (m : Mod) : Bool := m.pair.role = .owner || m.pair.role = .alone

/-- The module runs the program: OWNER, ALONE or SHADOW (R38). -/
def Mod.runs (m : Mod) : Bool := m.controls || m.pair.role = .shadow

/-- The pair is redundant: an owner and its shadow (R476). -/
def Mod.redundant (m : Mod) : Bool :=
  (m.pair.role = .owner && m.pair.partner = some .shadow) ||
  (m.pair.role = .shadow && m.pair.partner = some .owner)

/-! ### Line time -/

/-- What a clock reads at a moment of the time base, in 2^-16 ns (R418). -/
def Clock.read (c : Clock) (now : Nat) : Nat :=
  let d := (now - c.base) * 65536
  (c.val + d + (d : Int) * c.rate / 1000000000 : Int).toNat

/-- What a clock that runs on line time reads at a line time, in 2^-16 ns (R417). -/
def Clock.valueAt (c : Clock) (lt : Nat) : Nat :=
  let d := lt - c.base
  (c.val + d + (d : Int) * c.rate / 1000000000 : Int).toNat

/-- Line time now, in 2^-16 ns. -/
def Mod.lt (m : Mod) : Nat := m.time.line.read m.now

/-- Line time now, in ns. -/
def Mod.ltNs (m : Mod) : Nat := m.lt / 65536

/-! ### Places (R31-R33) -/

/-- PLACE_D (R32). -/
def placeD (domain level seg station slot : Nat) : W32 :=
  BitVec.ofNat 32 (domain * 2 ^ 29 + level * 2 ^ 26 + seg * 2 ^ 24 + station * 2 ^ 15 + slot * 2 ^ 9)

/-- PLACE_M (R33). -/
def placeM (level side lane cls : Nat) : W32 :=
  BitVec.ofNat 32 (level * 2 ^ 29 + side * 2 ^ 28 + lane * 2 ^ 26 + cls * 2 ^ 23)

/-- The side of the module as a number. -/
def Mod.side (m : Mod) : Nat := if m.bolt.side then 1 else 0

/-- The domain number. -/
def Mod.domain (m : Mod) : Nat := match m.prog.image with | some i => i.domain | none => 0

/-- An event or object at level domain and module, voted (R30). -/
def Mod.placeMod (m : Mod) : W32 × W32 × W32 × W32 :=
  (placeD m.domain 1 0 0 0, placeM 2 m.side 3 7, 0, 0)

/-- The place of a lane. -/
def Mod.placeLane (m : Mod) (x : LaneId) : W32 × W32 × W32 × W32 :=
  (placeD m.domain 1 0 0 0, placeM 3 m.side x.num 7, 0, 0)

/-- The place of a task class. -/
def Mod.placeCls (m : Mod) (c : Nat) : W32 × W32 × W32 × W32 :=
  (placeD m.domain 1 0 0 0, placeM 4 m.side 3 (clsCode c), 0, 0)

/-- The place of a station, numbered 512 × segment + number. -/
def Mod.placeStn (m : Mod) (stn : Nat) : W32 × W32 × W32 × W32 :=
  (placeD m.domain 3 (stn / 512) (stn % 512) 0, placeM 2 m.side 3 7, 0, 0)

/-- The place of a block instance of a class. -/
def Mod.placeInst (m : Mod) (c inst : Nat) : W32 × W32 × W32 × W32 :=
  (placeD m.domain 1 0 0 0, placeM 5 m.side 3 (clsCode c), 0, BitVec.ofNat 32 inst)

/-! ### Events (R181, R199, R200) -/

/-- An error task is in use: its class is enabled in the running image. -/
def Mod.handles (m : Mod) (t : ErrTask) : Bool :=
  match m.prog.image with
  | some i => (i.cls (6 + t.num)).en
  | none => false

/-- Raises an event: queued only by an OWNER or ALONE module (R200), for a task in use, with room (R181). -/
def Mod.raise (m : Mod) (t : ErrTask) (code : Nat) (pl : W32 × W32 × W32 × W32) (detail : List Byte) : Mod :=
  if !m.controls then m
  else if !m.handles t then { m with prog := { m.prog with evUnhandled := inc32 m.prog.evUnhandled } }
  else if 256 ≤ m.prog.events.length then
    { m with prog := { m.prog with evLost := inc32 m.prog.evLost
                                   evLostRun := min (m.prog.evLostRun + 1) 0xFFFF } }
  else
    let e : Event := ⟨pl.1, pl.2.1, pl.2.2.1, pl.2.2.2, t, code, m.prog.evLostRun, (m.prog.evSeq + 1) % 2 ^ 32, m.sched.tick,
      padTo 32 detail⟩
    { m with prog := { m.prog with events := m.prog.events ++ [e], evLostRun := 0
                                   evSeq := (m.prog.evSeq + 1) % 2 ^ 32
                                   evQueued := inc32 m.prog.evQueued } }

/-- The 64 bytes of an event record (R199). -/
def eventBytes (e : Event) : List Byte :=
  leBytes e.placeD.toNat 4 ++ leBytes e.placeM.toNat 4 ++ leBytes e.placePt.toNat 4 ++ leBytes e.placeInst.toNat 4
    ++ leBytes (e.task.num + 1) 1 ++ leBytes e.code 1 ++ leBytes e.lost 2 ++ leBytes e.seq 4 ++ leBytes e.tick 8
    ++ padTo 32 e.detail

/-! ### Outcomes -/

/-- Calendar time now in 2^-16 ns. -/
def Mod.cal (m : Mod) : Nat := m.time.cal.valueAt m.lt

/-- Sends an answer of the Savis link, stamped with calendar time (R639). -/
def Mod.reply (m : Mod) (session id outcome reason qpos : Nat) (final : Bool) (data : List Byte) : Mod :=
  m.emit (.reply session id outcome reason qpos final data m.cal m.time.calValid)

/-- The session of a request is still open. -/
def Mod.sessOpen (m : Mod) (r : SReq) : Bool :=
  match tabFind m.savis.sess r.session with
  | some x => x.client = r.client
  | none => false

/-- The engineering request of a key that has not ended. -/
def Mod.openReq (m : Mod) (key : Nat × Nat) : Option SReq :=
  m.savis.reqs.find? fun r => r.client = key.1 && r.id = key.2 && r.outcome.isNone

/-- Changes the engineering requests of a key that have not ended. -/
def Mod.setReq (m : Mod) (key : Nat × Nat) (f : SReq → SReq) : Mod :=
  { m with savis := { m.savis with reqs := m.savis.reqs.map fun r =>
      if r.client = key.1 && r.id = key.2 && r.outcome.isNone then f r else r } }

/-- Tells PENDING with a queue position, once (R71, R640). -/
def Mod.tellPending (m : Mod) (key : Nat × Nat) (qpos : Nat) : Mod :=
  match m.openReq key with
  | some r =>
    if r.pended then m
    else
      let m := m.setReq key fun r => { r with pended := true }
      if m.sessOpen r then m.reply r.session r.id 1 0 qpos false [] else m
  | none => m

/-- Answers a request with its final outcome while its session is open (R640). -/
def Mod.answer (m : Mod) (r : SReq) (o : Outc) (reason : Nat) (data : List Byte) : Mod :=
  if m.sessOpen r then m.reply r.session r.id o.code reason 0 true data else m

/-- Tells the partner of a final outcome: where it passed the request on (R647), or while it keeps the request as the
shadow (R472, R642). -/
def Mod.tellPair (m : Mod) (r : SReq) (o : Outc) (data : List Byte) : Mod :=
  let m := if r.viaCmd then m.hallSend 2 fun h => .mCmdRsp h r.client r.id o data else m
  if r.mirrored && m.forwards then m.hallSend 2 fun h => .mMirror h 4 false true 0 r.id r.client o 0 [] else m

/-- Ends an engineering request with its final outcome: it is retained with up to 256 bytes of its reply and answered
while its session is open (R640, R642), or to the partner that passed it on (R647); the shadow learns it while it keeps the
request (R472, R642). -/
def Mod.finish (m : Mod) (key : Nat × Nat) (o : Outc) (reason : Nat) (data : List Byte) : Mod :=
  match m.openReq key with
  | none => m
  | some r =>
    let m := m.setReq key fun r => { r with outcome := some o, reason := reason, data := data.take 256, ended := m.now, cmd := none }
    let sv := m.savis
    let m := { m with savis :=
      { sv with refused := if o = Outc.refusedFull then inc32 sv.refused else sv.refused
                rejected := if o = Outc.rejectedAccess then inc32 sv.rejected else sv.rejected } }
    (m.answer r o reason data).tellPair r o data

/-- Ends the engineering request of an optional key. -/
def Mod.finish? (m : Mod) (key : Option (Nat × Nat)) (o : Outc) (reason : Nat) (data : List Byte) : Mod :=
  match key with
  | some k => m.finish k o reason data
  | none => m

end Sys2Proof.Machine
end

