-- ==== Sys2Proof/Machine/Analogue.lean ====
section
/-! DEFINITION. Field loops, the converter and its windows (R382-R415). -/
namespace Sys2Proof

/-- The record of a loop channel in an image; OFF without a table. -/
def Image.chan (i : Image) (c : Nat) : ChanCfg :=
  match i.analogue with
  | some a => a.chans.getD c ⟨.off, 3, 100, 10⟩
  | none => ⟨.off, 3, 100, 10⟩

end Sys2Proof

namespace Sys2Proof.Machine

/-- The analogue table in force. -/
def Mod.ana (m : Mod) : Option AnaCfg := m.prog.image.bind Image.analogue

/-- The record of a loop channel; OFF without a table. -/
def Mod.chan (m : Mod) (c : Nat) : ChanCfg :=
  match m.ana with
  | some a => a.chans.getD c ⟨.off, 3, 100, 10⟩
  | none => ⟨.off, 3, 100, 10⟩

/-- A loop channel. -/
def Mod.loop (m : Mod) (c : Nat) : Loop := tabGet m.loops Loop.zero c

/-- Changes a loop channel. -/
def Mod.setLoop (m : Mod) (c : Nat) (f : Loop → Loop) : Mod :=
  { m with loops := tabMod m.loops Loop.zero c f }

/-- Power domain 12, the analogue front end, is on (R593). -/
def Mod.afeOn (m : Mod) : Bool := m.powered 12

/-- A channel is under trim (R399). -/
def Mod.underTrim (m : Mod) (c : Nat) : Bool :=
  match m.conv.trim with | some t => t.ch = c | none => false

/-- The stage of a channel is connected to the field (R390, R399): DRIVING of R411. -/
def Mod.driving (m : Mod) (c : Nat) : Bool :=
  m.gate && m.afeOn && decide ((m.chan c).mode = .output) && m.runs && !m.underTrim c

/-- The published command word of a channel, in nA (R387). -/
def Mod.loopWord (m : Mod) (c : Nat) : Nat :=
  match m.ana with
  | some a => memNat m.outs.imgOut (a.loopOfs + 8 * c) 4
  | none => 0

/-- The first sequence entry that converts a source (R401). -/
def Mod.entryOf (m : Mod) (src : Nat) : Option Nat :=
  m.ana.bind fun a => a.entries.findIdx? fun e => e.1 = src

/-- The result word of the entry that converts a channel's current, 0 without one. -/
def Mod.loopResult (m : Mod) (c : Nat) : Nat :=
  match m.entryOf c with
  | some e => (tabGet m.conv.results 0 e).toNat
  | none => 0

/-- Raises E_LOOP for a channel (R200): the channel, measured and commanded current, and a result word. -/
def Mod.raiseLoop (m : Mod) (code ch meas cmd word : Nat) : Mod :=
  m.raise .loop code m.placeMod (leBytes ch 4 ++ leBytes meas 4 ++ leBytes cmd 4 ++ leBytes word 4)

/-- LOOP_COMMAND_APPLY (R385, R387): the AFE takes the published command of an OUTPUT channel. -/
def execLoopCommandApply (t : Nat) (ch : Nat) (s : State) : Host.Outcome State Fault Refusal :=
  s.does fun m =>
    let m := m.start t
    let c := m.chan ch
    if c.mode = .output && m.afeOn then
      let na : Int := m.loopWord ch
      m.setLoop ch fun l =>
        { l with cmdNa := na
                 cmdLimit := decide (22000000 < na)
                 changedAt := if c.devUa * 1000 < (na - l.cmdNa).natAbs then some m.now else l.changedAt }
    else m

/-! ### Readback and deviation (R393, R395) -/

/-- The readback flags after a frame (R393). `seq` is taken only from a frame that passed its check. -/
def Loop.readback (l : Loop) (crcOk : Bool) (seq na minNa : Nat) : Loop :=
  let follows := match l.rbSeq with | some p => seq = (p + 1) % 65536 | none => true
  let valid := crcOk && follows && decide (3000000 ≤ minNa)
  if crcOk then
    { l with rbSeq := some seq
             badFrames := 0
             rbValid := valid
             rbLinkErr := if valid then false else l.rbLinkErr
             rbNa := if valid then na else l.rbNa }
  else
    { l with badFrames := min (l.badFrames + 1) 3
             rbErrors := inc32 l.rbErrors
             rbValid := false
             rbLinkErr := l.rbLinkErr || decide (3 ≤ l.badFrames + 1) }

/-- Whether a sample period deviates, or none where it is not checked (R395). `l` is the channel after the
frame, `mean` the module-side mean of the period. -/
def deviates (c : ChanCfg) (l : Loop) (mean : Option Nat) : Option Bool :=
  let far (x y : Int) : Bool := decide (c.devUa * 1000 < (x - y).natAbs)
  match c.mode with
  | .output => if l.rbValid then some (far l.rbNa l.cmdNa)
               else if 3200000 ≤ l.cmdNa then some true else none
  | .input => if l.rbValid then mean.map fun x => far l.rbNa x else none
  | .off => none

/-- The run counters after a checked period (R395); the flag says that LOOP_DEVIATION was set by it. -/
def Loop.check (l : Loop) (c : ChanCfg) (dev : Bool) : Loop × Bool :=
  if dev then
    let n := min (l.devRun + 1) 255
    let sets := !l.deviation && decide (c.devN ≤ n)
    ({ l with devRun := n
              goodRun := 0
              deviation := l.deviation || sets
              devEvents := if sets then inc32 l.devEvents else l.devEvents }, sets)
  else
    let n := l.goodRun + 1
    ({ l with devRun := 0, goodRun := n, deviation := l.deviation && decide (n < c.devN) }, false)

/-- READBACK_SAMPLE (R389, R391, R393, R395): `t` is the end of the 10 ms period; `disturbed` says that its
interval contains a switchover (log entry 10). -/
def execReadbackSample (t : Nat) (ch : Nat) (crcOk : Bool) (seq na minNa : Nat) (meanNa : Option Nat)
    (stageNa : Nat) (disturbed : Bool) (s : State) : Host.Outcome State Fault Refusal :=
  s.does fun m =>
    let m := m.start t
    if !m.afeOn then m
    else
      let c := m.chan ch
      let l := (m.loop ch).readback crcOk seq na minNa
      let l := if c.mode = .output then { l with measNa := if l.rbValid then l.rbNa else (stageNa : Int) } else l
      let changed := match l.changedAt with
        | some x => decide (t < x + 11000000)
        | none => false
      match (if disturbed || changed then none else deviates c l meanNa) with
      | none => m.setLoop ch fun _ => l
      | some d =>
        let (l, sets) := l.check c d
        let m := m.setLoop ch fun _ => l
        if sets then
          m.raiseLoop 1 ch (if l.rbValid then u32 l.rbNa else stageNa) (u32 l.cmdNa) (m.loopResult ch)
        else m

/-- HEADROOM_CHECK (R394): below 1.5 V sets COMPLIANCE, 1.7 V or more for 10 ms clears it. -/
def execHeadroomCheck (t : Nat) (ch : Nat) (mv stageNa : Nat) (s : State) : Host.Outcome State Fault Refusal :=
  s.does fun m =>
    let m := m.start t
    if !m.driving ch then m
    else
      let l := { m.loop ch with headroom := mv }
      if mv < 1500 then
        let sets := !l.compliance
        let m := m.setLoop ch fun _ =>
          { l with compliance := true
                   okSince := none
                   complEvents := if sets then inc32 l.complEvents else l.complEvents }
        if sets then m.raiseLoop 2 ch stageNa (u32 l.cmdNa) (m.loopResult ch) else m
      else if mv < 1700 then m.setLoop ch fun _ => { l with okSince := none }
      else
        match l.okSince with
        | none => m.setLoop ch fun _ => { l with okSince := some m.now }
        | some x => m.setLoop ch fun _ => { l with compliance := l.compliance && decide (m.now < x + 10000000) }

/-! ### Conversions (R401-R404) -/

/-- The mean of `2^k` codes, to the nearest, ties to even (R402). -/
def meanCode (sum : Int) (k : Nat) : Int :=
  let q := sum / 2 ^ k
  let r := sum % 2 ^ k
  if k = 0 then sum
  else if 2 ^ k < 2 * r ∨ (2 * r = 2 ^ k ∧ q % 2 = 1) then q + 1 else q

/-- A source whose code is signed (R401). -/
def srcSigned (src : Nat) : Bool := (decide (0x30 ≤ src) && decide (src ≤ 0x33)) || src == 0x3F

/-- A result word (R403). -/
def resultWord (valid stale trim : Bool) (e count : Nat) (code : Int) : W32 :=
  BitVec.ofNat 32 ((if valid then 2 ^ 31 else 0) + (if stale then 2 ^ 30 else 0) + (if trim then 2 ^ 29 else 0)
    + e % 32 * 2 ^ 24 + count % 256 * 2 ^ 16 + (code % 65536).toNat)

/-- A source's channel is under trim (R403). -/
def Mod.srcTrim (m : Mod) (src : Nat) : Bool := decide (src < 0x18) && m.underTrim (src % 8)

/-- A current with the trims of an INPUT channel, to the nearest nA (R397). -/
def trimmedNa (raw zero span : Int) : Int :=
  (2 * raw * (1000000 + span) + 1000000) / 2000000 + zero

/-- NE 43 classification of an INPUT measurement (R396): RANGE, the fault side and since when it holds, and
since when the current lies in the measuring range. -/
def Loop.classify (l : Loop) (now : Nat) : Loop :=
  let x := l.measNa
  let side := if x ≤ 3600000 then 1 else if 21000000 ≤ x then 2 else 0
  let ok := decide (3800000 ≤ x) && decide (x ≤ 20500000)
  { l with range := side == 0 && !ok
           neSide := side
           neSince := if side = 0 then none else if side = l.neSide then l.neSince else some now
           okSince := if ok then (match l.okSince with | some y => some y | none => some now) else none }

/-- The current in nA that a result of a source shows, 0 for a source that is no channel current (R406). -/
def Mod.entryNa (m : Mod) (src : Nat) (code : Int) : Int :=
  if 8 ≤ src then 0
  else
    match (m.chan src).mode with
    | .input => trimmedNa (code * 400) (m.loop src).zeroTrim (m.loop src).spanTrim
    | _ => code * 400

/-- The measurement of a channel from its sense resistor (R389, R396, R397). -/
def Mod.measure (m : Mod) (ch : Nat) (code : Int) : Mod :=
  let raw := code * 400
  m.setLoop ch fun l =>
    match (m.chan ch).mode with
    | .input => Loop.classify { l with measNa := trimmedNa raw l.zeroTrim l.spanTrim } m.now
    | .off => { l with measNa := raw }
    | .output => l

/-- The state of a window after a result, and whether it raises an event (R406). -/
def winStep (w : WinCfg) (st : WinState) (x : Int) : WinState × Bool :=
  let below := decide (x < w.low)
  let above := decide (w.high < x)
  match st with
  | .unknown => if below then (.below, true) else if above then (.above, true) else (.inside, false)
  | .inside => if below then (.below, true) else if above then (.above, true) else (.inside, false)
  | .below =>
    if above then (.above, true)
    else if decide (w.low + w.hyst ≤ x) then (.inside, w.ret) else (.below, false)
  | .above =>
    if below then (.below, true)
    else if decide (x ≤ w.high - w.hyst) then (.inside, w.ret) else (.above, false)

/-- Marks the entries that a pass did not complete STALE (R403). -/
def staleFrom (res : Tab W32) (e : Nat) : Tab W32 :=
  tabMap (fun k w => if e ≤ k then w ||| 0x40000000#32 else w) res

/-- The entries that an unfinished pass left are STALE (R403). -/
def Conv.endPass (c : Conv) : Conv :=
  { c with results := if c.passActive then staleFrom c.results c.nextEntry else c.results
           passActive := false
           nextEntry := 0 }

/-- The pass of tick n begins, where the converter has power and a table (R402); the count of aborts starts again (R404). -/
def Conv.nextPass (c : Conv) (runs : Bool) (n : Nat) : Conv :=
  { c.endPass with passActive := runs, passValid := c.calValid, passTick := n % 2 ^ 32, urgThisTick := 0 }

/-- The windows under a new table: one whose record is altered is UNKNOWN (R406). -/
def winsChange (old new : Option AnaCfg) (wins : Tab Win) : Tab Win :=
  let rec_ (a : Option AnaCfg) (n : Nat) : Option WinCfg := a.bind fun a => a.wins[n]?
  tabMap (fun n w => if rec_ old n = rec_ new n then w else { w with state := .unknown }) wins

/-- The converter under a new table, which applies from the pass of the change tick (R404, R407). A button trim ends when the
record of its channel changes (R400, log entry 126). -/
def Conv.change (c : Conv) (old new : Image) : Conv :=
  let n := match new.analogue with | some a => a.entries.length | none => 0
  { c.endPass with
           urgPend := c.urgPend.filter fun e => decide (e < n)
           trim := match c.trim with
             | some t => if old.chan t.ch = new.chan t.ch then some t else none
             | none => none }

/-- Steps the windows on an entry (R406), numbered from `n`. -/
def Mod.windows (m : Mod) (e src : Nat) (code : Int) (word : W32) : Nat → List WinCfg → Mod
  | _, [] => m
  | n, w :: ws =>
    let m :=
      if w.en && w.entry = e then
        let old := tabGet m.wins ⟨.unknown, 0⟩ n
        let (st, ev) := winStep w old.state code
        let m := { m with wins := tabSet m.wins n ⟨st, if ev then inc32 old.events else old.events⟩ }
        if ev then
          m.raiseLoop 5 n (u32 (m.entryNa src code)) 0 word.toNat
        else m
      else m
    Mod.windows m e src code word (n + 1) ws

/-- CONVERSION_DONE (R402, R403): entry 0 opens a pass, every entry follows the one before it. -/
def execConversionDone (t : Nat) (e : Nat) (sum : Int) (s : State) : Host.Outcome State Fault Refusal :=
  s.does fun m =>
    let m := m.start t
    match m.ana with
    | none => m
    | some a =>
      let opens := decide (e = 0)
      if !m.afeOn || !(opens || (m.conv.passActive && e == m.conv.nextEntry)) || decide (a.entries.length ≤ e) then m
      else
        let (src, avg) := a.entries.getD e (0, 0)
        let c := m.conv
        let c := if opens then
            { c with results := if c.passActive && c.nextEntry != 0 then staleFrom c.results c.nextEntry else c.results
                     passActive := true
                     passValid := c.calValid
                     passTick := m.sched.tick }
          else c
        let code := meanCode sum avg
        let word := resultWord c.passValid false (m.srcTrim src) e (c.passes + 1) code
        let last := decide (e + 1 = a.entries.length)
        let res := tabSet c.results e word
        let c := { c with results := res, nextEntry := e + 1 }
        let c := if last then
            { c with passActive := false
                     nextEntry := 0
                     lastPass := res
                     lastPassTick := c.passTick
                     passes := inc32 c.passes }
          else c
        let m := { m with conv := c }
        let m := if src < 8 then m.measure src code else m
        m.windows e src code word 0 a.wins

/-- NE43_FILTER_EXPIRY (R396): a level held for NE_FILT sets its flag once; the measuring range held for
NE_FILT clears both. -/
def execNe43FilterExpiry (t : Nat) (ch : Nat) (s : State) : Host.Outcome State Fault Refusal :=
  s.does fun m =>
    let m := m.start t
    let c := m.chan ch
    let l := m.loop ch
    let held (x : Option Nat) : Bool := match x with
      | some y => decide (y + c.neFilt * 1000000 ≤ m.now)
      | none => false
    if c.mode ≠ .input then m
    else if held l.neSince && l.neSide = 1 && !l.neLow then
      (m.setLoop ch fun l => { l with neLow := true }).raiseLoop 3 ch (u32 l.measNa) (u32 l.cmdNa) (m.loopResult ch)
    else if held l.neSince && l.neSide = 2 && !l.neHigh then
      (m.setLoop ch fun l => { l with neHigh := true }).raiseLoop 4 ch (u32 l.measNa) (u32 l.cmdNa) (m.loopResult ch)
    else if held l.okSince then m.setLoop ch fun l => { l with neLow := false, neHigh := false }
    else m

/-! ### Urgent conversions and calibration (R404, R405) -/

/-- URGENT_CONVERSION_DONE (R404): the request at the front of the queue completes. An abort of a conversion
of the pass counts against URG_MAX; an abort of a calibration conversion restarts the run. -/
def execUrgentConversionDone (t : Nat) (e : Nat) (code : Int) (abortedCal : Bool) (s : State) :
    Host.Outcome State Fault Refusal :=
  s.does fun m =>
    let m := m.start t
    let c := m.conv
    match m.ana, c.urgPend with
    | some a, x :: rest =>
      if x ≠ e || !m.afeOn || (c.passActive && decide (a.urgMax ≤ c.urgThisTick)) then m
      else
        let src := (a.entries.getD e (0, 0)).1
        let u := tabGet c.urg ⟨0, false, 0⟩ e
        let n := (u.count + 1) % 256
        { m with conv := { c with
          urg := tabSet c.urg e ⟨resultWord c.calValid false (m.srcTrim src) e n code, true, n⟩
          urgPend := rest
          urgents := inc32 c.urgents
          urgAborts := if c.passActive then inc32 c.urgAborts else c.urgAborts
          urgThisTick := if c.passActive then c.urgThisTick + 1 else c.urgThisTick
          calRestarts := if abortedCal && c.calBusy then inc32 c.calRestarts else c.calRestarts } }
    | _, _ => m

/-- CAL_DUE (R405): at start-up, 60 s of line time after the last run, or after a move of 5 °C. -/
def execCalDue (t : Nat) (tempMoved : Bool) (s : State) : Host.Outcome State Fault Refusal :=
  s.does fun m =>
    let m := m.start t
    let c := m.conv
    if m.afeOn && !c.calBusy && (tempMoved || !c.calValid || decide (c.lastCal + 60000000000 ≤ m.ltNs)) then
      { m with conv := { c with calBusy := true, calDueAt := m.now } }
    else m

/-- The ranges of R397. -/
def trimInRange (zero span : Int) : Bool :=
  decide (zero.natAbs ≤ 200000) && decide (span.natAbs ≤ 10000)

/-- Takes a trim: it takes effect at once and is appended to the card journal under the module's serial
number (R397). -/
def Mod.takeTrim (m : Mod) (ch : Nat) (zero span : Int) (key : Option (Nat × Nat)) (delayed : Bool) : Mod :=
  (m.setLoop ch fun l => { l with zeroTrim := zero, spanTrim := span }).cardQueue
    ⟨.trim ⟨false, m.savis.serial, ch, zero, span⟩, key,
      some ⟨false, m.savis.serial, ch, (m.loop ch).zeroTrim, (m.loop ch).spanTrim⟩, delayed⟩

/-- CAL_DONE (R405): the run completes; trims by command that waited for it are taken (R398). -/
def execCalDone (t : Nat) (s : State) : Host.Outcome State Fault Refusal :=
  s.does fun m =>
    let m := m.start t
    let c := m.conv
    if !c.calBusy then m
    else
      let m := { m with conv := { c with
        calBusy := false
        calValid := true
        calStarved := false
        lastCal := m.ltNs
        calRuns := inc32 c.calRuns
        trimWait := [] } }
      c.trimWait.foldl (fun m w => m.takeTrim w.ch w.zero w.span (some w.key) true) m

/-- CAL_STARVED (R405): a run not completed 10 s after it became due. -/
def execCalStarved (t : Nat) (s : State) : Host.Outcome State Fault Refusal :=
  s.does fun m =>
    let m := m.start t
    if m.conv.calBusy && decide (m.conv.calDueAt + 10000000000 ≤ m.now) then
      { m with conv := { m.conv with calStarved := true } }
    else m

/-! ### Trims by the buttons (R399, R400) -/

/-- The channel on the display: 0 is blank, c + 1 is channel c (R399). -/
def Mod.shownChan (m : Mod) : Option Nat := if m.conv.display = 0 then none else some (m.conv.display - 1)

/-- Module service actions are allowed: pair mode SERVICE and role SHADOW or ALONE (R184). -/
def Mod.serviceOk (m : Mod) : Bool :=
  m.prog.pairKey = .service && (m.pair.role = .shadow || m.pair.role = .alone)

/-- Shows a trim result: 1 OK, 2 RNG, 3 BUSY (R399, R667). -/
def Mod.panel (m : Mod) (n : Nat) : Mod := { m with conv := { m.conv with panel := n, panelAt := m.now } }

/-- ZERO or SPAN held for 2 s (R399): starts a trim of the channel shown; no other service action may be in
progress (R620). -/
def Mod.buttonTrim (m : Mod) (span : Bool) : Mod :=
  match m.shownChan with
  | none => m
  | some c =>
    if !m.serviceOk || !m.afeOn || (m.chan c).mode = .off then m
    else if m.underTrim c || m.conv.trimWait.any fun w => w.ch = c then m.panel 3
    else if m.serviceBusy then m
    else { m with conv := { m.conv with trim := some ⟨c, span⟩ } }

/-- A quotient to the nearest integer. -/
def divNear (a b : Int) : Int := (2 * a + b) / (2 * b)

/-- The trims that a measured mean gives (R399): `target` is the reference or command, `mean` the current
measured under the present trims. The ratio of a span trim is taken to the nearest ppm (log entry 11). -/
def trimResult (mode : LoopMode) (span : Bool) (zero spanOld mean target : Int) : Int × Int :=
  match mode, span with
  | .input, false => (zero + (target - mean), spanOld)
  | .input, true =>
    if mean = zero then (zero, 1000000000)
    else (zero, divNear ((target - zero) * (1000000 + spanOld)) (mean - zero) - 1000000)
  | _, false => (zero + (mean - target), spanOld)
  | _, true =>
    if target = zero then (zero, 1000000000)
    else (zero, divNear ((mean - zero) * (1000000 + spanOld)) (target - zero) - 1000000)

end Sys2Proof.Machine
end

