-- ==== Sys2Proof/Machine/Operands.lean ====
section
/-! DEFINITION. The operand forms of block code: registers and pairs, fields of instances, image points, link
words (R133-R151). An operation works on a `View`: one engine within the running execution of its lane. -/
namespace Sys2Proof.Machine

/-- One engine in the execution its lane runs: the image, the class index, the engine's number, the instance
area of the lane, the execution's context and the engine itself. -/
structure View where
  img : Image
  cls : Nat
  me : Nat
  inst : Mem 64
  ctx : Ctx
  eng : Eng
  deriving DecidableEq, Repr

/-- The result of an operation: the view after it, or its exception (R171). -/
abbrev Res := Except Exc View

/-- An exception that is no access. -/
def exc (code : Nat) : Exc := ⟨code, false, none⟩

/-- The address of word `i` of the instance at `h`, through the own-lane window (R217, R218). -/
def instAddr (h i : Nat) : Nat := (0x10000000 + h + 8 * i) % 2 ^ 32

/-! ### Exception codes (R171) -/

/-- BAD_OPCODE. -/
def xBadOpcode : Nat := 1
/-- FIELD_RANGE. -/
def xFieldRange : Nat := 2
/-- HEADER_WRITE. -/
def xHeaderWrite : Nat := 3
/-- IMG_RANGE. -/
def xImgRange : Nat := 4
/-- IMG_ALIGN. -/
def xImgAlign : Nat := 5
/-- BAD_INSTANCE. -/
def xBadInstance : Nat := 6
/-- BAD_AXIS. -/
def xBadAxis : Nat := 7
/-- DIV_ZERO. -/
def xDivZero : Nat := 8
/-- LOOP_BOUND. -/
def xLoopBound : Nat := 9
/-- STACK_OVER. -/
def xStackOver : Nat := 10
/-- LINK_TWICE. -/
def xLinkTwice : Nat := 11
/-- LINK_DEADLOCK. -/
def xLinkDeadlock : Nat := 12
/-- BAD_REG. -/
def xBadReg : Nat := 13
/-- TURN_RANGE. -/
def xTurnRange : Nat := 14
/-- BAD_SOURCE. -/
def xBadSource : Nat := 15
/-- REQ_FORMAT. -/
def xReqFormat : Nat := 16

/-! ### Registers (R133, R137) -/

/-- Reads a working register; W0 reads zero (R133). -/
def Eng.reg (e : Eng) (k : Nat) : W64 := if k = 0 then 0 else memGet e.regs k

/-- Writes a working register; writes to W0 are discarded (R133). -/
def Eng.setReg (e : Eng) (k : Nat) (x : W64) : Eng :=
  if k = 0 then e else { e with regs := memSet e.regs k x }

/-- Reads a register of the view. -/
def View.r (v : View) (k : Reg) : W64 := v.eng.reg k.toNat

/-- Writes a register of the view. -/
def View.w (v : View) (k : Reg) (x : W64) : View := { v with eng := v.eng.setReg k.toNat x }

/-- A pair may start at W1 to W30 (R137). -/
def pairOk (k : Reg) : Bool := 1 ≤ k.toNat && k.toNat ≤ 30

/-- Writes a register pair. -/
def View.w2 (v : View) (k : Reg) (x y : W64) : View :=
  { v with eng := (v.eng.setReg k.toNat x).setReg (k.toNat + 1) y }

/-- Sets sticky flags (R156). -/
def View.flags (v : View) (f : BitVec 5) : View := { v with eng := { v.eng with fsr := v.eng.fsr ||| f } }

/-- i sign-extended to 64 bits (R135). -/
def signImm (i : Imm) : W64 := i.signExtend 64

/-- One or zero. -/
def boolWord (b : Bool) : W64 := if b then 1 else 0

/-- The value of a TURN96 pair in 2^-32 turn (R165). -/
def View.turnOf (v : View) (k : Reg) : Int :=
  (v.eng.reg k.toNat).toInt * 2 ^ 32 + ((v.eng.reg (k.toNat + 1)).toNat % 2 ^ 32 : Nat)

/-- Writes a TURN96 pair, the count wrapped (R165). -/
def View.wTurn (v : View) (k : Reg) (x : Int) : View :=
  v.w2 k (BitVec.ofInt 64 (x / 2 ^ 32)) (BitVec.ofInt 64 (x % 2 ^ 32))

/-- Writes a time pair: seconds, nanoseconds and fraction as STIME gives them (R152). -/
def View.wTime (v : View) (k : Reg) (u : Nat) : View :=
  v.w2 k (BitVec.ofNat 64 (u / secUnits)) (BitVec.ofNat 64 (u % secUnits))

/-! ### Instances (R138-R143) -/

/-- The size of the instance area in bytes (R138). -/
def instSize : Nat := 20 * 2 ^ 20

/-- INST_ID of a header. -/
def instId (inst : Mem 64) (h : Nat) : Nat := (memGet inst (h / 8)).toNat % 2 ^ 32
/-- TYPE_ID of a header. -/
def instType (inst : Mem 64) (h : Nat) : Nat := (memGet inst (h / 8)).toNat / 2 ^ 32
/-- STATE_LEN of a header. -/
def instState (inst : Mem 64) (h : Nat) : Nat := (memGet inst (h / 8 + 1)).toNat % 2 ^ 16
/-- SCRATCH_LEN of a header. -/
def instScratch (inst : Mem 64) (h : Nat) : Nat := (memGet inst (h / 8 + 1)).toNat / 2 ^ 16 % 2 ^ 16
/-- FLAGS of a header (R140). -/
def instFlags (inst : Mem 64) (h : Nat) : Nat := (memGet inst (h / 8 + 1)).toNat / 2 ^ 32 % 2 ^ 16
/-- FLAGS.INITEDGE of a header. -/
def instInitEdge (inst : Mem 64) (h : Nat) : Bool := (instFlags inst h).testBit 14
/-- FLAGS.RETAIN of a header. -/
def instRetain (inst : Mem 64) (h : Nat) : Bool := (instFlags inst h).testBit 15

/-- The checks of R143 on a handle but for the type: place, header, class, engine. -/
def View.instOk (v : View) (h : Nat) : Bool :=
  h % 8 == 0 && decide (h < instSize) && instId v.inst h != 0
    && instFlags v.inst h / 2 ^ 5 % 8 == clsCode v.cls && instFlags v.inst h / 2 ^ 8 % 16 == v.me

/-- Word `i` of the instance at handle `h` is a scratch word. -/
def isScratch (inst : Mem 64) (h i : Nat) : Bool := decide (2 + instState inst h ≤ i)

/-- Reads field `i` of the instance at `h` (R135, R142). -/
def View.field (v : View) (h i : Nat) : Except Exc W64 :=
  if 2 + instState v.inst h + instScratch v.inst h ≤ i then
    .error ⟨xFieldRange, false, some (instAddr h i)⟩
  else if isScratch v.inst h i && (tabFind v.ctx.scratch (h / 8 + i)).isNone then .ok 0
  else .ok (memGet v.inst (h / 8 + i))

/-- Writes word `i` of the instance at `h` and records the write (R92, R142). -/
def View.poke (v : View) (h i : Nat) (x : W64) : View :=
  let n := h / 8 + i
  { v with
    inst := memSet v.inst n x
    ctx := if isScratch v.inst h i then { v.ctx with scratch := tabSet v.ctx.scratch n () }
           else { v.ctx with written := tabSet v.ctx.written n () } }

/-- Stores field `i` of the instance at `h`; the header is closed to block code (R140, R152). -/
def View.store (v : View) (h i : Nat) (x : W64) : Res :=
  if i < 2 then .error ⟨xHeaderWrite, true, some (instAddr h i)⟩
  else if 2 + instState v.inst h + instScratch v.inst h ≤ i then
    .error ⟨xFieldRange, true, some (instAddr h i)⟩
  else .ok (v.poke h i x)

/-- The `n` words from field `i` are state words, as edges, timers and counters ask (R152). -/
def View.stateWords (v : View) (i n : Nat) : Bool :=
  decide (2 ≤ i) && decide (i + n ≤ 2 + instState v.inst v.eng.ib)

/-- A state word of the current instance. -/
def View.st (v : View) (i : Nat) : W64 := memGet v.inst (v.eng.ib / 8 + i)

/-! ### Image points (R148, R149) -/

/-- A WRITERS record assigns its bytes to this class and engine; the error tasks are one writer (R180). -/
def View.mine (v : View) (w : Writer) : Bool :=
  (w.cls == v.cls || (decide (6 ≤ w.cls) && decide (6 ≤ v.cls))) && w.engine == v.me

/-- A byte of an output area is assigned to the engine (R148). -/
def View.assigned (v : View) (a : Area) (o : Nat) : Bool :=
  v.img.writers.any fun w => v.mine w && rangeHolds w.range a o 1

/-- A byte is declared for reading by the class (R147, R148). -/
def View.declared (v : View) (a : Area) (o : Nat) : Bool :=
  (v.img.cls v.cls).reads.any fun r => rangeHolds r a o 1

/-- The byte that IRD reads, if any (R148). -/
def View.readByte (v : View) (a : Area) (o : Nat) : Option Byte :=
  if (a = .imgOut || a = .axOut) && v.assigned a o then some (memGet (v.ctx.obuf.get a) o)
  else if v.declared a o then some (memGet (v.ctx.rel.get a) o)
  else none

/-- `n` bytes that IRD reads, if it may read them all. -/
def View.readBytes (v : View) (a : Area) (o : Nat) : Nat → Option (List Byte)
  | 0 => some []
  | n + 1 => do
    let b ← v.readByte a o
    let bs ← v.readBytes a (o + 1) n
    return b :: bs

/-- IWR may write the `n` bytes (R148). -/
def View.writable (v : View) (a : Area) (o : Nat) : Nat → Bool
  | 0 => true
  | n + 1 => (a = .imgOut || a = .axOut) && v.assigned a o && v.writable a (o + 1) n

/-- Writes bytes into the output buffer. -/
def View.putBytes (v : View) (a : Area) (o : Nat) (bs : List Byte) : View :=
  { v with ctx := { v.ctx with obuf := v.ctx.obuf.put a (memWrite (v.ctx.obuf.get a) o bs) } }

/-- The first four checks of R149 on a point reference; `k` names the register of the access. -/
def pointCheck (p : W32) (k : Reg) (write : Bool) : Option Exc :=
  if pointRsvd p ≠ 0 || pointPast p then some ⟨xImgRange, write, some p.toNat⟩
  else if pointMisaligned p then some ⟨xImgAlign, write, some p.toNat⟩
  else if pointType p = 6 && !pairOk k then some (exc xBadReg)
  else none

/-- Reads a point into a register or pair (R149). -/
def View.readPoint (v : View) (p : W32) (d : Reg) : Res :=
  match pointCheck p d false, v.readBytes (pointArea p) (pointOfs p) (typeSize (pointType p)) with
  | some x, _ => .error x
  | none, none => .error ⟨xImgRange, false, some p.toNat⟩
  | none, some bs =>
    let n := leNat bs
    .ok (match pointType p with
    | 0 => v.w d (boolWord (n.testBit (pointBit p)))
    | 1 => v.w d ((BitVec.ofNat 16 n).signExtend 64)
    | 2 => v.w d ((BitVec.ofNat 32 n).signExtend 64)
    | 6 => v.w2 d (BitVec.ofNat 64 (n % 2 ^ 64)) (BitVec.ofNat 64 (n / 2 ^ 64))
    | _ => v.w d (BitVec.ofNat 64 n))

/-- The bytes that a register or pair stores at a point (R149, R150). `old` is the byte of a BOOL point. -/
def View.pointBytes (v : View) (p : W32) (d : Reg) (old : Byte) : List Byte :=
  let x := (v.r d).toNat
  match pointType p with
  | 0 => [if x.testBit 0 then old ||| (1#8 <<< pointBit p) else old &&& ~~~(1#8 <<< pointBit p)]
  | 6 => leBytes x 8 ++ leBytes (v.eng.reg (d.toNat + 1)).toNat 4
  | t => leBytes x (typeSize t)

/-- Writes a point from a register or pair (R149). -/
def View.writePoint (v : View) (p : W32) (d : Reg) : Res :=
  let a := pointArea p
  let o := pointOfs p
  match pointCheck p d true with
  | some x => .error x
  | none =>
    if v.writable a o (typeSize (pointType p)) then
      .ok (v.putBytes a o (v.pointBytes p d (memGet (v.ctx.obuf.get a) o)))
    else .error ⟨xImgRange, true, some p.toNat⟩

end Sys2Proof.Machine
end

