-- ==== Sys2Proof/Machine/Engine.lean ====
section
/-! DEFINITION. How an engine carries out one operation of the running image (R132-R136, R81, R82, R120,
R171, R172). -/
namespace Sys2Proof.Machine

/-- A code word (R135). -/
def opWord (op : BitVec 8) (d s : Reg) (i : Imm) : W32 := op ++ d ++ s ++ i

/-- An engine of an execution still has work. -/
def EngSt.live : EngSt → Bool
  | .run | .wait _ => true
  | .idle | .ended | .exc _ => false

/-- An execution has not ended: some engine with a share has work (R132). -/
def Ctx.live (c : Ctx) : Bool := c.engs.any fun p => p.2.st.live

/-- The class that a lane runs: the live execution of the highest priority (R62, R132). -/
def Lane.runCls (l : Lane) : Option Nat :=
  l.ctxs.foldl (fun best p =>
    if p.2.live then
      match best with
      | none => some p.1
      | some b => if clsRank p.1 < clsRank b then some p.1 else best
    else best) none

/-- Retired operations of an engine of a lane (R81). -/
def Lane.retired (l : Lane) (e : Nat) : Nat := tabGet l.ops 0 e

/-- A lane has reached the operation counts at which the leading lane took a start (R82). -/
def Lane.atGate (l : Lane) (g : Gate) : Bool := g.at_.all fun p => decide (p.2 ≤ l.retired p.1)

/-- A lane takes the starts whose position it has reached, in order (R82). -/
def Lane.takeGates (l : Lane) : Nat → Lane
  | 0 => l
  | n + 1 =>
    match l.gates with
    | [] => l
    | g :: rest =>
      if l.atGate g then Lane.takeGates { l with ctxs := tabSet l.ctxs g.cls g.ctx, gates := rest } n else l

/-- An engine may retire its next operation: the next start of its lane lies ahead (R82), the working lane before it
has retired the operation (R81), and a debug halt does not hold it (R120). -/
def Mod.mayRetire (m : Mod) (x : LaneId) (e : Nat) : Bool :=
  let l := m.lane x
  let n := l.retired e
  let gate := match l.gates with
    | g :: _ => decide (n < tabGet g.at_ 0 e)
    | [] => true
  let before := match (m.working.takeWhile fun y => y ≠ x).getLast? with
    | some y => decide (n < (m.lane y).retired e)
    | none => true
  let halt := match tabFind m.test.targets e with
    | some k => decide (n < k)
    | none => true
  gate && before && halt && !m.test.halted

/-- Class B is held at an operation boundary: by a final pass of a resync or of a join, or by a remap (R105, R196,
R513). -/
def Mod.holdB (m : Mod) : Bool :=
  (allLanes.any fun x => (m.lane x).phase = .final) || m.prog.remapped || (m.hall.sender && m.hall.join = .final)

/-- The engine of a command in the execution of its lane, when it may carry out an operation now. -/
def Mod.engine? (m : Mod) (e : EngRef) : Option View :=
  let l := m.lane e.lane
  match m.prog.image, l.runCls with
  | some img, some c =>
    let ctx := tabGet l.ctxs default c
    let eng := tabGet ctx.engs Eng.idle e.eng.val
    if l.inService && l.stopped.isNone && decide (eng.st = .run) && m.mayRetire e.lane e.eng.val
        && !(c == 5 && m.holdB) then
      some ⟨img, c, e.eng.val, l.inst, ctx, eng⟩
    else none
  | _, _ => none

/-- The engine of a command at an operation whose code word is `word`: the PC names it (log entry 4). -/
def Mod.fetch (m : Mod) (e : EngRef) (word : W32) : Option View :=
  match m.engine? e with
  | some v => if v.img.code[v.eng.pc]? = some word then some v else none
  | none => none

/-- Raises LINK_DEADLOCK on every waiting engine when all sharing engines wait or have finished (R151). -/
def Ctx.deadlock (c : Ctx) : Ctx :=
  let stop (_ : Nat) (e : Eng) : Eng :=
    match e.st with
    | .wait _ => { e with st := .exc (exc xLinkDeadlock) }
    | _ => e
  if c.engs.any fun p => p.2.st = .run then c else { c with engs := tabMap stop c.engs }

/-- Puts an engine and its execution back into the lane after an operation; a retired one counts (R81, R90). -/
def Mod.putView (m : Mod) (e : EngRef) (v : View) (cost : Nat) (retired : Bool) : Mod :=
  let eng := { v.eng with cyc := v.eng.cyc + cost, ops := v.eng.ops + (if retired then 1 else 0) }
  let ctx := Ctx.deadlock { v.ctx with engs := tabSet v.ctx.engs v.me eng }
  m.setLane e.lane fun l =>
    let l := { l with
      inst := v.inst
      ctxs := tabSet l.ctxs v.cls ctx
      ops := if retired then tabSet l.ops v.me (l.retired v.me + 1) else l.ops }
    l.takeGates (l.gates.length)

/-- The view after an operation that continues at the next word. -/
def View.next (v : View) (n : Nat) : View := { v with eng := { v.eng with pc := (v.eng.pc + n) % 2 ^ 24 } }

/-- An operation that raised an exception: it writes nothing and its engine stops (R172). -/
def View.raised (v : View) (x : Exc) : View := { v with eng := { v.eng with st := .exc x } }

/-- Carries out one operation of an engine: `f` works on the view with PC moved to the next word. A command
for an operation that the engine does not stand at changes nothing (log entry 4). -/
def Mod.engOp (m : Mod) (e : EngRef) (word : W32) (cost : Nat) (f : View → Res) : Mod :=
  match m.fetch e word with
  | none => m
  | some v =>
    match f (v.next 1) with
    | .ok v' => m.putView e v' cost true
    | .error c => m.putView e (v.raised c) cost false

/-- An operation that only writes its register. -/
def Mod.regOp (m : Mod) (e : EngRef) (word : W32) (cost : Nat) (d : Reg) (f : View → W64) : Mod :=
  m.engOp e word cost fun v => .ok (v.w d (f v))

/-- The meaning of an operation as an outcome. -/
def State.op (s : State) (e : EngRef) (word : W32) (cost : Nat) (f : View → Res) :
    Host.Outcome State Fault Refusal :=
  s.does fun m => m.quiet.engOp e word cost f

/-- The meaning of an operation that only writes its register. -/
def State.opReg (s : State) (e : EngRef) (word : W32) (cost : Nat) (d : Reg) (f : View → W64) :
    Host.Outcome State Fault Refusal :=
  s.does fun m => m.quiet.regOp e word cost d f

end Sys2Proof.Machine
end

