-- ==== Sys2Proof/Machine/Arith.lean ====
section
/-! DEFINITION. ARITH-INT: 64-bit two's complement (R152). -/
namespace Sys2Proof.Machine

/-- A result saturated to [−2^63, 2^63 − 1] (R152). -/
def satWord (x : Int) : W64 := BitVec.ofInt 64 (max (-(2 ^ 63)) (min x (2 ^ 63 - 1)))

/-- ADD (R152). -/
def execAdd (e : EngRef) (d s1 : Reg) (s : State) : Host.Outcome State Fault Refusal :=
  s.opReg e (opWord 0x10 d s1 0) 1 d fun v => v.r d + v.r s1

/-- SUB (R152). -/
def execSub (e : EngRef) (d s1 : Reg) (s : State) : Host.Outcome State Fault Refusal :=
  s.opReg e (opWord 0x11 d s1 0) 1 d fun v => v.r d - v.r s1

/-- ADDI (R152): Wd := Ws + si. -/
def execAddi (e : EngRef) (d s1 : Reg) (i : Imm) (s : State) : Host.Outcome State Fault Refusal :=
  s.opReg e (opWord 0x12 d s1 i) 1 d fun v => v.r s1 + signImm i

/-- MUL (R152): the low 64 bits of the product. -/
def execMul (e : EngRef) (d s1 : Reg) (s : State) : Host.Outcome State Fault Refusal :=
  s.opReg e (opWord 0x13 d s1 0) 3 d fun v => v.r d * v.r s1

/-- MULH (R152): the high 64 bits of the signed 128-bit product. -/
def execMulh (e : EngRef) (d s1 : Reg) (s : State) : Host.Outcome State Fault Refusal :=
  s.opReg e (opWord 0x14 d s1 0) 4 d fun v => BitVec.ofInt 64 ((v.r d).toInt * (v.r s1).toInt / 2 ^ 64)

/-- DIV (R152): signed quotient, truncated toward zero; −2^63 / −1 gives −2^63. -/
def execDiv (e : EngRef) (d s1 : Reg) (s : State) : Host.Outcome State Fault Refusal :=
  s.op e (opWord 0x15 d s1 0) 20 fun v => 
    if v.r s1 = 0 then .error (exc xDivZero) else .ok (v.w d ((v.r d).sdiv (v.r s1)))

/-- DIVU (R152): unsigned quotient. -/
def execDivu (e : EngRef) (d s1 : Reg) (s : State) : Host.Outcome State Fault Refusal :=
  s.op e (opWord 0x16 d s1 0) 20 fun v => 
    if v.r s1 = 0 then .error (exc xDivZero) else .ok (v.w d (v.r d / v.r s1))

/-- REM (R152): signed remainder with the sign of Wd; −2^63 rem −1 gives 0. -/
def execRem (e : EngRef) (d s1 : Reg) (s : State) : Host.Outcome State Fault Refusal :=
  s.op e (opWord 0x17 d s1 0) 20 fun v => 
    if v.r s1 = 0 then .error (exc xDivZero) else .ok (v.w d ((v.r d).srem (v.r s1)))

/-- NEG (R152). -/
def execNeg (e : EngRef) (d s1 : Reg) (s : State) : Host.Outcome State Fault Refusal :=
  s.opReg e (opWord 0x18 d s1 0) 1 d fun v => -(v.r s1)

/-- ABS (R152): −2^63 gives −2^63. -/
def execAbs (e : EngRef) (d s1 : Reg) (s : State) : Host.Outcome State Fault Refusal :=
  s.opReg e (opWord 0x19 d s1 0) 1 d fun v => if (v.r s1).msb then -(v.r s1) else v.r s1

/-- ADDS (R152): saturated sum. -/
def execAdds (e : EngRef) (d s1 : Reg) (s : State) : Host.Outcome State Fault Refusal :=
  s.opReg e (opWord 0x1A d s1 0) 1 d fun v => satWord ((v.r d).toInt + (v.r s1).toInt)

/-- SUBS (R152): saturated difference. -/
def execSubs (e : EngRef) (d s1 : Reg) (s : State) : Host.Outcome State Fault Refusal :=
  s.opReg e (opWord 0x1B d s1 0) 1 d fun v => satWord ((v.r d).toInt - (v.r s1).toInt)

/-- MULS (R152): saturated product. -/
def execMuls (e : EngRef) (d s1 : Reg) (s : State) : Host.Outcome State Fault Refusal :=
  s.opReg e (opWord 0x1C d s1 0) 4 d fun v => satWord ((v.r d).toInt * (v.r s1).toInt)

end Sys2Proof.Machine
end

