-- ==== Sys2Proof/Machine/Crc.lean ====
section
/-! DEFINITION. CRC-32C, reflected, with initial value and final complement 0xFFFF_FFFF (R94), and the
digest of a set of state words (R94). -/
namespace Sys2Proof.Machine

/-- One bit step of the reflected CRC-32C register; 0x82F63B78 is the reflected polynomial. -/
def crcBit (c : W32) : W32 :=
  if c.getLsbD 0 then (c >>> 1) ^^^ 0x82F63B78#32 else c >>> 1

/-- Eight bit steps. -/
def crcByte (c : W32) (b : Byte) : W32 :=
  let x := c ^^^ b.zeroExtend 32
  crcBit (crcBit (crcBit (crcBit (crcBit (crcBit (crcBit (crcBit x)))))))

/-- CRC-32C of a byte list. -/
def crc32c (bs : List Byte) : W32 := ~~~ (bs.foldl crcByte 0xFFFFFFFF#32)

/-- The 16 bytes of a state word in the digest: its byte offset, then its value (R94). -/
def digRecord (w : Nat × W64) : List Byte := leBytes w.1 8 ++ leBytes w.2.toNat 8

/-- The digest of state words given in ascending offset; the empty set gives zero (R94). -/
def digest (ws : List (Nat × W64)) : W64 :=
  if ws.isEmpty then 0
  else (crc32c (ws.reverse.flatMap digRecord)) ++ (crc32c (ws.flatMap digRecord))

end Sys2Proof.Machine
end

