-- ==== Sys2Proof/Machine/Lsu.lean ====
section
/-! DEFINITION. The Line Shaft Unit (R324-R355): one run over masters, followers and compare units. All
arithmetic is exact; it rounds only where the manual names a floor (R325). -/
namespace Sys2Proof.Machine

/-- One turn in units of 2^-48 turn (R324). -/
def turn : Int := 2 ^ 48

/-- What an LSU run reads (R50, R54): the tick and the motion tick in ns, line time of t0(n) in
2^-16 ns, the axis section, generation n, the image copies as of t0 + 0.6 µs, the stamps of each
channel since the last freeze, and whether a station's validity bit is 1 or it is DROPPED. -/
structure LsuIn where
  tick : Nat
  tickNs : Nat
  cfg : AxisCfg
  slots : List SlotRec
  stations : List StationRec
  inp : Areas
  cmd : Areas
  stamps : List (List Stamp)
  valid : Tab Bool
  dropped : Tab Bool
  deriving DecidableEq, Repr

/-! ### Small helpers -/

/-- The value with the sign of the argument: −1, 0 or 1. -/
def sgn (x : Int) : Int := if 0 < x then 1 else if x < 0 then -1 else 0

/-- The magnitude of a rational. -/
def ratAbs (x : Rat) : Rat := if x < 0 then -x else x

/-- Clamps into [−m, m]. -/
def clampAbs (x m : Int) : Int := max (-m) (min x m)

/-- Saturates to a signed value of `n` bits. -/
def satInt (n : Nat) (x : Int) : Int := max (-(2 ^ (n - 1))) (min x (2 ^ (n - 1) - 1))

/-- The floor of `a / b` for a positive divisor. -/
def fdiv (a b : Int) : Int := a / b

/-- The n-th newest shaft point of a history. -/
def ptAt (pts : List Int) (k : Nat) : Int := pts.getD k (pts.getLastD 0)

/-- A history with a new point in front, four kept (R327). -/
def ptPush (pts : List Int) (p : Int) : List Int := (p :: pts).take 4

/-- The master record of master `m` (R359). -/
def LsuIn.master (i : LsuIn) (m : Nat) : Option MasterRec :=
  match i.cfg.masters[m]? with
  | some r => if r.kind = .unused then none else some r
  | none => none

/-- The axis records by axis number, in ascending order (R342). -/
def axisTab (c : AxisCfg) : Tab AxisRec := c.axes.foldl (fun t r => tabSet t r.axis r) []

/-- The cam table of an identifier (R347). -/
def camOf (c : AxisCfg) (id : Nat) : Option CamTab := c.cams.find? fun t => t.id = id

/-- The registration record of an axis (R344). -/
def regOf (c : AxisCfg) (a : Nat) : Option RegRec := c.regs.find? fun r => r.axis = a

/-- The station that carries a byte range of generation n, if any (R332). -/
def sourceStation (slots : List SlotRec) (a : Area) (o n : Nat) : Option Nat :=
  (slots.find? fun r => !r.output && bytesIn [r.range] a o n).map SlotRec.station

/-! ### External masters (R332-R334) -/

/-- Source units to 2^-48 turn: K of R332. -/
def srcScale : SrcType → Int
  | .turn96 => 2 ^ 16
  | .int32 | .int64 => 2 ^ 48

/-- The source difference since the last valid sample, counters unwrapped (R332). -/
def srcDiff (ty : SrcType) (new old : Int) : Int :=
  match ty with
  | .turn96 => new - old
  | .int32 => (new - old).bmod (2 ^ 32)
  | .int64 => (new - old).bmod (2 ^ 64)

/-- The measured position without the holdover offset: floor(total × SNUM × K / SDEN) (R332). -/
def measured (r : MasterRec) (total : Int) : Int := fdiv (total * r.snum * srcScale r.srcType) r.sden

/-- The velocity estimate over a history of measured positions, newest first (R333). -/
def vEst (filter : Nat) (hist : List Int) : Int :=
  let age := min (2 ^ filter) (hist.length - 1)
  if age = 0 then 0 else fdiv (hist.getD 0 0 - hist.getD age 0) age

/-- Where the LATCH_NS of the source's station is read (R333). -/
def latchOf (i : LsuIn) (st : Nat) : Nat :=
  match i.stations.find? fun r => r.station = st with
  | some r => r.latchNs
  | none => 0

/-- An event of the LSU with the published position of its subject. -/
def lsuEv (pl : AxisPlace) (code : Nat) (d24 pos : Int) : LsuEv := ⟨pl, code, satInt 32 d24, pos⟩

/-- A run of an external master with a valid sample (R332, R333, R334). -/
def extSample (i : LsuIn) (r : MasterRec) (st m : Nat) (s : MasterSt) : MasterSt × List LsuEv :=
  let src := sourceValue i.inp r.srcType r.src
  let lead (h : List Int) : Int :=
    fdiv (vEst r.filter h * (3 * i.tickNs - latchOf i st + r.extraNs)) i.tickNs
  if !s.seen then
    let p := measured r src
    ({ s with state := .steady, seen := true, first := true, total := src, lastSrc := src, hofs := 0,
              hist := [p], p := p, v := 0, a := 0, hold := 0 }, [])
  else if s.state = .steady then
    let total := s.total + srcDiff r.srcType src s.lastSrc
    let pm := measured r total + s.hofs
    let h := (pm :: s.hist).take 17
    let v := vEst r.filter h
    ({ s with total := total, lastSrc := src, hist := h, p := pm + lead h, v := v, a := v - s.v,
              first := false }, [])
  else
    let hofs := s.p - measured r s.total
    ({ s with state := .steady, lastSrc := src, hofs := hofs, hist := [s.p], v := 0, a := 0 - s.v,
              hold := 0, first := false },
     [lsuEv (.master m) 5 (fdiv (hofs - s.hofs) (2 ^ 16)) s.p])

/-- The ramp of a LOST master to 0 at HALT_DEC, without jerk (R334). -/
def lostRamp (r : MasterRec) (s : MasterSt) : MasterSt :=
  let v := if s.v.natAbs ≤ r.haltDec then 0 else s.v - sgn s.v * r.haltDec
  { s with p := s.p + v, v := v, a := v - s.v }

/-- A run of an external master without a sample (R334). -/
def extMissing (r : MasterRec) (m : Nat) (s : MasterSt) : MasterSt × List LsuEv :=
  if !s.seen then ({ s with state := .lost, first := false }, [])
  else if s.state = .lost then ({ lostRamp r s with first := false }, [])
  else if r.holdTicks ≤ s.hold then
    ({ lostRamp r { s with state := .lost } with first := false },
     [lsuEv (.master m) 4 (fdiv s.v (2 ^ 16)) (lostRamp r s).p])
  else ({ s with state := .holdover, hold := s.hold + 1, p := s.p + s.v, a := 0, first := false }, [])

/-- One external master in a run. -/
def extRun (i : LsuIn) (m : Nat) (r : MasterRec) (s : MasterSt) : MasterSt × List LsuEv :=
  let a := pointArea r.src
  let n := match r.srcType with | .turn96 => 12 | .int32 => 4 | .int64 => 8
  match sourceStation i.slots a (pointOfs r.src) n with
  | some st =>
    if tabGet i.valid false st then extSample i r st m s else extMissing r m s
  | none => extMissing r m s

/-! ### Virtual masters (R328-R331) -/

/-- A master command entry (R328). -/
structure MCmd where
  op : Nat
  cseq : Nat
  vTgt : Int
  accW : Nat
  dec : Int
  deriving DecidableEq, Repr

/-- Entry `v` of the command block at CMD_OFS (R328). -/
def readMCmd (i : LsuIn) (v : Nat) : MCmd :=
  let o := i.cfg.cmdOfs + 32 * v
  let w := memNat i.cmd.imgOut o 8
  ⟨w / 2 ^ 56, w / 2 ^ 48 % 256, memInt i.cmd.imgOut (o + 8) 8, memNat i.cmd.imgOut (o + 16) 8,
   memInt i.cmd.imgOut (o + 24) 8⟩

/-- RESULT codes (R329). -/
def rOk : Nat := 0
/-- OP not defined for this object. -/
def rBadOp : Nat := 1
/-- Master not configured. -/
def rBadMaster : Nat := 2
/-- Ratio numerator 0 or denominator 0. -/
def rBadRatio : Nat := 3
/-- CAM_ID not in the running image. -/
def rBadCam : Nat := 4
/-- Not allowed in the present state. -/
def rWrongState : Nat := 5
/-- Engaged to another master. -/
def rWrongMaster : Nat := 6
/-- The master is LOST. -/
def rMasterLost : Nat := 7
/-- A profile that the command may not have. -/
def rBadProfile : Nat := 8
/-- Dropped at entry to pair mode HALT. -/
def rHalted : Nat := 9

/-- The axis is engaged to a master (R339). -/
def AxisSt.engaged (x : AxisSt) : Bool :=
  match x.state with
  | .geared | .cammed | .disengaging => true
  | .notReady | .disengaged => false

/-- Some follower is engaged to master `m`. -/
def followerOn (axes : Tab AxisSt) (m : Nat) : Bool :=
  axes.any fun p => p.2.engaged && p.2.master = m

/-- A signed 64-bit word read from its unsigned value. -/
def toS64 (n : Nat) : Int := (BitVec.ofNat 64 n).toInt

/-- The result of a command to a virtual master, the first failing row of R329. -/
def mCheck (l : Lsu) (r : Option MasterRec) (m : Nat) (s : MasterSt) (c : MCmd) : Nat :=
  if 4 < c.op then rBadOp
  else match r with
    | none => rBadMaster
    | some r =>
      let bad :=
        match c.op with
        | 1 => (r.vmax != 0 && decide (r.vmax < c.vTgt.natAbs)) || decide (toS64 c.accW ≤ 0)
                 || decide (c.dec ≤ 0)
        | 2 => decide (c.dec ≤ 0)
        | 4 => s.v != 0 || s.a != 0 || followerOn l.axes m
        | _ => false
      if bad then rBadProfile else rOk

/-- The state name of a virtual master (R336). -/
def virtState (v g : Int) : MState :=
  if v = g then (if v = 0 then .standstill else .steady) else .ramping

/-- The effect of an accepted command on a virtual master (R330). -/
def mAct (r : Option MasterRec) (s : MasterSt) (c : MCmd) : MasterSt :=
  let halt : Int := match r with | some r => r.haltDec | none => 0
  match c.op with
  | 1 => { s with g := c.vTgt, acc := toS64 c.accW, dec := c.dec }
  | 2 => { s with g := 0, dec := c.dec }
  | 3 => { s with g := 0, acc := halt, dec := halt }
  | 4 => { s with p := c.vTgt * turn + (c.accW % 2 ^ 32 : Nat) * 2 ^ 16, g := 0 }
  | _ => s

/-- Takes a command whose CSEQ differs from the acknowledged one (R329). -/
def mTake (l : Lsu) (r : Option MasterRec) (m : Nat) (s : MasterSt) (c : MCmd) : MasterSt × List LsuEv :=
  if c.cseq = s.ack then (s, [])
  else if l.haltRamp then
    ({ s with ack := c.cseq, result := rHalted },
     [lsuEv (.master m) 6 (c.cseq * 65536 + rHalted * 256 + c.op) s.p])
  else
    let res := mCheck l r m s c
    let s' := { s with ack := c.cseq, result := res }
    if res = rOk then (mAct r s' c, [])
    else (s', [lsuEv (.master m) 6 (c.cseq * 65536 + res * 256 + c.op) s.p])

/-- The profile step of R330. -/
def profile (j : Int) (s : MasterSt) : MasterSt :=
  let dv := s.g - s.v
  let mag := if (0 < dv ∧ 0 ≤ s.v) ∨ (dv < 0 ∧ s.v ≤ 0) then s.acc else s.dec
  let goal0 := sgn dv * mag
  let goal := if 0 < j ∧ s.a ≠ 0 ∧ sgn s.a = sgn dv ∧ 2 * j * dv.natAbs ≤ s.a * s.a then 0 else goal0
  let a := if 0 < j then s.a + clampAbs (goal - s.a) j else goal
  let v := s.v + a
  let (v, a) := if dv = 0 ∨ sgn (s.g - v) ≠ sgn dv then (s.g, 0) else (v, a)
  { s with p := s.p + v, v := v, a := a, state := virtState v s.g }

/-- The quick stop of R331: target 0 with HALT_DEC for both limits. -/
def quickStop (r : MasterRec) (s : MasterSt) : MasterSt :=
  { s with g := 0, acc := r.haltDec, dec := r.haltDec }

/-- One virtual master in a run: its command, then the profile step (R342). -/
def virtRun (i : LsuIn) (l : Lsu) (m : Nat) (r : MasterRec) (s : MasterSt) : MasterSt × List LsuEv :=
  let (s, ev) := mTake l (some r) m s (readMCmd i m)
  let s := if l.haltRamp then quickStop r s else s
  ({ profile r.jerk s with first := l.fresh }, ev)

/-- One master in a run, its new shaft point recorded (R327); a command to one that is not configured is refused
(R329). -/
def masterRun (i : LsuIn) (l : Lsu) (m : Nat) : Lsu :=
  match i.master m with
  | none =>
    if 16 ≤ m then l
    else
      let s := tabGet l.masters (MasterSt.init .unused) m
      let (s', ev) := mTake l none m s (readMCmd i m)
      if ev.isEmpty then l
      else { l with masters := tabSet l.masters m s', events := l.events ++ ev, refused := l.refused + 1 }
  | some r =>
    let s := tabGet l.masters (MasterSt.init r.kind) m
    let (s, ev) := if r.kind = .virtual then virtRun i l m r s else extRun i m r s
    let s := if l.fresh then { s with first := true } else s
    { l with masters := tabSet l.masters m { s with pts := ptPush s.pts s.p }
             events := l.events ++ ev.map fun e => { e with pos := s.p }
             refused := l.refused + (ev.filter fun e => e.code = 6).length }

/-! ### Cam tables (R347, R348) -/

/-- The length of a segment: 0 stands for 2^32 (R347). -/
def segLen (s : CamSeg) : Nat := if s.xLen = 0 then 2 ^ 32 else s.xLen

/-- The value of a segment at abscissa x (R348). -/
def segEval (s : CamSeg) (x : Nat) : Int :=
  let u : Int := ((x - s.xStart) * 2 ^ 32 / segLen s : Nat)
  let y := s.c2 + fdiv (u * s.c3) (2 ^ 32)
  let y := s.c1 + fdiv (u * y) (2 ^ 32)
  s.c0 + fdiv (u * y) (2 ^ 32)

/-- The cam value at abscissa x: the segment that holds x (R348). -/
def camEval (t : CamTab) (x : Nat) : Int :=
  match t.segs.find? fun s => decide (s.xStart ≤ x) && decide (x < s.xStart + segLen s) with
  | some s => segEval s x
  | none => 0

/-- The cycle length in units of 2^-48 turn (R341). -/
def camLen (t : CamTab) : Rat := (t.cnum * turn : Int) / (t.cden : Int)

/-- The cycle a master position lies in, counted from m_ref (R341). -/
def camCycle (t : CamTab) (mref : Rat) (m : Int) : Int := ((m - mref) / camLen t).floor

/-- The coupling term of a cam (R341). -/
def camCouple (t : CamTab) (mref : Rat) (m : Int) : Int :=
  let k := camCycle t mref m
  let x := ((m - mref - k * camLen t) * 2 ^ 32 / camLen t).floor
  k * t.stroke + camEval t x.toNat

/-! ### Followers (R337-R346) -/

/-- The coupling term of a gear ramp (R340). -/
def gearCouple (r0 r1 : Rat) (d : Nat) (dm : Rat) : Int :=
  if 0 < d ∧ ratAbs dm < d then (r0 * dm + (r1 - r0) * dm * ratAbs dm / (2 * d)).floor
  else
    let s : Rat := if 0 < dm then 1 else if dm < 0 then -1 else 0
    (r1 * dm - s * (r1 - r0) * d / 2).floor

/-- An axis command (R338). -/
structure ACmd where
  op : Nat
  cseq : Nat
  master : Nat
  atAngle : Bool
  param : Nat
  arg : W64
  deriving DecidableEq, Repr

/-- Words 6 and 7 of the axis's AXOUT record (R338). -/
def readACmd (i : LsuIn) (a : Nat) : ACmd :=
  let w := memNat i.cmd.axOut (64 * a + 48) 8
  ⟨w / 2 ^ 56, w / 2 ^ 48 % 256, w / 2 ^ 40 % 256, w / 2 ^ 32 % 2 = 1, w % 2 ^ 32,
   BitVec.ofNat 64 (memNat i.cmd.axOut (64 * a + 56) 8)⟩

/-- NUM of a GEAR argument. -/
def argNum (w : W64) : Int := (w.extractLsb' 32 32).toInt
/-- DEN of a GEAR argument. -/
def argDen (w : W64) : Nat := (w.extractLsb' 0 32).toNat
/-- CAM_ID of a CAM argument. -/
def argCam (w : W64) : Nat := (w.extractLsb' 0 16).toNat

/-- The result of an axis command, the first failing row of R329 and R339. -/
def aCheck (i : LsuIn) (l : Lsu) (a : Nat) (x : AxisSt) (c : ACmd) : Nat :=
  let lost : Bool := match tabFind l.masters c.master with
    | some s => decide (s.state = .lost)
    | none => false
  match c.op with
  | 0 => rOk
  | 1 =>
    if (i.master c.master).isNone then rBadMaster
    else if argNum c.arg = 0 ∨ argDen c.arg = 0 then rBadRatio
    else if x.state ≠ .disengaged ∧ x.state ≠ .geared then rWrongState
    else if x.state = .geared ∧ x.master ≠ c.master then rWrongMaster
    else if lost then rMasterLost else rOk
  | 2 =>
    if (i.master c.master).isNone then rBadMaster
    else if (camOf i.cfg (argCam c.arg)).isNone then rBadCam
    else if x.state ≠ .disengaged ∧ x.state ≠ .cammed then rWrongState
    else if x.state = .cammed ∧ x.master ≠ c.master then rWrongMaster
    else if lost then rMasterLost else rOk
  | 3 => if x.state = .notReady then rWrongState else rOk
  | 4 =>
    match x.state with
    | .geared | .cammed => rOk
    | .disengaged => if x.wait.isSome then rOk else rWrongState
    | .notReady | .disengaging => rWrongState
  | 5 | 6 => if (regOf i.cfg a).isSome then rOk else rBadOp
  | _ => rBadOp

/-- φ of an axis after i ticks of its ramp (R343). -/
def AxisSt.phi (x : AxisSt) : Int :=
  if x.rampR ≤ x.rampI then x.phi0 + x.dphi else x.phi0 + fdiv (x.dphi * x.rampI) x.rampR

/-- A phase change over R ticks; the unapplied rest is added (R343). -/
def AxisSt.phase (x : AxisSt) (d : Int) (r : Nat) : AxisSt :=
  { x with phi0 := x.phi, dphi := x.phi0 + x.dphi - x.phi + d, rampR := max 1 r, rampI := 0 }

/-- Engages a gear ratio from the held position at a master position (R340). -/
def AxisSt.engageGear (x : AxisSt) (m : Nat) (mref : Int) (num : Int) (den dist : Nat) : AxisSt :=
  { x with state := .geared, master := m, mref := mref, r0 := 0, r1 := num / (den : Int), dist := dist,
           wait := none }

/-- Changes the ratio in force: C(n−1) moves into b (R340). -/
def AxisSt.changeRatio (x : AxisSt) (mref : Int) (r : Rat) (st : AState) : AxisSt :=
  { x with b := x.b + x.c, c := 0, mref := mref, r0 := x.r1, r1 := r, state := st, wait := none }

/-- Engages a cam from the held position at a master position (R341). -/
def AxisSt.engageCam (x : AxisSt) (m : Nat) (mref : Int) (t : CamTab) : AxisSt :=
  { x with state := .cammed, master := m, mref := mref, cam := t.id, b := x.b - camEval t 0, c := camEval t 0,
           wait := none }

/-- The state an axis holds when a cam or ramp ends: b takes the held position, C is zero. -/
def AxisSt.holdAt (x : AxisSt) (b : Int) : AxisSt :=
  { x with state := .disengaged, b := b, c := 0, wait := none }

/-- What a waiting or immediate GEAR or CAM does at a master position (R339-R341). -/
def engageAt (cfg : AxisCfg) (dist : Nat) (x : AxisSt) (w : WaitCmd) (at_ prev : Int) : AxisSt :=
  match w.op with
  | .gear num den =>
    if x.state = .geared then { x.changeRatio prev (num / (den : Int)) .geared with dist := dist }
    else x.engageGear w.master at_ num den dist
  | .cam id =>
    match camOf cfg id with
    | some t => if x.state = .cammed then x else x.engageCam w.master at_ t
    | none => { x with wait := none }
  | .disengage => x

/-- Acts on an accepted axis command (R339). `mPrev` is m(n−1) of the command's or axis's master. -/
def aAct (i : LsuIn) (l : Lsu) (r : AxisRec) (x : AxisSt) (c : ACmd) : AxisSt :=
  let mPrev (m : Nat) : Int :=
    match tabFind l.masters m with | some s => ptAt s.pts 1 | none => 0
  let go (op : WaitOp) : AxisSt :=
    let w : WaitCmd := ⟨c.cseq, c.master, if c.atAngle then some c.param else none, op⟩
    if c.atAngle then { x with wait := some w }
    else engageAt i.cfg r.engDist { x with wait := none } w (mPrev c.master) (mPrev c.master)
  match c.op with
  | 1 => go (.gear (argNum c.arg) (argDen c.arg))
  | 2 =>
    if x.state = .cammed then { x with wait := some ⟨c.cseq, c.master, none, .cam (argCam c.arg)⟩ }
    else go (.cam (argCam c.arg))
  | 3 => x.phase c.arg.toInt c.param
  | 4 =>
    match x.state with
    | .geared => { x.changeRatio (mPrev x.master) 0 .disengaging with dist := r.engDist }
    | .cammed => { x with wait := some ⟨c.cseq, x.master, none, .disengage⟩ }
    | _ => { x with wait := none }
  | 5 => { x with regOn := true }
  | 6 => { x with regOn := false }
  | _ => x

/-- At the entry to HALT a waiting engagement or cam switch is dropped with HALTED; a waiting ratio change or
disengagement stays (R331). -/
def haltDrop (r : AxisRec) (x : AxisSt) : AxisSt × List LsuEv :=
  let drop (w : WaitCmd) (op : Nat) : AxisSt × List LsuEv :=
    ({ x with wait := none, result := if w.cseq = x.ack then rHalted else x.result },
     [lsuEv (.axis r.axis) 6 (w.cseq * 65536 + rHalted * 256 + op) (ptAt x.pts 0)])
  match x.wait with
  | some ⟨q, m, g, .gear n d⟩ => if x.state = .disengaged then drop ⟨q, m, g, .gear n d⟩ 1 else (x, [])
  | some ⟨q, m, g, .cam id⟩ => drop ⟨q, m, g, .cam id⟩ 2
  | some ⟨_, _, _, .disengage⟩ => (x, [])
  | none => (x, [])

/-- Takes an axis command whose CSEQ differs from the acknowledged one (R329, R331). -/
def aTake (i : LsuIn) (l : Lsu) (r : AxisRec) (x : AxisSt) (c : ACmd) : AxisSt × List LsuEv :=
  let ev (res : Nat) : List LsuEv :=
    [lsuEv (.axis r.axis) 6 (c.cseq * 65536 + res * 256 + c.op) (ptAt x.pts 0)]
  if l.haltRamp then
    let (x, dropped) := haltDrop r x
    if c.cseq = x.ack then (x, dropped) else ({ x with ack := c.cseq, result := rHalted }, dropped ++ ev rHalted)
  else if c.cseq = x.ack then (x, [])
  else
    let res := aCheck i l r.axis x c
    let x' := { x with ack := c.cseq, result := res }
    if res = rOk then (aAct i l r x' c, []) else (x', ev res)

/-- Take-up of an axis from its actual position (R345). -/
def takeUp (inp : Areas) (a : Nat) (x : AxisSt) : AxisSt :=
  let act := memTurn inp.axIn (64 * a) * 2 ^ 16
  { x with state := .disengaged, b := act, c := 0, phi0 := 0, dphi := 0, rampR := 1, rampI := 1,
           pts := [act, act, act, act], spVel := 0, spAcc := 0, first := true }

/-- L/2 residues: brings `x mod L` into [−L/2, L/2) (R344). -/
def midMod (x len : Rat) : Rat :=
  let r := x - (x / len).floor * len
  if r < len / 2 then r else r - len

/-- Registration of an axis in one run (R344). -/
def regRun (i : LsuIn) (l : Lsu) (x : AxisSt) (a : Nat) : AxisSt × List LsuEv × Nat × Nat :=
  match regOf i.cfg a with
  | none => (x, [], 0, 0)
  | some r =>
    if !x.regOn then (x, [], 0, 0)
    else
      let t1 : Int := (i.tick * i.tickNs : Nat)
      let t0 : Int := t1 - i.tickNs
      let inside := (i.stamps.getD r.ch []).filter fun s => decide (t0 ≤ s.ns) && decide ((s.ns : Int) < t1)
      match inside.getLast? with
      | none => (x, [], 0, 0)
      | some s =>
        let multi := inside.length - 1
        let pts := match tabFind l.masters r.master with | some m => m.pts | none => []
        let p3 := ptAt pts 3
        let p2 := ptAt pts 2
        let pc := p3 + fdiv ((p2 - p3) * ((s.ns - t0) * 2 ^ 16)) (i.tickNs * 2 ^ 16)
        let e := midMod ((pc - r.expect : Int) : Rat) ((r.lnum * turn : Int) / (r.lden : Int))
        if (r.window : Rat) < ratAbs e then
          ({ x with accepted := false },
           if x.accepted then [lsuEv (.axis a) 8 (e / 2 ^ 16).floor (ptAt x.pts 0)] else [], 0, multi + 1)
        else
          let d := (e * r.gnum / (r.gden : Int)).floor
          let dc := clampAbs d r.maxStep
          ({ x.phase dc r.ramp with accepted := true },
           if dc = d then [] else [lsuEv (.axis a) 9 (fdiv d (2 ^ 16)) (ptAt x.pts 0)], 1, multi)

/-- The first position of an angle that the master passes from `m0` to `m1`, if any (R339). -/
def passAngle (angle : Nat) (m0 m1 : Int) : Option Int :=
  let f : Int := angle * 2 ^ 16
  if m0 < m1 then
    let x := fdiv (m0 - f) turn * turn + turn + f
    if x ≤ m1 then some x else none
  else if m1 < m0 then
    let x := fdiv (m0 - 1 - f) turn * turn + f
    if m1 ≤ x then some x else none
  else none

/-- The ceiling of a rational. -/
def ratCeil (x : Rat) : Int := -(-x).floor

/-- The first cycle boundary that the master passes from `p0` to `p1`, in either direction: one it stands on is not
passed again (R339, R341). -/
def camFirst (t : CamTab) (mref p0 p1 : Rat) : Option Int :=
  if p0 < p1 then
    let k := ((p0 - mref) / camLen t).floor + 1
    if mref + k * camLen t ≤ p1 then some k else none
  else if p1 < p0 then
    let k := ratCeil ((p0 - mref) / camLen t) - 1
    if p1 ≤ mref + k * camLen t then some k else none
  else none

/-- How many cycle boundaries the master passes from `p0` to `p1` (R341). -/
def camPassed (t : CamTab) (mref p0 p1 : Rat) : Nat :=
  if p0 ≤ p1 then (((p1 - mref) / camLen t).floor - ((p0 - mref) / camLen t).floor).toNat
  else (ratCeil ((p0 - mref) / camLen t) - ratCeil ((p1 - mref) / camLen t)).toNat

/-- The events of a cam at the cycle boundaries that the master passes on its way from `p0` to `p1` (R341). -/
def camEvents (i : LsuIn) (x : AxisSt) (p0 p1 : Rat) : Nat → AxisSt
  | 0 => x
  | fuel + 1 =>
    match x.state, camOf i.cfg x.cam with
    | .cammed, some t =>
      match camFirst t x.mref p0 p1 with
      | none => x
      | some kb =>
        let held := x.b + kb * t.stroke + camEval t 0
        match x.wait with
        | some ⟨_, _, _, .cam id⟩ =>
          match camOf i.cfg id with
          | some t' =>
            let at_ := x.mref + kb * camLen t
            camEvents i { x with b := held - camEval t' 0, mref := at_, cam := id, wait := none } at_ p1 fuel
          | none => { x with wait := none }
        | some ⟨_, _, _, .disengage⟩ => x.holdAt held
        | _ => if t.oneshot then x.holdAt held else x
    | _, _ => x

/-- Waiting events of an axis between m(n−1) and m(n), then its coupling term (R339-R342). `was` is the
state in which the run found the axis: a cam engaged in this run moves from its engagement point (R341). -/
def coupleRun (i : LsuIn) (l : Lsu) (r : AxisRec) (was : AState) (x : AxisSt) : AxisSt × List LsuEv × Nat :=
  let pts (m : Nat) := match tabFind l.masters m with | some s => s.pts | none => []
  let x := match x.wait with
    | some ⟨q, m, some angle, op⟩ =>
      match passAngle angle (ptAt (pts m) 1) (ptAt (pts m) 0) with
      | some at_ => engageAt i.cfg r.engDist { x with wait := none } ⟨q, m, some angle, op⟩ at_ (ptAt (pts m) 1)
      | none => x
    | _ => x
  let m0 := ptAt (pts x.master) 1
  let m1 := ptAt (pts x.master) 0
  match x.state with
  | .notReady | .disengaged => ({ x with c := 0 }, [], 0)
  | .geared | .disengaging =>
    let c := gearCouple x.r0 x.r1 x.dist (m1 - x.mref)
    if x.state = .disengaging ∧ ((x.dist : Rat) ≤ ratAbs ((m1 : Rat) - x.mref)) then (x.holdAt (x.b + c), [], 0)
    else ({ x with c := c }, [], 0)
  | .cammed =>
    match camOf i.cfg x.cam with
    | none => (x, [], 0)
    | some t =>
      let p0 : Rat := if was = .cammed then (m0 : Rat) else x.mref
      let crossed := camPassed t x.mref p0 m1
      let (ev, n) := if camLen t ≤ ratAbs ((m1 - m0 : Int) : Rat) then
          ([lsuEv (.axis r.axis) 7 crossed (ptAt x.pts 0)], crossed) else ([], 0)
      let x := camEvents i x p0 m1 4
      match x.state, camOf i.cfg x.cam with
      | .cammed, some t => ({ x with c := camCouple t x.mref m1 }, ev, n)
      | _, _ => (x, ev, n)

/-- The monitors of an axis (R346). -/
def monitor (i : LsuIn) (r : AxisRec) (x : AxisSt) : AxisSt × List LsuEv :=
  if !(tabGet i.valid false r.station) then (x, [])
  else
    let act := memTurn i.inp.axIn (64 * r.axis) * 2 ^ 16
    let err := act - ptAt x.pts 3
    let fe := r.feLim != 0 && decide (r.feLim * 2 ^ 32 < err.natAbs)
    let dv := ptAt x.pts 0 - ptAt x.pts 1
    let fast := r.vmax != 0 && decide (r.vmax < dv.natAbs)
    let ds := memNat i.inp.axIn (64 * r.axis + 12) 4
    let fault := ds / 2 ^ 30 % 2 = 1
    let pos := ptAt x.pts 0
    ({ x with fe := fe, fast := fast, fault := fault },
     (if fe && !x.fe then [lsuEv (.axis r.axis) 1 (fdiv err (2 ^ 32)) pos] else [])
     ++ (if fast && !x.fast then [lsuEv (.axis r.axis) 2 (fdiv x.spVel (2 ^ 16)) pos] else [])
     ++ (if fault && !x.fault then [⟨.axis r.axis, 3, ds, pos⟩] else []))

/-- One follower in a run, in the order of R342. -/
def axisRun (i : LsuIn) (l : Lsu) (r : AxisRec) : Lsu :=
  let x := { tabGet l.axes AxisSt.init r.axis with first := false }
  let valid := tabGet i.valid false r.station
  let dropped := tabGet i.dropped true r.station
  let up := valid && (x.state = .notReady || (x.state = .disengaged && x.wasDropped && !dropped))
  let x := if up then takeUp i.inp r.axis x else x
  let x := { x with wasDropped := dropped }
  let was := x.state
  let (x, ev1) := aTake i l r x (readACmd i r.axis)
  let (x, ev2, acc, rej) := regRun i l x r.axis
  let (x, ev3, skips) := coupleRun i l r was x
  let x := { x with rampI := min (x.rampI + 1) x.rampR }
  let s := x.b + x.c + x.phi
  let vel := if up then 0 else satInt 64 (s - ptAt x.pts 0)
  let x := { x with pts := ptPush x.pts s, spVel := vel, spAcc := if up then 0 else satInt 64 (vel - x.spVel) }
  let (x, ev4) := monitor i r x
  let evs := (ev1 ++ ev2 ++ ev3 ++ ev4).map fun e => { e with pos := s }
  { l with axes := tabSet l.axes r.axis x, events := l.events ++ evs
           refused := l.refused + (evs.filter fun e => e.code = 6).length
           feEvents := l.feEvents + (evs.filter fun e => e.code = 1).length
           regAcc := l.regAcc + acc, regRej := l.regRej + rej, skips := l.skips + skips }

/-! ### Compare units (R353-R355) -/

/-- A crossing: the position and the level after it. -/
abbrev Crossing := Rat × Bool

/-- The number of positions `x0 + j × L` in (q0, q1], and the last two, newest first. -/
def crossFwd (x0 len : Rat) (q0 q1 : Int) (lvl : Bool) : Nat × List Crossing :=
  let j0 := ((q0 - x0) / len).floor
  let j1 := ((q1 - x0) / len).floor
  let n := (j1 - j0).toNat
  (n, if n = 0 then [] else if n = 1 then [(x0 + j1 * len, lvl)]
      else [(x0 + j1 * len, lvl), (x0 + (j1 - 1) * len, lvl)])

/-- The number of positions `x0 + j × L` in (q1, q0] on the way down, and the last two, newest first. -/
def crossBwd (x0 len : Rat) (q0 q1 : Int) (lvl : Bool) : Nat × List Crossing :=
  let j0 := ((q0 - x0) / len).floor
  let j1 := ((q1 - x0) / len).floor
  let n := (j0 - j1).toNat
  (n, if n = 0 then [] else if n = 1 then [(x0 + (j1 + 1) * len, lvl)]
      else [(x0 + (j1 + 1) * len, lvl), (x0 + (j1 + 2) * len, lvl)])

/-- Inserts a crossing among others, the one met last first. -/
def crossIns (fwd : Bool) (c : Crossing) : List Crossing → List Crossing
  | [] => [c]
  | d :: t => if (if fwd then d.1 ≤ c.1 else c.1 ≤ d.1) then c :: d :: t else d :: crossIns fwd c t

/-- The level of a band at a position (R353). -/
def bandLevel (onP offP len : Rat) (q : Int) : Bool :=
  let x := q - ((q : Rat) / len).floor * len
  if onP ≤ offP then decide (onP ≤ x) && decide (x < offP) else decide (onP ≤ x) || decide (x < offP)

/-- One compare unit in a run (R354, R355). An axis taken up in the run gives no path (R345). -/
def cmpRun (i : LsuIn) (l : Lsu) (r : CmpRec) : Lsu :=
  let c := tabGet l.cmps CmpSt.init r.unit
  let (pts, ready, up) :=
    if r.isMaster then
      match tabFind l.masters r.number with | some m => (m.pts, true, false) | none => ([], false, false)
    else
      match tabFind l.axes r.number with
      | some x => (x.pts, decide (x.state ≠ .notReady), x.first)
      | none => ([], false, false)
  let q0 := ptAt pts 1
  let q1 := ptAt pts 0
  let len : Rat := (r.lnum * turn : Int) / (r.lden : Int)
  let onP : Rat := (r.onPos : Int)
  let offP : Rat := (r.offPos : Int)
  let t1 : Int := ((i.tick + 1) * i.tickNs : Nat)
  if !ready then { l with cmps := tabSet l.cmps r.unit { c with ready := false } }
  else if !c.started || !c.ready || up then
    let lvl := bandLevel onP offP len q1
    { l with cmps := tabSet l.cmps r.unit ⟨true, true, lvl, false⟩
             edges := l.edges ++ [⟨r.unit, t1, lvl, true⟩] }
  else
    let fwd := decide (q0 < q1)
    let (n1, c1) := if fwd then crossFwd onP len q0 q1 true else crossBwd onP len q0 q1 false
    let (n2, c2) := if fwd then crossFwd offP len q0 q1 false else crossBwd offP len q0 q1 true
    let (n, cs) := if q0 = q1 ∨ (r.forward ∧ ¬ fwd) then (0, [])
      else (n1 + n2, ((c1 ++ c2).foldr (crossIns fwd) []).take 2)
    let mk (x : Crossing) : CmpEdge :=
      let t := t1 * 65536 + ((i.tickNs * 65536 : Int) * (x.1 - q0) / (q1 - q0 : Int)).floor
      ⟨r.unit, fdiv (t - (if x.2 then r.leadOn else r.leadOff) * 65536) 65536, x.2, false⟩
    let mrg := decide (2 < n)
    { l with cmps := tabSet l.cmps r.unit
               { c with merged := mrg, level := match cs with | x :: _ => x.2 | [] => c.level }
             edges := l.edges ++ (cs.map mk).reverse
             merged := l.merged + (n - 2)
             events := l.events ++
               (if mrg && !c.merged then [⟨.unit r.unit, 11, n * 256 + r.unit, q1⟩] else []) }

/-! ### One run (R342) -/

/-- The LSU run of tick n: external masters, virtual masters, followers, compare units. -/
def lsuRun (i : LsuIn) (l : Lsu) : Lsu :=
  let l := { l with runs := true, tick := i.tick, done := true, events := [], edges := [] }
  let l := (List.range 16).foldl (fun l k => masterRun i l (16 + k)) l
  let l := (List.range 16).foldl (fun l k => masterRun i l k) l
  let l := (axisTab i.cfg).foldl (fun l p => axisRun i l p.2) l
  let cmps := i.cfg.cmps.foldl (fun t r => tabSet t r.unit r) ([] : Tab CmpRec)
  let l := cmps.foldl (fun l p => cmpRun i l p.2) l
  { l with fresh := false }

/-! ### Words of the results (R335, R336, R351, R352) -/

/-- The published position: the shaft position floored to 2^-32 turn (R324). -/
def published (p : Int) : Int := fdiv p (2 ^ 16)

/-- The code of a master state (R336). -/
def MState.code : MState → Nat
  | .unused => 0 | .standstill => 1 | .ramping => 2 | .steady => 3 | .holdover => 4 | .lost => 5

/-- The code of an axis state (R352). -/
def AState.code : AState → Nat
  | .notReady => 0 | .disengaged => 1 | .geared => 2 | .cammed => 3 | .disengaging => 4

/-- One or zero. -/
def bit (b : Bool) : Nat := if b then 1 else 0

/-- MSTAT of a master (R336). -/
def mstat (halt : Bool) (s : MasterSt) : Nat :=
  s.state.code * 2 ^ 28 + bit s.first * 2 ^ 27 + bit halt * 2 ^ 26 + s.ack * 2 ^ 16 + s.result * 2 ^ 8

/-- The 32 bytes of a master table entry (R335). -/
def masterBytes (halt : Bool) (s : MasterSt) : List Byte :=
  turnBytes (published s.p) ++ leBytes (mstat halt s) 4 ++ leBytes (BitVec.ofInt 64 s.v).toNat 8
    ++ leBytes (BitVec.ofInt 64 s.a).toNat 8

/-- The master table (R335). -/
def masterTable (l : Lsu) : Mem 8 :=
  l.masters.foldl (fun m p => memWrite m (32 * p.1) (masterBytes l.haltRamp p.2)) []

/-- A ramp of a ratio is running (R352). -/
def AxisSt.ramping (l : Lsu) (x : AxisSt) : Bool :=
  match x.state with
  | .geared | .disengaging =>
    match tabFind l.masters x.master with
    | some m => decide (0 < x.dist) && decide (ratAbs ((ptAt m.pts 0 : Rat) - x.mref) < x.dist)
    | none => false
  | _ => false

/-- SP_STAT of an axis (R352). -/
def spStat (l : Lsu) (x : AxisSt) : Nat :=
  x.state.code * 2 ^ 28 + bit (x.ramping l) * 2 ^ 27 + bit (decide (x.rampI < x.rampR)) * 2 ^ 26
    + bit x.first * 2 ^ 25 + bit x.wait.isSome * 2 ^ 24 + bit x.regOn * 2 ^ 23 + bit x.fast * 2 ^ 22
    + bit x.fe * 2 ^ 21 + x.master * 2 ^ 16 + x.ack * 2 ^ 8 + x.result

/-- The 32 bytes that the LSU writes into an AXOUT record (R351). -/
def axisBytes (l : Lsu) (x : AxisSt) : List Byte :=
  turnBytes (published (ptAt x.pts 0)) ++ leBytes (spStat l x) 4
    ++ leBytes (BitVec.ofInt 64 x.spVel).toNat 8 ++ leBytes (BitVec.ofInt 64 x.spAcc).toNat 8

/-- The setpoints of every configured axis by axis number (R93). -/
def lsuOut (l : Lsu) : List (Nat × List Byte) := l.axes.map fun p => (p.1, axisBytes l p.2)

/-- The numbers of a master record, as words of the LSU state area (log entry 13). -/
def MasterSt.nums (s : MasterSt) : List Int :=
  [(s.state.code : Int), s.p, s.v, s.a, s.g, s.acc, s.dec, s.ack, s.result, bit s.first, bit s.seen, s.total, s.lastSrc, s.hofs,
   s.hold] ++ s.pts ++ s.hist

/-- The numbers of a waiting command. -/
def WaitCmd.nums (w : WaitCmd) : List Int :=
  let angle : Int := match w.angle with | some a => a | none => -1
  let op : List Int := match w.op with | .gear n d => [1, n, d] | .cam id => [2, id, 0] | .disengage => [3, 0, 0]
  [(w.cseq : Int), w.master, angle] ++ op

/-- The numbers of an axis record (log entry 13). -/
def AxisSt.nums (x : AxisSt) : List Int :=
  [(x.state.code : Int), x.b, x.c, x.master, x.r0.num, x.r0.den, x.r1.num, x.r1.den, x.dist, x.mref.num, x.mref.den, x.cam, x.phi0,
   x.dphi, x.rampR, x.rampI, x.ack, x.result, x.spVel, x.spAcc, bit x.first, bit x.fast, bit x.fe, bit x.fault, bit x.regOn,
   bit x.accepted, bit x.wasDropped] ++ x.pts ++ (match x.wait with | some w => w.nums | none => [])

/-- The words of the LSU state area: masters, axes and compare units in ascending number (log entry 13). -/
def lsuWords (l : Lsu) : List W64 :=
  l.masters.flatMap (fun p => p.2.nums.map (BitVec.ofInt 64))
  ++ l.axes.flatMap (fun p => p.2.nums.map (BitVec.ofInt 64))
  ++ l.cmps.map fun p =>
    BitVec.ofNat 64 (bit p.2.level + 2 * bit p.2.started + 4 * bit p.2.ready + 8 * bit p.2.merged)

/-- An LSU at a restart of the program with an axis section (R330, R332, R345). -/
def lsuInit (c : AxisCfg) : Lsu :=
  { Lsu.zero with
    masters := (tabOf 0 c.masters).filterMap fun p =>
      if p.2.kind = .unused then none else some (p.1, MasterSt.init p.2.kind)
    axes := tabMap (fun a _ => { AxisSt.init with regOn := match regOf c a with | some r => r.onAtLoad | none => false })
      (axisTab c) }

end Sys2Proof.Machine
end

