-- ==== Sys2Proof/Machine/Reflex.lean ====
section
/-! DEFINITION. The reflex plane (R364-R381). Its clock of 1 GHz is run forward to the moment of a command
before the command changes what the cells read. -/
namespace Sys2Proof.Machine

/-- What the cells read besides each other: input pins, arm bits, compare levels. -/
structure CellIn where
  pins : BitVec 16
  arm : W64
  cmp : BitVec 32
  deriving DecidableEq, Repr

/-- The level a selector chooses (R367); `q` gives the outputs of the cells. -/
def selLevel (x : CellIn) (q : Nat → Bool) (sel : Nat) : Bool :=
  if sel < 0x10 then x.pins.getLsbD sel
  else if 0x40 ≤ sel ∧ sel < 0x80 then q (sel - 0x40)
  else if 0x80 ≤ sel ∧ sel < 0xC0 then x.arm.getLsbD (sel - 0x80)
  else if 0xC0 ≤ sel ∧ sel < 0xE0 then x.cmp.getLsbD (sel - 0xC0)
  else sel = 0xFF

/-- The lookup index of a cell (R366). -/
def cellIndex (x : CellIn) (q : Nat → Bool) : List Nat → Nat
  | [] => 0
  | s :: rest => (if selLevel x q s then 1 else 0) + 2 * cellIndex x q rest

/-- The output of a cell of one copy: a latch, or the lookup of a COMB cell; chains are at most two COMB
cells long (R368). -/
def cellOut (t : ReflexCfg) (x : CellIn) (latch : W64) : Nat → Nat → Bool
  | 0, c => latch.getLsbD c
  | n + 1, c =>
    match t.cells[c]? with
    | some k => if k.mode = 0 then k.lut.getLsbD (cellIndex x (cellOut t x latch n) k.sel) else latch.getLsbD c
    | none => false

/-- A word of 64 levels. -/
def levels (f : Nat → Bool) : Nat → Nat
  | 0 => 0
  | n + 1 => levels f n + (if f n then 2 ^ n else 0)

/-- The outputs of the 64 cells of one copy. -/
def cellsOf (t : ReflexCfg) (x : CellIn) (latch : W64) : W64 :=
  BitVec.ofNat 64 (levels (cellOut t x latch 3) 64)

/-- The latch of a cell after a reflex clock edge (R366). -/
def latchNext (t : ReflexCfg) (x : CellIn) (latch : W64) (c : Nat) : Bool :=
  match t.cells[c]? with
  | some k =>
    let v := k.lut.getLsbD (cellIndex x (cellOut t x latch 3) k.sel)
    if k.mode = 1 then v
    else if k.mode = 2 then x.arm.getLsbD c && (latch.getLsbD c || v)
    else false
  | none => false

/-- One reflex clock edge of one copy. -/
def clockEdge (t : ReflexCfg) (x : CellIn) (latch : W64) : W64 := BitVec.ofNat 64 (levels (latchNext t x latch) 64)

/-- The latches after `n` edges with unchanged inputs; it stops where they no longer change. -/
def clockRun (t : ReflexCfg) (x : CellIn) : Nat → W64 → W64
  | 0, l => l
  | n + 1, l =>
    let l' := clockEdge t x l
    if l' = l then l else clockRun t x n l'

/-- The vote of three copies (R370). -/
def vote3 (a b c : W64) : W64 := (a &&& b) ||| (a &&& c) ||| (b &&& c)

/-- What the cells read now. -/
def Reflex.inputs (r : Reflex) : CellIn := ⟨r.pinsIn, r.arm, r.cmp⟩

/-- The voted outputs of the cells (R370). -/
def Reflex.cells (r : Reflex) : W64 :=
  match r.table with
  | some t => vote3 (cellsOf t r.inputs r.q0) (cellsOf t r.inputs r.q1) (cellsOf t r.inputs r.q2)
  | none => 0

/-- The level an OUTMAP entry gives from the voted cells (R368, R370). -/
def outLevel (q : W64) (o : Nat × Bool) : Bool := if o.1 = 0xFF then false else q.getLsbD o.1 != o.2

/-- The voted output levels before the gate (R373). -/
def Reflex.pinsOut (r : Reflex) : BitVec 16 :=
  match r.table with
  | some t => BitVec.ofNat 16 (levels (fun o => match t.outmap[o]? with
      | some p => outLevel r.cells p
      | none => false) 16)
  | none => 0

/-- Runs the reflex clock to a moment: at each edge a latch that differs takes the voted value (R366, R371). -/
def Reflex.sync (r : Reflex) (now : Nat) : Reflex :=
  match r.table with
  | some t =>
    if now ≤ r.at_ then r
    else
      let q := clockRun t r.inputs (now - r.at_) (vote3 r.q0 r.q1 r.q2)
      { r with q0 := q, q1 := q, q2 := q, at_ := now }
  | none => { r with at_ := now }

/-- The plane with its clock run to the present moment. -/
def Mod.reflexNow (m : Mod) : Mod := { m with reflex := m.reflex.sync m.now }

/-- Loads a table at a moment with every latch, arm bit and level 0 (R379). -/
def Reflex.load (r : Reflex) (t : Option ReflexCfg) (now : Nat) : Reflex :=
  { Reflex.zero with table := t, at_ := now, pinsIn := r.pinsIn }

/-- An online change: a latched cell whose entry is unchanged keeps its latch (R379). -/
def Reflex.change (r : Reflex) (t : Option ReflexCfg) : Reflex :=
  let same (c : Nat) : Bool :=
    match r.table, t with
    | some a, some b => a.cells[c]? == b.cells[c]?
    | _, _ => false
  let keep := BitVec.ofNat 64 (levels same 64)
  { r with table := t, q0 := r.q0 &&& keep, q1 := r.q1 &&& keep, q2 := r.q2 &&& keep }

/-- Sets a compare level (R376). -/
def Reflex.setCmp (r : Reflex) (u : Nat) (v : Bool) : Reflex :=
  { r with cmp := if v then r.cmp ||| (1#32 <<< u) else r.cmp &&& ~~~(1#32 <<< u) }

/-- REFLEX_PIN_CHANGE (R366, R369): an input pin changes its level. -/
def execReflexPinChange (t : Nat) (pin : Nat) (level : Bool) (s : State) : Host.Outcome State Fault Refusal :=
  s.does fun m =>
    let m := (m.start t).reflexNow
    let b : BitVec 16 := 1#16 <<< pin
    { m with reflex := { m.reflex with pinsIn := if level then m.reflex.pinsIn ||| b else m.reflex.pinsIn &&& ~~~b } }

/-- EDGE_LAUNCH (R376): the oldest pending edge of the unit, once its launch time has come, sets the level. -/
def execEdgeLaunch (t : Nat) (unit : Nat) (s : State) : Host.Outcome State Fault Refusal :=
  s.does fun m =>
    let m := (m.start t).reflexNow
    match tabGet m.reflex.edges [] unit with
    | [] => m
    | x :: rest =>
      if x.at_ ≤ (m.ltNs : Int) then
        let r := m.reflex.setCmp unit x.level
        { m with reflex := { r with edges := tabSet r.edges unit rest
                                    cmpEdges := if x.silent then r.cmpEdges else inc32 r.cmpEdges } }
      else m

/-- A capture channel accepts an edge that held for its filter (R374). -/
def capAccepts (c : Nat × Nat × Nat) (rising : Bool) (held : Nat) : Bool :=
  (if rising then c.2.1 == 1 || c.2.1 == 3 else c.2.1 == 2 || c.2.1 == 3) && decide (c.2.2 ≤ held)

/-- EDGE_CAPTURE (R374): an accepted edge is stamped and advances the 15-bit sequence count. -/
def execEdgeCapture (t : Nat) (ch : Nat) (edgeLt : Nat) (rising : Bool) (held : Nat) (s : State) :
    Host.Outcome State Fault Refusal :=
  s.does fun m =>
    let m := m.start t
    match m.reflex.table.bind fun tb => tb.capcfg[ch]? with
    | some c =>
      if capAccepts c rising held then
        let r := m.reflex
        let n := (tabGet r.capSeq 0 ch + 1) % 2 ^ 15
        let st : Stamp := ⟨edgeLt, n⟩
        { m with reflex := { r with
          capSeq := tabSet r.capSeq ch n
          capLast := tabSet r.capLast ch st
          capNew := tabSet r.capNew ch (tabGet r.capNew [] ch ++ [st])
          capStamps := inc32 r.capStamps } }
      else m
    | none => m

/-- The arm bits after the ARM of a class: the cells it owns take their bits (R372). -/
def armFor (t : ReflexCfg) (arm : W64) (p : Nat × W64) : W64 :=
  let own := BitVec.ofNat 64 (levels (fun c => match t.cells[c]? with
    | some k => k.owner = p.1
    | none => false) 64)
  (arm &&& ~~~own) ||| (p.2 &&& own)

/-- ARM_APPLY (R372): the voted arm bits reach the cells, in checkpoint order. -/
def execArmApply (t : Nat) (s : State) : Host.Outcome State Fault Refusal :=
  s.does fun m =>
    let m := (m.start t).reflexNow
    match m.reflex.table with
    | some tb => { m with reflex := { m.reflex with arm := m.reflex.armPend.foldl (armFor tb) m.reflex.arm
                                                    armPend := [] } }
    | none => m

/-- REFLEX_CONFIG_REWRITE (R371): every copy takes the master configuration, so none differs any longer. -/
def execReflexConfigRewrite (t : Nat) (s : State) : Host.Outcome State Fault Refusal :=
  s.does fun m =>
    let m := (m.start t).reflexNow
    { m with reflex := { m.reflex with copyDiff := false } }

/-- REFLEX_MISMATCH (R371): a copy has differed from the vote at a pin for 8 ns; no output stops. -/
def execReflexMismatch (t : Nat) (pin : Nat) (copy : LaneId) (s : State) : Host.Outcome State Fault Refusal :=
  s.does fun m =>
    let m := m.start t
    match m.reflex.table.bind fun tb => tb.outmap[pin]?, copy with
    | some _, _ => { m with reflex := { m.reflex with copyDiff := true, mismatch := inc32 m.reflex.mismatch } }
    | none, _ => m

end Sys2Proof.Machine
end

