-- ==== Sys2Proof/Machine/Items.lean ====
section
/-! DEFINITION. Stations as the module keeps them, TSP frames, launch queues, and acyclic items with their
outcomes (R69-R73, R268-R270, R279-R289, R297, R306-R310). -/
namespace Sys2Proof

/-- The record of a station in the running image. -/
def Image.station (i : Image) (n : Nat) : Option StationRec := i.stations.find? fun r => r.station = n

/-- The station ranges of an image in one direction, by ascending slot and ORDER (R207). -/
def Image.ranges (i : Image) (n : Nat) (out : Bool) : List Range :=
  let mine := i.slots.filter fun r => r.station = n && r.output == out
  let sorted := mine.foldl (fun (t : Machine.Tab Range) r => Machine.tabSet t (r.slot * 65536 + r.order) r.range) []
  sorted.map Prod.snd

/-- The bytes 0x0E to 0x1F + LEN of a frame with 0x1E and 0x1F as zero (R282). -/
def Frame.checked (f : Frame) : List Byte :=
  Machine.leBytes f.ver 1 ++ Machine.leBytes f.type 1 ++ Machine.leBytes f.epoch.toNat 2 ++ Machine.leBytes f.addr.toNat 2 ++ Machine.leBytes f.seq.toNat 4
    ++ Machine.leBytes f.tick.toNat 4 ++ Machine.leBytes f.len 2 ++ [0, 0] ++ f.payload.take f.len

/-- The E2E check of a frame (R282). -/
def Frame.e2eOf (f : Frame) : W32 := Machine.crc32c f.checked

/-- Frame bytes without the FCS (R281). -/
def Frame.bytes (f : Frame) : Nat := max 60 (0x24 + f.len)

end Sys2Proof

namespace Sys2Proof.Machine

/-! ### Stations and ports -/

/-- The record of a station in the running image. -/
def Mod.stnRec (m : Mod) (n : Nat) : Option StationRec := m.prog.image.bind fun i => i.station n

/-- A station. -/
def Mod.stn (m : Mod) (n : Nat) : Stn := tabGet m.pantry.stns Stn.zero n

/-- Changes a station. -/
def Mod.setStn (m : Mod) (n : Nat) (f : Stn → Stn) : Mod :=
  { m with pantry := { m.pantry with stns := tabMod m.pantry.stns Stn.zero n f } }

/-- A line port. -/
def Mod.port (m : Mod) (p : Nat) : Port := tabGet m.pantry.ports Port.zero p

/-- Changes a line port. -/
def Mod.setPort (m : Mod) (p : Nat) (f : Port → Port) : Mod :=
  { m with pantry := { m.pantry with ports := tabMod m.pantry.ports Port.zero p f } }

/-- The role of a port in the running image (R19). -/
def Mod.portRole (m : Mod) (p : Nat) : PortRole :=
  match m.prog.image with
  | some i => i.portRole.getD p .unused
  | none => .unused

/-- The bytes of a list of ranges. -/
def Areas.gather (a : Areas) (rs : List Range) : List Byte :=
  rs.flatMap fun r => memRead (a.get r.area) r.start r.len

/-- Writes bytes over a list of ranges in order. -/
def Areas.scatter (a : Areas) : List Range → List Byte → Areas
  | [], _ => a
  | r :: rs, bs =>
    Areas.scatter (a.put r.area (memWrite (a.get r.area) r.start (padTo r.len bs))) rs (bs.drop r.len)

/-- The first watched point whose byte a station carries in IMG_IN or AXIN, with its owner (R200, R207). -/
def Mod.watched (m : Mod) (stn : Nat) : Option (W32 × Nat) :=
  m.prog.image.bind fun i => i.watch.find? fun w =>
    (i.ranges stn false).any fun r => rangeHolds r (pointArea w.1) (pointOfs w.1) 1

/-- The class code of an instance of the image, none for an unknown one. -/
def Mod.instCls (m : Mod) (id : Nat) : Nat :=
  match m.prog.image.bind fun i => i.insts.find? fun e => (e.words.getD 0 0).toNat % 2 ^ 32 = id with
  | some e => (e.words.getD 1 0).toNat / 2 ^ 37 % 8
  | none => 7

/-- The slot of a station that carries a point. -/
def Mod.slotOf (m : Mod) (stn : Nat) (p : W32) : Nat :=
  match m.prog.image.bind fun i => i.slots.find? fun r =>
      r.station = stn && rangeHolds r.range (pointArea p) (pointOfs p) 1 with
  | some r => r.slot
  | none => 0

/-- The place of an E_STATION record (R200): the station, or a watched point that it carries. -/
def Mod.placeStation (m : Mod) (stn : Nat) : W32 × W32 × W32 × W32 :=
  match m.watched stn with
  | some (p, id) =>
    (placeD m.domain 5 (stn / 512) (stn % 512) (m.slotOf stn p), placeM 5 m.side 3 (m.instCls id), p,
      BitVec.ofNat 32 id)
  | none => m.placeStn stn

/-- Raises E_STATION for a station (R200). -/
def Mod.raiseStn (m : Mod) (stn code reason : Nat) : Mod :=
  let s := m.stn stn
  m.raise .station code (m.placeStation stn)
    (leBytes s.missRun 4 ++ leBytes (s.lastSeq.getD 0) 4 ++ leBytes s.ver 2 ++ leBytes reason 2)

/-- Tells the shadow of a change of a station's TSP state, version or reason (R272). -/
def Mod.stnState (m : Mod) (stn : Nat) : Mod :=
  let s := m.stn stn
  let code := match s.state with
    | .absent => 0 | .announced => 1 | .starting => 2 | .run => 3 | .revalidating => 4 | .refused => 5
  if m.forwards then m.hallSend 2 fun h => .mStnstate h stn code s.ver s.reason else m

/-! ### Outcomes of requests -/

/-- The outcome of a request of block code (R170). -/
def Mod.reqOutcome (m : Mod) (id : Nat) (o : Outc) : Mod :=
  { m with prog := { m.prog with
    reqTab := tabSet m.prog.reqTab id o
    reqEnd := if o.final then tabSet m.prog.reqEnd id m.now else tabDel m.prog.reqEnd id } }

/-- Mirrors a step of an item or request to the shadow while the pair is redundant (R71, R472). -/
def Mod.mirror (m : Mod) (op : Nat) (eng : Bool) (stn : Nat) (i : Item) (o : Outc) (body : List Byte) : Mod :=
  if m.forwards then
    m.hallSend 2 fun h => .mMirror h op i.idem eng stn i.reqId i.client o (i.firstSend.getD 0) body
  else m

/-- The body of the ACY_REQ of an item (R309). -/
def Item.body (i : Item) : List Byte :=
  leBytes i.reqId 4 ++ leBytes i.kind 1 ++ leBytes ((if i.idem then 1 else 0) + (if i.reissued then 2 else 0)) 1
    ++ leBytes i.data.length 2 ++ leBytes i.index 2 ++ leBytes i.sub 1 ++ [0] ++ i.data

/-- Ends an item with its final outcome (R72, R310): the station's counters, the requester, the mirror. -/
def Mod.endItem (m : Mod) (stn : Nat) (i : Item) (o : Outc) (data : List Byte) : Mod :=
  let good := o = .done || o = .delayed
  let m := m.setStn stn fun s =>
    { s with acyDone := if good then inc32 s.acyDone else s.acyDone
             acyFailed := if good then s.acyFailed else inc32 s.acyFailed }
  let m := if o = .delayed then { m with test := { m.test with reqDelayed := inc32 m.test.reqDelayed } }
    else if o = .busyTest then { m with test := { m.test with reqBusy := inc32 m.test.reqBusy } } else m
  let m := match i.cls with
    | some _ => m.reqOutcome i.reqId o
    | none => m.finish (i.client, i.reqId) o 0 data
  m.mirror 4 false stn i o []

/-- Ends the item in flight. -/
def Mod.endFlight (m : Mod) (stn : Nat) (o : Outc) (data : List Byte) : Mod :=
  match (m.stn stn).flight with
  | some i => (m.setStn stn fun s => { s with flight := none }).endItem stn i o data
  | none => m

/-- Ends every item of a station, the one in flight first (R310, R312). -/
def Mod.endAll (m : Mod) (stn : Nat) (o : Outc) : Mod :=
  let m := m.endFlight stn o []
  let items := (m.stn stn).items
  items.foldl (fun m i => m.endItem stn i o []) (m.setStn stn fun s => { s with items := [] })

/-- The items that the module holds. -/
def Mod.itemCount (m : Mod) : Nat :=
  m.pantry.stns.foldl (fun n p => n + p.2.items.length + (if p.2.flight.isSome then 1 else 0)) 0

/-- The engineering requests that have not ended (R70). -/
def Mod.openReqs (m : Mod) : Nat := (m.savis.reqs.filter fun r => r.outcome.isNone).length

/-- The acyclic data that a TSP version carries (R297). -/
def verData (v : Nat) : Nat := if v = 1 then 256 else 1400

/-- Whether the queues take an item of a station now (R69-R71, R309): PENDING, or the refusal. -/
def Mod.itemVerdict (m : Mod) (stn : Nat) (i : Item) : Outc :=
  let s := m.stn stn
  if verData s.ver < i.data.length then .rejectedAccess
  else if 8 ≤ s.items.length || 4096 ≤ m.itemCount || (m.redundant && 1024 ≤ m.itemCount + m.openReqs) then .refusedFull
  else .pending

/-- PENDING of an item is told: at once, or when the shadow has taken its mirror (R71). -/
def Mod.itemPending (m : Mod) (i : Item) (qpos : Nat) : Mod :=
  match i.cls with
  | some _ => m.reqOutcome i.reqId .pending
  | none => m.tellPending (i.client, i.reqId) qpos

/-- Accepts an item that the queues take, at the end of its station's queue (R71). -/
def Mod.putItem (m : Mod) (stn : Nat) (i : Item) : Mod :=
  let pos := (m.stn stn).items.length + 1
  if m.redundant then
    let m := m.setStn stn fun s => { s with items := s.items ++ [i] }
    m.mirror 1 false stn i .issued i.body
  else
    let m := m.setStn stn fun s => { s with items := s.items ++ [{ i with pended := true }] }
    m.itemPending i pos

/-- The acyclic item of a request block (R308): its station and itself. -/
def reqItem (id : Nat) (words : List W64) : Nat × Item :=
  let w (k : Nat) : Nat := (words.getD k 0).toNat
  let addr := w 1 % 65536
  let ms := w 1 / 2 ^ 32 % 65536
  (addr / 2 ^ 14 * 512 + addr % 512,
   { reqId := id
     cls := some (id / 2 ^ 29)
     kind := w 0 % 65536
     idem := (w 1).testBit 16
     timeoutMs := if ms = 0 then 100 else ms
     index := w 2 % 65536
     sub := w 2 / 65536 % 256
     data := ((words.drop 3).flatMap fun x => leBytes x.toNat 8).take (w 2 / 2 ^ 32 % 65536) })

/-- A voted request of block code reaches the station queues (R69, R71, R99). -/
def Mod.takeRequest (m : Mod) (id : Nat) (words : List W64) : Mod :=
  let (stn, i) := reqItem id words
  if m.pair.role = .shadow then
    { (m.reqOutcome id .issued) with pantry := { m.pantry with held := m.pantry.held ++ [(stn, i)] } }
  else
    match m.itemVerdict stn i with
    | .pending => (m.reqOutcome id .issued).putItem stn i
    | o => m.reqOutcome id o

/-! ### Frames -/

/-- The group address of a segment or of the peer ports (R280). -/
def groupAddr (domain port : Nat) (peer : Bool) : BitVec 48 :=
  BitVec.ofNat 48 (if peer then 0x03000054FF10 else 0x030000540000 + domain * 256 + port)

/-- ADDR of a station (R281). -/
def stnAddr (stn : Nat) : BitVec 16 := BitVec.ofNat 16 (stn / 512 * 2 ^ 14 + stn % 512)

/-- The station that an ADDR with MULTI = 0 names. -/
def addrStn (a : BitVec 16) : Nat := a.toNat / 2 ^ 14 * 512 + a.toNat % 512

/-- The EtherType of the domain's TSP frames (R279). -/
def Mod.etype (m : Mod) : Nat :=
  match m.prog.image with
  | some i => if i.stations.isEmpty && i.etype = 0 then 0x88B5 else i.etype
  | none => 0x88B5

/-- A frame of a segment with the next SEQ of its counter (R285). -/
def Mod.tspFrame (m : Mod) (port ver type addr tick : Nat) (payload : List Byte) : Frame × Mod :=
  let n := tabGet m.pantry.segSeq 0 port
  let f : Frame := ⟨true, false, groupAddr m.domain port false, Config.portMac port, m.etype, ver, type, m.pair.epoch,
    BitVec.ofNat 16 addr, BitVec.ofNat 32 n, BitVec.ofNat 32 tick, payload.length, 0, payload, 0⟩
  ({ f with e2e := f.e2eOf },
   { m with pantry := { m.pantry with segSeq := tabSet m.pantry.segSeq port ((n + 1) % 2 ^ 32) } })

/-- Wire time of a frame in tenths of a ns (R289). -/
def wireTime (fast : Bool) (len : Nat) : Nat := (max len 60 + 24) * (if fast then 8 else 80)

/-- The first free entry of a queue in a range of `n` entries. -/
def freeEntry (q : Tab TxEntry) (from_ : Nat) : Nat → Option Nat
  | 0 => none
  | n + 1 =>
    match tabFind q from_ with
    | none => some from_
    | some e => if e.state = 1 ∨ e.state = 0 then freeEntry q (from_ + 1) n else some from_

/-- The port carries its frames of a station over the partner: path RELAY (R305). -/
def Stn.relayed (s : Stn) : Bool := s.path = .relay

/-- Puts an acyclic frame into the launch queue of a port, or hands it to the partner; none without a free
entry (R70, R306). -/
def Mod.putFrame (m : Mod) (port stn item : Nat) (relay : Bool) (f : Frame) : Option Mod :=
  let e : TxEntry := ⟨0, f.bytes, 2, 1, stn, item, m.sched.tick, 0, relay, [stn], f⟩
  if relay then
    match freeEntry (m.port port).relayQ 880 144 with
    | some k =>
      some ((m.setPort port fun p => { p with relayQ := tabSet p.relayQ k e, relayed := inc32 p.relayed }).hallSend 1
        fun h => .mRelayDn h port k e)
    | none => none
  else
    match freeEntry (m.port port).txq 768 256 with
    | some k => some (m.setPort port fun p => { p with txq := tabSet p.txq k e })
    | none => none

/-- Sends the ACY_REQ of the item in flight (R309, R310). Without a free entry the item waits. -/
def Mod.sendItem (m : Mod) (stn : Nat) : Mod :=
  let s := m.stn stn
  match s.flight with
  | none => m
  | some i =>
    let (f, m') := m.tspFrame (stn / 512) s.ver 3 (stnAddr stn).toNat m.sched.tick i.body
    match m'.putFrame (stn / 512) stn i.reqId s.relayed f with
    | none => m
    | some m => m.setStn stn fun s => { s with flight := some { i with waiting := true } }

/-- The moment from which a request waits, in ns of line time, and its timeout (R310). -/
def Item.expired (i : Item) (lt : Nat) : Bool :=
  match i.firstSend with
  | some t => decide (t + i.timeoutMs * 1000000 ≤ lt)
  | none => false

/-- The reply body of an item that ended well (R648): the data of a PREAD or DIAG. -/
def Item.result (i : Item) (data : List Byte) : List Byte :=
  let d := if i.kind = 1 || i.kind = 4 then data else []
  leBytes d.length 2 ++ [0, 0] ++ d

/-- Takes the reply of a station to the item in flight (R310). -/
def Mod.takeReply (m : Mod) (stn : Nat) (i : Item) (status waitMs : Nat) (data : List Byte) : Mod :=
  let m := m.mirror 3 false stn i .pending
    (leBytes i.reqId 4 ++ leBytes status 1 ++ [0] ++ leBytes data.length 2 ++ leBytes waitMs 2 ++ [0, 0] ++ data)
  match status with
  | 0 => m.endFlight stn (if i.delayed then .delayed else .done) (i.result data)
  | 2 => m.endFlight stn .rejectedAccess []
  | 3 =>
    match i.firstSend with
    | some t =>
      if t + i.timeoutMs * 1000000 < m.ltNs + waitMs * 1000000 then m.endFlight stn .busyTest []
      else m.setStn stn fun s =>
        { s with flight := some { i with testUntil := some (m.ltNs + waitMs * 1000000), delayed := true } }
    | none => m
  | _ => m.endFlight stn .failedStation []

end Sys2Proof.Machine
end

