-- ==== Sys2Proof/Machine/Roles.lean ====
section
/-! DEFINITION. Roles, readiness, the BOLT lines as the firmware drives them, module failure, lanes leaving the
vote (R40-R42, R101-R116, R449-R463, R484, R489). -/
namespace Sys2Proof.Machine

/-! ### Reports between the modules -/

/-- NEWEL.FAIL_CAUSE (R130). -/
def Newel.failWord (n : Newel) : Nat :=
  let code := match n.failCode with
    | .none => 0 | .noMajority => 1 | .twoLaneDisagree => 2 | .comparatorSplit => 3 | .samplerSplit => 4
    | .katFail => 5 | .lanesBelowTwo => 6
  code * 2 ^ 24 + n.failCls * 2 ^ 21

/-- Sends a ROLE message (R500). -/
def Mod.sendRole (m : Mod) : Mod :=
  m.hallSend 0 fun h =>
    .mRole h m.pair.role m.pair.ready m.bolt.armed m.prog.ownKey (BitVec.ofNat 32 m.newel.failWord) m.pair.epoch

/-- Raises E_PAIR (R489, R200): own role, partner's role, epoch, partner's failure cause, ticks without release. -/
def Mod.raisePair (m : Mod) (code gap : Nat) : Mod :=
  let partner := match m.pair.partner with | some r => r.code | none => 7
  m.raise .pair code m.placeMod
    (leBytes m.pair.role.code 1 ++ leBytes partner 1 ++ leBytes m.pair.epoch.toNat 2
      ++ leBytes m.pair.partnerFail.toNat 4 ++ leBytes gap 4)

/-! ### Readiness (R460, R461, R451) -/

/-- Lanes that are SERVING. -/
def Mod.servingCount (m : Mod) : Nat := (allLanes.filter fun x => (m.lane x).mode = .serving).length

/-- The conditions of R460 but for the 1 T hold of R461. -/
def Mod.readyNow (m : Mod) : Bool :=
  m.pair.role = .shadow && decide (2 ≤ m.servingCount) && m.pair.digestsOk && !m.test.halted && !m.test.halting
    && m.time.lt = .tracking && !m.serviceBusy

/-- READY and ARMED after a command (R451, R460): a shadow in its hold keeps READY; ARMED needs the LIVE permit. The line
time from which the module is SHADOW and READY, OWNER or ALONE counts for R573. -/
def Mod.updateReady (m : Mod) : Mod :=
  let r := m.readyNow || (m.pair.role = .shadow && m.pair.holdSince.isSome && m.pair.ready)
  let held := m.controls || (m.pair.role = .shadow && r)
  let since : Option Nat := if held then some (m.upd.trialFrom.getD m.ltNs) else none
  { m with pair := { m.pair with ready := r, readyBefore := if m.serviceBusy then m.pair.readyBefore else r }
           bolt := { m.bolt with armed := r && m.bolt.permit }
           upd := { m.upd with trialFrom := since } }

/-- What a ROLE message carries has changed. -/
def Mod.roleDiffers (a b : Mod) : Bool :=
  a.pair.role ≠ b.pair.role || a.pair.ready != b.pair.ready || a.bolt.armed != b.bolt.armed
    || a.prog.ownKey ≠ b.prog.ownKey || a.newel.failWord ≠ b.newel.failWord || a.pair.epoch ≠ b.pair.epoch

/-! ### Role changes (R459) -/

/-- Takes a role with its cause code (R459, R493). -/
def Mod.toRole (m : Mod) (r : Role) (cause : Nat) : Mod :=
  { m with pair := { m.pair with
      lastFrom := m.pair.role.code
      lastTo := r.code
      lastCause := cause
      changeTick := m.sched.tick % 2 ^ 32
      role := r
      ready := false
      holdSince := none } }

/-- No debug halt is in force or awaited; a halt request that has not completed ends without it (R120, R123). -/
def Mod.dropHalt (m : Mod) : Mod :=
  let key := m.test.haltKey
  ({ m with test := { m.test with halted := false, halting := false, targets := [], haltKey := none } }).finish? key .failedTimeout 0 []

/-- Stops every execution and the tick table. -/
def Mod.stopProgram (m : Mod) : Mod :=
  let m := m.allLane fun l =>
    { l with ctxs := [], gates := [], dr := [], mode := if l.mode = LaneMode.halted then LaneMode.serving else l.mode }
  let m := m.dropHalt
  { m with
    sched := { m.sched with running := false, toCopy := [], lsuDue := false
                            runs := tabMap (fun _ r => { r with running := false }) m.sched.runs }
    prog := { m.prog with run := if m.prog.image.isSome then .starting else .noImage, errRun := [] } }

/-- The power domain of a lane (R593). -/
def laneDomain (x : LaneId) : Nat := x.num + 2

/-- Switches a power domain on or off. -/
def Mod.setPower (m : Mod) (k : Nat) (on : Bool) : Mod :=
  let b : BitVec 14 := 1#14 <<< (k - 1)
  { m with power := { m.power with on := if on then m.power.on ||| b else m.power.on &&& ~~~b } }

/-- Ends a lane rotation test before its last step (R614): the tested lane goes straight to resync. -/
def Mod.abortRot (m : Mod) (o : Outc) : Mod :=
  if m.rotating then
    let m := if (m.lane m.test.rotLane).mode = .test then m.setPower (laneDomain m.test.rotLane) true else m
    let m := m.setLane m.test.rotLane fun l =>
      if l.mode = .test then { l with mode := .resync, phase := .reset, power := true } else l
    let key := m.test.rotKey
    let m := { m with test := { m.test with rot := .aborted, rotLeft := [], rotKey := none } }
    m.finish? key o 0 []
  else m

/-- A virtual master at velocity 0; an external master to be re-referenced (R331). -/
def MasterSt.resume (s : MasterSt) : MasterSt :=
  match s.state with
  | .ramping | .steady | .standstill =>
    if s.seen then { s with state := .holdover, hold := 0 }
    else { s with v := 0, a := 0, state := if s.g = 0 then .standstill else .ramping }
  | _ => s

/-- A debug halt ends (R123, R331): every class resumes where it halted. -/
def Mod.resumeHalt (m : Mod) : Mod :=
  if !m.test.halted && !m.test.halting then m
  else
    let was := m.test.halted || m.prog.run = .haltedDebug
    let m := m.dropHalt
    if was then
      let m := { m with prog := { m.prog with run := if m.prog.run = RunSt.haltedDebug then RunSt.running else m.prog.run } }
      m.allLane fun l =>
        { l with mode := if l.mode = LaneMode.halted then LaneMode.serving else l.mode
                 lsu := { l.lsu with masters := tabMap (fun _ s => MasterSt.resume s) l.lsu.masters } }
    else m

/-- Ends a debug session (R621): a halt in force ends with it, breakpoints are cleared. -/
def Mod.endDebug (m : Mod) : Mod :=
  let m := m.resumeHalt
  { m with test := { m.test with dbgOpen := none, breaks := [], clockReal := false } }

/-- Ends a request for a planned switchover that is in progress. -/
def Mod.endPlan (m : Mod) (st : PlanState) (o : Outc) : Mod :=
  match m.pair.plan.st with
  | .waiting | .go =>
    let key := m.pair.plan.key
    ({ m with pair := { m.pair with plan := { m.pair.plan with st := st, key := none, tick := none } } }).finish? key o 0 []
  | _ => m

/-- Enters OUT (R459): OWN is released, nothing runs. -/
def Mod.goOut (m : Mod) (cause : Nat) : Mod :=
  let m := (m.stopProgram).toRole .out cause
  let m := m.abortRot .failedSwitchover
  let m := m.endPlan .failed .failedSwitchover
  { m with
    bolt := { m.bolt with ownSelf := false, request := false, armed := false, raisedAt := none }
    pair := { m.pair with outCause := cause, decider := false, shadowTiming := false, digestsOk := true }
    hall := { m.hall with join := .none, samples := [], ownerDigs := [], ownDigs := [], live := [] } }

/-- The LIVE permit clears (R449): the generator stops, OWN falls with it (R452), ARMED clears (R451). -/
def Mod.clearPermit (m : Mod) : Mod :=
  { m with bolt := { m.bolt with permit := false, liveSelf := false, armed := false, ownSelf := false, raisedAt := none } }

/-- A module failure (R116): publication stops, FAILED and FAIL_CAUSE, LIVE stops, role OUT. -/
def Mod.failModule (m : Mod) (code : FailCode) (cls : Nat) : Mod :=
  if m.newel.failed then m
  else
    let m := { m with newel := { m.newel with failed := true, failCode := code, failCls := cls } }
    let m := m.abortRot .failedTimeout
    let m := m.endDebug
    let m := m.allLane fun l => if l.mode = .resync then { l with phase := .none } else l
    (m.clearPermit).goOut (if code = .lanesBelowTwo then 0x0A else 0x09)

/-! ### Lanes leaving the vote -/

/-- 24 h of line time in ns. -/
def dayNs : Nat := 86400000000000

/-- The code of a take-out cause (R127). -/
def Cause.code : Cause → Nat
  | .none => 0 | .output => 1 | .digestChg => 2 | .digestFull => 3 | .timeout => 4 | .poison => 5
  | .memUncorr => 6 | .rotation => 7 | .resyncTimeout => 8

/-- Raises E_LANE (R131, R200). -/
def Mod.raiseLane (m : Mod) (x : LaneId) (code : Nat) (cause : Cause) (kind cls relTick ofs : Nat) (retired : Bool) : Mod :=
  m.raise .lane code (m.placeLane x)
    (leBytes cause.code 1 ++ leBytes (kind * 16 + cls * 2) 1 ++ leBytes (if retired then 1 else 0) 1 ++ [0]
      ++ leBytes relTick 4 ++ leBytes ofs 4)

/-- The donor of a resync: the first lane in service but for the odd one (R105). -/
def Mod.donorFor (m : Mod) (x : LaneId) : LaneId := (m.serving.filter fun y => y ≠ x).head?.getD .A

/-- Retires a lane (R111, R112): its domain is switched off. -/
def Mod.retire (m : Mod) (x : LaneId) (cause : Cause) : Mod :=
  let m := m.setLane x fun l =>
    { l with mode := .retired, cause := cause, phase := .none, power := false, ctxs := [], gates := [], dr := []
             stopped := none, poison := false }
  m.setPower (laneDomain x) false

/-- The donor of a join in progress leaves the vote: the first pass starts again from the next one (R511). -/
def Mod.joinDonor (m : Mod) (x : LaneId) : Mod :=
  if m.hall.sender && m.hall.donor = x && (m.hall.join = .first || m.hall.join = .converge || m.hall.join = .wait) then
    { m with hall := { m.hall with join := .first, donor := m.leading.getD .A, marked := 0 } }
  else m

/-- Takes a lane out of the vote (R102, R105, R108, R111): a third take-out in 24 h retires it; otherwise its
resync begins with the reset of its engines. -/
def Mod.takeOut (m : Mod) (x : LaneId) (cause : Cause) (kind cls relTick ofs : Nat) : Mod :=
  let lt := m.ltNs
  let recent := (m.lane x).moments.filter fun t => decide (lt < t + dayNs)
  let third := decide (2 ≤ recent.length)
  let m := m.setLane x fun l =>
    { l with mode := .resync, cause := cause, phase := .reset, donor := m.donorFor x, upsets := inc32 l.upsets
             moments := (l.moments ++ [lt]).drop ((l.moments.length + 1) - 3)
             outTick := m.sched.tick % 2 ^ 32, outAt := m.now, marked := 0, copiedKib := 0
             ctxs := [], gates := [], dr := [], ops := [], poison := false, stopped := none }
  let m := m.joinDonor x
  if third then (m.retire x cause).raiseLane x 2 cause kind cls relTick ofs true
  else m.raiseLane x 1 cause kind cls relTick ofs false

/-! ### Leaving the shadow (R459, R461, R463) -/

/-- A shadow gives up its state and joins again: SHADOW to JOINING (R459). -/
def Mod.rejoin (m : Mod) : Mod :=
  let m := (m.stopProgram).toRole .joining 6
  let m := m.abortRot .failedTimeout
  let m := m.endPlan .failed .failedSwitchover
  { m with
    pair := { m.pair with digestsOk := true, decider := false }
    prog := { m.prog with run := .joining }
    hall := { m.hall with join := .none, samples := [], ownerDigs := [], ownDigs := [], live := [] } }

/-- The debug session ends (R621): a module that was halted resumes, and a shadow then joins again (R124). -/
def Mod.quitDebug (m : Mod) : Mod :=
  let was := m.test.halted || m.test.halting
  let m := m.endDebug
  if was && m.pair.role = .shadow then m.rejoin else m

/-- A shadow lost step (R91, R272, R426): a READY one holds for 1 T first (R461). -/
def Mod.lostStep (m : Mod) : Mod :=
  if m.pair.role ≠ .shadow then m
  else if m.pair.ready then
    if m.pair.holdSince.isSome then m else { m with pair := { m.pair with holdSince := some m.now } }
  else m.rejoin

/-- A digest of the shadow differs from the owner's (R104): READY clears at once and it rejoins. -/
def Mod.digestDiffers (m : Mod) : Mod :=
  let m := { m with newel := { m.newel with mismatch := inc32 m.newel.mismatch } }
  if m.pair.role = .shadow then ({ m with pair := { m.pair with digestsOk := false } }).rejoin else m

/-- Ends a join (R515): HO_END, then OUT with cause JOIN_ENDED; the owner stays. -/
def Mod.endJoin (m : Mod) (result : Nat) (tell : Bool) : Mod :=
  if m.hall.join = .none ∧ m.pair.role ≠ .joining then m
  else
    let m := if tell then m.hallSend 0 fun h => .mHoEnd h result else m
    let m := { m with hall := { m.hall with join := .none, last := result, marked := 0, openAt := none
                                            endedAt := some m.now } }
    if m.pair.role = .joining then
      let e := m.hall.endedAt
      let m := m.goOut 0x11
      { m with hall := { m.hall with endedAt := e } }
    else m

/-- The owner's partner is gone: OWNER to ALONE (R459), E_PAIR PARTNER_LOST (R489). -/
def Mod.partnerGone (m : Mod) : Mod :=
  if m.pair.role = .owner then
    let m := if m.hall.join ≠ .none then m.endJoin 3 false else m
    let m := (m.toRole .alone 5).endPlan .failed .failedSwitchover
    m.raisePair 2 0
  else m

/-! ### Savis sessions (R476, R629, R638) and the end of a command -/

/-- The pair service address of an engineering port, 0 for none. -/
def Mod.psaIp (m : Mod) (eng2 : Bool) : Nat := if eng2 then m.savis.net.psa2 else m.savis.net.psa1

/-- Ends a Savis session (R638) and with it the debug session that it holds (R621). -/
def Mod.closeSession (m : Mod) (k : Nat) : Mod :=
  match tabFind m.savis.sess k with
  | some x =>
    let m := { m.emit (.closed x.conn) with savis := { m.savis with sess := tabDel m.savis.sess k } }
    if m.test.dbgOpen = some k then m.quitDebug else m
  | none => m

/-- Savis sessions end at a switchover (R476). -/
def Mod.endSessions (m : Mod) : Mod := m.savis.sess.foldl (fun m p => m.closeSession p.1) m

/-- A module that does not control the domain leaves the pair service addresses (R629). -/
def Mod.leavePsa (m : Mod) : Mod :=
  if m.controls then m
  else
    let m := { m with savis := { m.savis with conns := m.savis.conns.filter fun c => !c.2.psa } }
    (m.savis.sess.filter fun p => p.2.psa).foldl (fun m p => m.closeSession p.1) m

/-- A command made a switchover of this module, in either direction (R476). -/
def Mod.switched (old m : Mod) : Bool :=
  (old.pair.role = .shadow && m.controls) || (old.pair.role = .owner && !m.controls)

/-- Brings the sessions and READY up to date after a command and reports a change to the partner (R476, R500, R629). -/
def Mod.settle (old m : Mod) : Mod :=
  let m := if Mod.switched old m then m.endSessions else m.leavePsa
  let m := m.updateReady
  if m.roleDiffers old then m.sendRole else m

/-- The meaning of a command whose effect may change what the pair sees of the module. -/
def State.doesPair (s : State) (f : Mod → Mod) : Host.Outcome State Fault Refusal :=
  s.does fun m => Mod.settle m (f m)

end Sys2Proof.Machine
end

