-- ==== Sys2Proof/Machine/Store.lean ====
section
/-! DEFINITION. Operations on the card's contents (R525-R541) and on the Attic (R542-R553). -/
namespace Sys2Proof.Machine

/-! ### The card -/

/-- The superblock in force: the valid one with the greater SB_GEN (R526); the flag says that it is copy 1. -/
def cardSuper (c : Card) : Option (Super × Bool) :=
  match c.sb0.valid, c.sb1.valid with
  | true, true => if c.sb0.sbGen < c.sb1.sbGen then some (c.sb1, true) else some (c.sb0, false)
  | true, false => some (c.sb0, false)
  | false, true => some (c.sb1, true)
  | false, false => none

/-- Puts a trim into a table: the latest of a serial number and channel or port (R527, R530). -/
def putTrim (ts : List Trim) (t : Trim) : List Trim :=
  (ts.filter fun x => !(x.latency == t.latency && x.serial == t.serial && x.index == t.index)) ++ [t]

/-- The trims that a table of 65,536 bytes keeps: the writer's own first, then the most recent (R527); a record
is 26 bytes with its TYPE, so 2,520 fit. -/
def keepTrims (serial : Nat) (ts : List Trim) : List Trim :=
  let own := ts.filter fun t => t.serial = serial
  let others := ts.filter fun t => t.serial ≠ serial
  own ++ others.drop (own.length + others.length - 2520)

/-- What a scan of the journal finds (R530): the effective image, the image its last CHANGE replaced, the digest
before the last record if that is a CHANGE, the trims, and the next JSEQ. -/
structure CardScan where
  image : Option Image
  before : Option Image
  lastChange : Option Nat
  changeSeq : Option Nat
  trims : List Trim
  next : Nat
  deriving DecidableEq, Repr

/-- The journal walk of R530, ending before record `stop` where given. -/
def scanJournal (layout sbGen : Nat) (stop : Option Nat) (s : CardScan) (seenNew : Bool) : List JRec → CardScan
  | [] => s
  | r :: rest =>
    if !r.crcOk || r.jseq ≠ s.next || stop = some r.jseq then s
    else if r.sbGen ≠ sbGen && (r.sbGen + 1 ≠ sbGen || seenNew) then s
    else
      let seen := seenNew || r.sbGen == sbGen
      let n := s.next + 1
      match r.body with
      | .change old _ _ img =>
        scanJournal layout sbGen stop
          { s with image := some img, before := s.image, lastChange := some old, changeSeq := some r.jseq, next := n } seen rest
      | .cancel q _ =>
        scanJournal layout sbGen stop
          (if s.changeSeq = some q then
            { s with image := s.before, before := none, lastChange := none, changeSeq := none, next := n }
          else { s with lastChange := none, next := n }) seen rest
      | .trim t =>
        if t.latency && layout < 2 then s
        else scanJournal layout sbGen stop { s with trims := putTrim s.trims t, lastChange := none, next := n } seen rest
      | .skip => scanJournal layout sbGen stop { s with lastChange := none, next := n } seen rest

/-- Scans a card from its superblock in force, to its end or before record `stop` (R530). -/
def cardScan (c : Card) (stop : Option Nat) : Option CardScan :=
  (cardSuper c).map fun p =>
    let b := if p.1.base = 1 then c.base1 else c.base0
    scanJournal p.1.layout p.1.sbGen stop ⟨b.image, none, none, none, b.trims, p.1.jSeq⟩ false
      (c.journal.filter fun r => p.1.jSeq ≤ r.jseq)

/-- The bytes of a journal record, on 512-byte boundaries (R528, R529). -/
def recSize : JBody → Nat
  | .change _ _ _ img => (32 + 48 + 48 + 16 + img.total + 511) / 512 * 512
  | _ => 512

/-- The bytes of the journal from J_START (R554). -/
def journalBytes (c : Card) : Nat := c.journal.foldl (fun n r => n + r.bytes) 0

/-- The journal region (R525). -/
def journalSize : Nat := 2 ^ 30

/-- A card that the slot can use is seated and locked. -/
def CardCtl.usable (c : CardCtl) : Bool := c.locked && (match c.card with | some x => x.usable | none => false)

/-- WRITABLE (R534): what no failed append has cleared, with the card present, locked, usable, its journal below
95 %, and its superblock the one that the module read or wrote (R541). -/
def Mod.cardWritable (m : Mod) : Bool :=
  m.card.writable && m.card.usable && !m.card.unread &&
    (match m.card.card with
    | some c => decide (journalBytes c * 100 < 95 * journalSize)
    | none => false)

/-- SB_GEN in force, 0 without a valid superblock. -/
def Mod.sbGen (m : Mod) : Nat :=
  match m.card.card.bind cardSuper with
  | some p => p.1.sbGen
  | none => 0

/-- Starts to write a base (R537, R539): its first step. -/
def Mod.startComp (m : Mod) (c : Comp) : Mod := { m with card := { m.card with comp := some c, retryAt := none } }

/-- The cut of a compaction (R536): before a CHANGE that is not yet applied or cancelled, else the end. -/
def Mod.cutSeq (m : Mod) : Nat :=
  match m.card.card.bind fun c => cardScan c none with
  | some s =>
    match m.prog.chgState, s.changeSeq with
    | .staged, some q => if m.prog.staged.isSome then q else s.next
    | _, _ => s.next
  | none => 0

/-- Starts a compaction at its cut (R536), unless one runs or a rewrite is pending (R540). -/
def Mod.compact (m : Mod) (kind : CompKind) (layout : Nat) (key : Option (Nat × Nat)) : Mod :=
  if m.card.comp.isSome || m.card.rewriteDue || !m.card.usable || m.card.unread then m
  else
    match m.card.card.bind fun c => cardScan c (some m.cutSeq) with
    | some s =>
      match s.image with
      | some img => m.startComp ⟨kind, 1, img, keepTrims m.savis.serial s.trims, s.next, layout, key⟩
      | none => m
    | none => m

/-- The trims of this module that are in force, as records. -/
def Mod.ownTrims (m : Mod) : List Trim :=
  (m.loops.map fun p => (⟨false, m.savis.serial, p.1, p.2.zeroTrim, p.2.spanTrim⟩ : Trim))
    ++ (m.time.ports.map fun p => (⟨true, m.savis.serial, p.1, p.2.txTrim, p.2.rxTrim⟩ : Trim))

/-- Writes an image as a base whose cut is the end of the journal (R539-R541). -/
def Mod.writeBase (m : Mod) (kind : CompKind) (img : Image) (key : Option (Nat × Nat)) : Mod :=
  let (trims, next, layout) := match m.card.card.bind fun c => cardScan c none with
    | some s => (s.trims, s.next, if m.card.layout = 0 then 2 else m.card.layout)
    | none => ([], 0, 2)
  let ts := match kind with
    | .rewrite => m.ownTrims.filter fun t => !t.latency || layout = 2
    | _ => keepTrims m.savis.serial trims
  m.startComp ⟨kind, 1, img, ts, next, layout, key⟩

/-- A module that became SHADOW rewrites a card whose effective image is not the owner's, or that had no valid read (R540). -/
def Mod.rewriteCard (m : Mod) : Mod :=
  match m.prog.image with
  | some i =>
    let same : Bool := match m.card.effImage with | some e => e.digest = i.digest | none => false
    if same && m.card.read = .ok then m
    else
      let m := { m with card := { m.card with rewriteDue := true } }
      if m.card.usable && m.card.comp.isNone then m.writeBase .rewrite i none else m
  | none => m

/-- The card after the flip of a compaction: the new base and superblock in force (R526, R537). -/
def cardFlip (c : Card) (x : Comp) (serial : Nat) : Card :=
  let (gen, slot, copy1, start) := match cardSuper c with
    | some p => (p.1.sbGen + 1, if p.1.base = 1 then 0 else 1, p.2, p.1.jStart)
    | none => (1, 0, true, 0)
  let b : Base := ⟨true, some x.image, x.trims, gen⟩
  let keep := c.journal.filter fun r => x.cutSeq ≤ r.jseq
  let gone := (c.journal.filter fun r => r.jseq < x.cutSeq).foldl (fun n r => n + r.bytes) 0
  let sb : Super := ⟨true, x.layout, slot, gen, (start + gone) % journalSize, x.cutSeq, serial, x.image.digest⟩
  { c with
    sb0 := if copy1 then sb else c.sb0
    sb1 := if copy1 then c.sb1 else sb
    base0 := if slot = 0 then b else c.base0
    base1 := if slot = 1 then b else c.base1
    journal := keep }

/-! ### The Attic -/

/-- The header in force: the valid one with the greater A_GEN (R543); the flag says that it is B. -/
def Attic.header (a : Attic) : Option (AHeader × Bool) :=
  match a.hdrA.valid, a.hdrB.valid with
  | true, true => if a.hdrA.aGen < a.hdrB.aGen then some (a.hdrB, true) else some (a.hdrA, false)
  | true, false => some (a.hdrA, false)
  | false, true => some (a.hdrB, true)
  | false, false => none

/-- STATE of the header in force (R557). -/
def Attic.state (a : Attic) : AtticState :=
  match a.header with
  | some h => h.1.state
  | none => .empty

/-- Writes the header that is not in force, one generation on (R543). -/
def Attic.putHeader (a : Attic) (st : AtticState) (serial : Nat) (last : Option Commit) : Attic :=
  match a.header with
  | some (h, true) => { a with hdrA := ⟨true, st, h.aGen + 1, a.applied, serial, last⟩ }
  | some (h, false) => { a with hdrB := ⟨true, st, h.aGen + 1, a.applied, serial, last⟩ }
  | none => { a with hdrA := ⟨true, st, 1, a.applied, serial, last⟩ }

/-- Appends a journal record (R544). -/
def Attic.append (a : Attic) (now : Nat) (b : ARec) : Attic :=
  { a with journal := a.journal ++ [⟨a.nextSeq, now, b⟩], nextSeq := a.nextSeq + 1 }

/-- The voted RET records of a checkpoint reach the journal (R99, R546). -/
def Mod.atticTake (m : Mod) (kind : W32) (relTick : Nat) (words : List (Nat × W64)) : Mod :=
  let a := m.attic
  if a.fault then m
  else
    let a := if words.isEmpty then a else a.append m.now (.ret words)
    { m with attic := { a with
        retWords := add32 a.retWords words.length
        pendCovers := a.pendCovers + 1
        pendKind := kind
        pendRel := relTick
        pendSince := if a.pendCovers = 0 then m.now else a.pendSince } }

/-- The digest of the running image, 0 without one. -/
def Mod.digest (m : Mod) : Nat := match m.prog.image with | some i => i.digest | none => 0

/-- The generation of the running image. -/
def Mod.generation (m : Mod) : Nat := match m.prog.image with | some i => i.generation | none => 0

/-- Writes a commit that covers the waiting checkpoints (R545, R546). A CHANGE that waits for it lets the card
journal go on (R533). -/
def Mod.atticCommitNow (m : Mod) : Mod :=
  let a := m.attic
  let c : Commit := ⟨m.sched.tick, a.pendRel, a.pendKind, max 1 a.pendCovers, m.pair.epoch, m.generation, m.digest, a.clocks⟩
  let lag := if a.pendCovers = 0 then 0 else (m.now - a.pendSince) / 1000
  { m with
    attic := { a.append m.now (.commit c) with
      pendCovers := 0
      lastCommit := some m.now
      commitTick := m.sched.tick % 2 ^ 32
      commits := inc32 a.commits
      lagUs := max a.lagUs lag }
    card := { m.card with blocked := if m.card.blocked = some m.digest then none else m.card.blocked } }

/-- Clears the Attic for a refill (R550): REFILLING from the next ASEQ, the home with the retained words, then
REFILL_START; REFILL_END and the commit follow when the words are written. -/
def Mod.atticRefill (m : Mod) (words : List (Nat × W64)) : Mod :=
  let a := m.attic
  if a.fault then m
  else
    let a := { a with applied := a.nextSeq, appliedLast := none, journal := [], pendCovers := 0, clocks := [] }
    let a := a.putHeader .refilling m.savis.serial none
    let a := a.append m.now .refillStart
    { m with attic := { a with home := words.foldl (fun h w => memSet h w.1 w.2) [], refilling := true, mapped := false } }

/-- The words of a commit's RET records up to it go home (R547). -/
def applyWords (home : Mem 64) : List AEnt → Mem 64
  | [] => home
  | e :: rest =>
    match e.body with
    | .ret ws => applyWords (ws.foldl (fun h w => memSet h w.1 w.2) home) rest
    | _ => applyWords home rest

/-- The newest commit in a journal list written by moment `limit`, with the ASEQ after it. -/
def lastCommitBy (limit : Nat) (best : Option (Commit × Nat)) : List AEnt → Option (Commit × Nat)
  | [] => best
  | e :: rest =>
    match e.body with
    | .commit c => if e.at_ ≤ limit then lastCommitBy limit (some (c, e.aseq + 1)) rest else best
    | _ => lastCommitBy limit best rest

/-- The state words of RETAIN instances of an image in an instance area, by word number. -/
def retained (img : Image) (inst : Mem 64) : List (Nat × W64) :=
  img.insts.flatMap fun e =>
    if (e.words.getD 1 0).getLsbD 47 then
      (List.range (e.words.length - 2)).map fun k => (e.handle / 8 + 2 + k, memGet inst (e.handle / 8 + 2 + k))
    else []

end Sys2Proof.Machine
end

