-- ==== Sys2Proof/Machine/Restart.lean ====
section
/-! DEFINITION. Restarts and loads of the program (R187-R193), the mapping of instance data by an online change
(R197), the beginning of line time (R421). -/
namespace Sys2Proof.Machine

/-! ### Instance data -/

/-- INST_ID of an INST entry. -/
def entId (e : InstEnt) : Nat := (e.words.getD 0 0).toNat % 2 ^ 32
/-- TYPE_ID of an INST entry. -/
def entType (e : InstEnt) : Nat := (e.words.getD 0 0).toNat / 2 ^ 32
/-- STATE_LEN of an INST entry. -/
def entState (e : InstEnt) : Nat := (e.words.getD 1 0).toNat % 2 ^ 16
/-- SCRATCH_LEN of an INST entry. -/
def entScratch (e : InstEnt) : Nat := (e.words.getD 1 0).toNat / 2 ^ 16 % 2 ^ 16
/-- FLAGS.RETAIN of an INST entry (R140). -/
def entRetain (e : InstEnt) : Bool := (e.words.getD 1 0).getLsbD 47

/-- The fields of an instance's type (R205). -/
def entFields (img : Image) (e : InstEnt) : List Field :=
  match img.types.find? fun t => t.typeId = entType e with
  | some t => t.fields
  | none => []

/-- A field that starts with a control word (R157). -/
def fieldCtl (f : Field) : Bool := f.ty = .edge || f.ty = .timer || f.ty = .counter

/-- Sets INIT in the control word of a field (R187). -/
def setInit (inst : Mem 64) (e : InstEnt) (f : Field) : Mem 64 :=
  let n := e.handle / 8 + f.word
  memSet inst n (memGet inst n ||| 0x8000000000000000#64)

/-- Puts an instance with its initial values: FIRSTSCAN and every INIT set (R187). -/
def putInit (img : Image) (inst : Mem 64) (e : InstEnt) : Mem 64 :=
  let n := e.handle / 8
  let inst := memWrite inst n e.words
  let inst := memSet inst (n + 1) (memGet inst (n + 1) ||| 0x0000200000000000#64)
  ((entFields img e).filter fun f => fieldCtl f && !f.scratch).foldl (fun i f => setInit i e f) inst

/-- The instance area of an image at a cold restart (R187). -/
def instInit (img : Image) : Mem 64 := img.insts.foldl (putInit img) []

/-- The instance area at a warm restart: the state words of RETAIN instances from `home`, INIT set (R187). -/
def instWarm (img : Image) (home : Mem 64) : Mem 64 :=
  img.insts.foldl (fun inst e =>
    let inst := putInit img inst e
    if entRetain e then
      let n := e.handle / 8 + 2
      let inst := memWrite inst n (memRead home n (entState e))
      ((entFields img e).filter fun f => fieldCtl f && !f.scratch).foldl (fun i f => setInit i e f) inst
    else inst) []

/-- The words that a mapping gives a state field, or the reason why it is ill-typed (R197). -/
def mapField (old new : Image) (inst : Mem 64) (o e : InstEnt) (f : Field) : Except Nat (List W64) :=
  let init := (List.range f.width).map fun k => e.words.getD (f.word + k) 0
  match (entFields old o).find? fun g => g.id = f.id && !g.scratch with
  | none => .ok (match init with
    | w :: ws => (if fieldCtl f then w ||| 0x8000000000000000#64 else w) :: ws
    | [] => [])
  | some g =>
    if g.ty ≠ f.ty ∨ g.width ≠ f.width then .error 9
    else
      let vals := memRead inst (o.handle / 8 + g.word) g.width
      if f.ty = .handle then
        let v := (vals.getD 0 0).toNat
        match old.insts.find? fun x => x.handle = v with
        | some j =>
          match new.insts.find? fun x => entId x = entId j with
          | some k => .ok [BitVec.ofNat 64 k.handle]
          | none => .error 10
        | none => if new.insts.any fun x => x.handle = v then .error 10 else .ok vals
      else .ok vals

/-- What a mapping gives: the new instance area, the bytes of the change set (R195), and the words it writes; or
the reason, INST_ID and field id of the first ill-typed mapping (R214). -/
structure Remap where
  inst : Mem 64
  bytes : Nat
  words : List Nat
  deriving DecidableEq, Repr

/-- Maps the fields of one instance (R197). -/
def mapFields (old new : Image) (inst : Mem 64) (o e : InstEnt) : List Field → Remap → Except (Nat × Nat × Nat) Remap
  | [], r => .ok r
  | f :: fs, r =>
    if f.scratch then mapFields old new inst o e fs r
    else
      match mapField old new inst o e f with
      | .error x => .error (x, entId e, f.id)
      | .ok ws =>
        let n := e.handle / 8 + f.word
        let moved := ws ≠ memRead inst n f.width
        mapFields old new inst o e fs
          { inst := memWrite r.inst n ws
            bytes := if moved && f.ty = .handle then r.bytes + 8 else r.bytes
            words := if moved then r.words ++ (List.range f.width).map (n + ·) else r.words }

/-- An instance that the mapping leaves where and as it was, but for values of handles. -/
def sameLayout (old new : Image) (o e : InstEnt) : Bool :=
  o.handle == e.handle && o.words.take 2 == e.words.take 2 && entFields old o == entFields new e

/-- The mapping of R197 over all instances of the new image. -/
def mapInsts (old new : Image) (inst : Mem 64) : List InstEnt → Remap → Except (Nat × Nat × Nat) Remap
  | [], r => .ok r
  | e :: es, r =>
    let n := e.handle / 8
    let all := (List.range (2 + entState e)).map (n + ·)
    let size := 8 * (2 + entState e + entScratch e)
    match old.insts.find? fun o => entId o = entId e with
    | none =>
      mapInsts old new inst es ⟨putInit new r.inst e, r.bytes + size, r.words ++ all⟩
    | some o =>
      let fs := memGet inst (o.handle / 8 + 1) &&& 0x0000200000000000#64
      let w1 := (e.words.getD 1 0 &&& ~~~0x0000200000000000#64) ||| fs
      let r0 : Remap := { r with inst := memWrite r.inst n [e.words.getD 0 0, w1] }
      match mapFields old new inst o e (entFields new e) r0 with
      | .error x => .error x
      | .ok r1 =>
        if sameLayout old new o e then mapInsts old new inst es r1
        else mapInsts old new inst es { r1 with bytes := r.bytes + size, words := r.words ++ all }

/-- The mapping of R197 of an instance area. -/
def remap (old new : Image) (inst : Mem 64) : Except (Nat × Nat × Nat) Remap :=
  mapInsts old new inst new.insts ⟨[], 0, []⟩

/-- The retained words that a remap journals (R551): those it wrote, and all of an instance that gains RETAIN. -/
def remapRetained (old new : Image) (r : Remap) : List (Nat × W64) :=
  new.insts.flatMap fun e =>
    if entRetain e then
      let gains := match old.insts.find? fun o => entId o = entId e with
        | some o => !entRetain o
        | none => true
      ((List.range (entState e)).map fun k => e.handle / 8 + 2 + k).filterMap fun n =>
        if gains || r.words.contains n then some (n, memGet r.inst n) else none
    else []

/-! ### The program begins (R187, R191) -/

/-- The initial contents of IMG_OUT and AXOUT (R187, R207). -/
def outInit (img : Image) : Areas :=
  img.outInit.foldl (fun a o => a.put o.area (memWrite (a.get o.area) o.start o.bytes)) .zero

/-- The Pantry after a restart of the program (R187, R257, R262): the ports, and the items of engineering
requests, stay. -/
def Pantry.restart (p : Pantry) (img : Image) : Pantry :=
  let keep (s : Stn) : Stn :=
    { Stn.zero with
      items := (match s.flight with | some i => [{ i with firstSend := none, waiting := false }] | none => [])
        ++ s.items |>.filter fun i => i.cls.isNone }
  { Pantry.zero with
    out0 := outInit img
    out1 := outInit img
    stns := tabMap (fun _ s => keep s) p.stns
    ports := p.ports
    segSeq := p.segSeq }

/-- A loop channel after a restart: its checks start anew (R395, R396, R519). -/
def Loop.restart (l : Loop) : Loop :=
  { l with deviation := false, neLow := false, neHigh := false, range := false, devRun := 0, goodRun := 0
           neSide := 0, neSince := none, okSince := none }

/-- The program state after a restart or load (R187, R211, R212). -/
def Program.begin_ (p : Program) (img : Image) (restart by_ why : Nat) (mapped : Bool) : Program :=
  { image := some img
    run := if p.pairKey = .halt then .haltedKey else .starting
    restart := restart
    by_ := by_
    coldWhy := why
    mapped := mapped
    ownKey := p.ownKey
    keyAt := p.keyAt
    pairKey := p.pairKey }

/-- Puts an image and instance data into every lane and unit of the module (R187). -/
def Mod.begin_ (m : Mod) (img : Image) (inst : Mem 64) (runs : Tab ClsRun) : Mod :=
  let lsu := match img.axis with | some c => lsuInit c | none => Lsu.zero
  let m := m.allLane fun l =>
    { l with inst := inst, lsu := lsu, ctxs := [], gates := [], dr := [], ops := [] }
  { m with
    sched := { m.sched with runs := runs, built := false, buildEnd := false, toCopy := []
                            lsuDue := false, sagEvents := 0, lateDropped := 0 }
    pantry := m.pantry.restart img
    reflex := m.reflex.load img.reflex m.now
    wins := []
    loops := tabMap (fun _ l => l.restart) m.loops
    conv := { m.conv with passActive := false, nextEntry := 0, urg := [], urgPend := [] }
    pair := { m.pair with gapTicks := 0 } }

/-- A cold restart (R187, R550). -/
def Mod.coldRestart (m : Mod) (img : Image) (by_ why : Nat) : Mod :=
  let inst := instInit img
  let m := { (m.begin_ img inst []) with prog := m.prog.begin_ img 1 by_ why false }
  m.atticRefill (retained img inst)

/-- The run records of a warm restart: the committed task clocks (R187, R192). -/
def warmRuns (clocks : Tab (Nat × Nat)) : Tab ClsRun :=
  tabMap (fun _ c => { ClsRun.zero with clk := c.1 }) clocks

/-- A warm restart from a commit and the home as it stands after it; with `old`, the retained words are mapped
from that image first (R188, R549). A mapping that fails gives a cold restart. -/
def Mod.warmRestart (m : Mod) (img : Image) (by_ : Nat) (c : Commit) (home : Mem 64) (old : Option Image) : Mod :=
  match old with
  | none =>
    let m := { (m.begin_ img (instWarm img home) (warmRuns c.clocks)) with prog := m.prog.begin_ img 2 by_ 0 false }
    { m with attic := { m.attic with mapped := false, clocks := c.clocks } }
  | some o =>
    match remap o img (instWarm o home) with
    | .ok r =>
      let inst := instWarm img r.inst
      let m := { (m.begin_ img inst (warmRuns c.clocks)) with prog := m.prog.begin_ img 2 by_ 0 true }
      let m := { m with attic := { m.attic with mapped := true, clocks := c.clocks } }
      m.atticTake 0 0 (retained img inst)
    | .error _ => m.coldRestart img by_ 2

/-- The last valid commit of the running module, with the home as it stands after it (R548). -/
def Mod.committed (m : Mod) : Option (Commit × Mem 64) :=
  let a := m.attic
  match a.header with
  | some (h, _) =>
    if a.fault ∨ a.bad ∨ h.state ≠ .valid then none
    else
      match lastCommitBy m.now none (a.journal.filter fun e => h.appliedSeq ≤ e.aseq), h.last with
      | some (c, n), _ => some (c, applyWords a.home (a.journal.filter fun e => h.appliedSeq ≤ e.aseq && e.aseq < n))
      | none, some c => some (c, a.home)
      | none, none => none
  | none => none

/-- The image that the last journal record replaced, when that record is a CHANGE from the commit's digest
(R188). -/
def Mod.changedFrom (m : Mod) (c : Commit) : Option Image :=
  match m.card.card.bind fun k => cardScan k none with
  | some s => if s.lastChange = some c.digest then s.before else none
  | none => none

/-- The restart rule of R188. -/
def Mod.restartRule (m : Mod) (img : Image) (by_ : Nat) : Mod :=
  match m.committed with
  | some (c, home) =>
    if c.digest = img.digest then m.warmRestart img by_ c home none
    else
      match m.changedFrom c with
      | some old => m.warmRestart img by_ c home (some old)
      | none => m.coldRestart img by_ 2
  | none => m.coldRestart img by_ 1

/-! ### Line time begins (R421, R602) -/

/-- Line time begins or is adopted at a value, in one step (R421, R422). -/
def Mod.beginLine (m : Mod) (u : Nat) (st : LtState) : Mod :=
  { m with time := { m.time with
    line := { m.time.line with base := m.now, val := u }
    cal := { m.time.cal with base := u, val := m.cal }
    begun := true
    begunAt := m.now
    waitFrom := none
    lt := st } }

/-- The L0 that this module computes, in s (R421). -/
def Mod.ownL0 (m : Mod) : Nat :=
  match m.attic.found with
  | some c => ((c.nTick + 1) * m.tickNs + 999999999) / 1000000000 + 1
  | none => 0

/-- The restart of a module that takes the domain, once line time runs (R188, R602). -/
def Mod.startProgram (m : Mod) : Mod :=
  match m.prog.image with
  | some img =>
    let m := m.restartRule img 0
    { m with sched := { m.sched with running := true, tick := m.ltNs / img.tickNs } }
  | none => m

/-- The image gives a port the role PEER. -/
def Mod.hasPeer (m : Mod) : Bool :=
  match m.prog.image with
  | some i => i.portRole.any fun r => r = .peer
  | none => false

/-- Enters ALONE from OUT (R458): asks for OWN; line time begins at once or after listening; then the restart. -/
def Mod.enterAlone (m : Mod) : Mod :=
  let m := m.toRole .alone 1
  let m := { m with pair := { m.pair with partner := none, outCause := 0 }
                    bolt := { m.bolt with request := true, started := m.now } }
  if m.time.begun then m.startProgram
  else if m.hasPeer then { m with time := { m.time with waitFrom := some m.now, lt := .waiting } }
  else (m.beginLine (max m.time.l0 m.ownL0 * secUnits) .free).startProgram

end Sys2Proof.Machine
end

