-- ==== Sys2Proof/Machine/Clock.lean ====
section
/-! DEFINITION. Line time and calendar time: qualification of PTP masters, corrections by rate, steps, keepers
(R417-R434, R440, R443). -/
namespace Sys2Proof.Machine

/-! ### Rates (R417, R423) -/

/-- Gives a clock a rate from a point on; its reading there stays. -/
def Clock.setRate (c : Clock) (base val : Nat) (rate : Int) : Clock := { c with base := base, val := val, rate := rate }

/-- A rate moved toward a target by at most `slew` ppb, within ±`limit` ppb (R417). -/
def slewRate (old target slew limit : Int) : Int :=
  clampAbs (old + clampAbs (target - old) slew) limit

/-- The pull of a phase offset toward zero, of at most `most` ppb; the manual bounds it and leaves its size open
(log entry 8). -/
def Mod.pull (m : Mod) (offset : Int) (most : Nat) : Int × Mod :=
  let (x, m) := m.open_
  (-(sgn offset) * (x % (most + 1) : Nat), m)

/-- Corrects line time toward a rate with a pull, within ±50 ppm and by 0.1 ppm per second (R417, R423). -/
def Mod.lineRate (m : Mod) (ratePpb pull : Int) : Mod :=
  let c := m.time.line
  let r := slewRate c.rate (ratePpb + pull) ((m.now - c.base) / 10000000 : Nat) 50000
  { m with time := { m.time with line := c.setRate m.now m.lt r } }

/-- Corrects calendar time toward a rate over line time with a pull, within ±100 ppm and by 10 ppm per second
(R417). -/
def Mod.calRate (m : Mod) (ratePpb pull : Int) : Mod :=
  let c := m.time.cal
  let r := slewRate c.rate (ratePpb - m.time.line.rate + pull) ((m.lt - c.base) / 6553600000 : Nat) 100000
  { m with time := { m.time with cal := c.setRate m.lt m.cal r } }

/-! ### Events (R440) -/

/-- Raises E_TIME with an offset in ns. -/
def Mod.raiseTime (m : Mod) (code : Nat) (offset : Int) (calendar : Bool) : Mod :=
  let rate := if calendar then m.time.cal.rate else m.time.line.rate
  m.raise .time code m.placeMod
    (leBytes (BitVec.ofInt 64 (satInt 64 offset)).toNat 8 ++ leBytes (u32 rate) 4 ++ leBytes (if calendar then 1 else 0) 1)

/-- Raises REF_CHANGED and counts it. -/
def Mod.refChanged (m : Mod) (offset : Int) (calendar : Bool) : Mod :=
  ({ m with time := { m.time with refChanges := inc32 m.time.refChanges } }).raiseTime 2 offset calendar

/-- Raises REF_LOST and counts it. -/
def Mod.refLost (m : Mod) (offset : Int) (calendar : Bool) : Mod :=
  ({ m with time := { m.time with refLosses := inc32 m.time.refLosses } }).raiseTime 3 offset calendar

/-! ### Calendar time (R428-R430, R443) -/

/-- Steps calendar time to a value in 2^-16 ns. -/
def Mod.setCal (m : Mod) (u : Nat) : Mod :=
  { m with time := { m.time with cal := { m.time.cal with base := m.lt, val := u } } }

/-- Calendar time locks with a step (R428, R430). -/
def Mod.calLock (m : Mod) (u : Nat) (code : Nat) : Mod :=
  let d : Int := ((u : Int) - m.cal) / 65536
  let m := m.setCal u
  let m := { m with time := { m.time with calSt := .locked, calValid := true, refused := false } }
  m.raiseTime code d true

/-- The step that waits for this tick edge (R430): to a given value, or to the qualified reference. -/
def Mod.calStepNow (m : Mod) : Mod :=
  match m.time.step with
  | none => m
  | some s =>
    let u := match s.value with
      | some v => v
      | none => ((m.cal : Int) - m.time.calOffset * 65536).toNat
    let m := { m with time := { m.time with step := none, resteps := inc32 m.time.resteps } }
    let m := m.calLock u (if m.time.calValid then 5 else 1)
    m.finish? s.key .done 0 []

/-- The time record of the running image, or of one that waits for its restart. -/
def Mod.timeRec (m : Mod) : Option TimeRec := m.prog.image.map Image.time

/-- The domain is configured as the source of line time. -/
def Mod.isSource (m : Mod) : Bool := match m.timeRec with | some r => !r.follower | none => false

/-- A qualified exchange with the external reference decides on calendar time (R428, R429). -/
def Mod.calDecide (m : Mod) (offset ratePpb : Int) : Mod :=
  let m := { m with time := { m.time with calOffset := offset } }
  if !m.time.calValid then m.calLock ((m.cal : Int) - offset * 65536).toNat 1
  else
    let lim := match m.timeRec with | some r => r.jumpLimUs | none => 1000
    if offset.natAbs ≤ lim * 1000 then
      let isNew := m.time.gmNew
      let (p, m) := m.pull offset 100000
      let m := m.calRate ratePpb p
      let m := { m with time := { m.time with calSt := .locked, refused := false, gmNew := false } }
      if isNew then m.refChanged offset true else m
    else
      let onset := !m.time.refused
      let m := { m with time := { m.time with calSt := .refused, refused := true } }
      if onset then
        ({ m with time := { m.time with jumpsRefused := inc32 m.time.jumpsRefused } }).raiseTime 4 offset true
      else m

/-! ### Masters (R420-R425) -/

/-- The rank of a serving domain: the source before domain 0 (R420); 0xFE names the source (R442). -/
def domRank (d : Nat) : Nat := if d = 0xFE then 0 else d + 1

/-- An exchange with a master (R425): the run of exchanges whose offsets differ by at most 1 µs. -/
def PtpMaster.exchange (x : PtpMaster) (offset : Int) : PtpMaster :=
  let near := decide ((offset - x.offset).natAbs ≤ 1000)
  let n := if near then x.good + 1 else 1
  { x with good := min n 8, offset := offset, qual := x.qual || decide (8 ≤ n) }

/-- The port of the PEER role. -/
def Mod.peerPort (m : Mod) : Option Nat := m.prog.image.bind fun i => i.portRole.findIdx? fun r => r = .peer

/-- Changes the figures of a port's time-stamping. -/
def Mod.setPortTime (m : Mod) (p : Nat) (f : PortTime → PortTime) : Mod :=
  { m with time := { m.time with ports := tabMod m.time.ports PortTime.zero p f } }

/-- Counts a valid Sync on the port that carries an instance (R445); X on ENG1 has no PORTTIME. -/
def Mod.countSync (m : Mod) (ext : Bool) : Mod :=
  match m.timeRec, m.peerPort with
  | some r, some p =>
    if !ext || r.extSrc = .peer then m.setPortTime p fun x => { x with syncRx := inc32 x.syncRx } else m
  | _, _ => m

/-- The domain serves line time on its PEER port (R420, R442). -/
def Mod.serves (m : Mod) : Bool := m.time.begun && m.hasPeer && m.controls && (m.isSource || m.time.keeper)

/-- The module follows a line master: FOLLOWER, controlling, with a PEER port (R420). -/
def Mod.followsLine (m : Mod) : Bool := m.controls && m.hasPeer && !m.isSource

/-- The module takes the external reference (R419, R426). -/
def Mod.takesExt (m : Mod) : Bool :=
  m.controls && (match m.timeRec with | some r => r.extSrc ≠ .none | none => false)

/-- The line master qualifies, or is followed further (R422, R423, R425). -/
def Mod.lineFollow (m : Mod) (x : PtpMaster) (wasQual : Bool) (ratePpb : Int) : Mod :=
  let m := { m with time := { m.time with ltOffset := x.offset } }
  if !wasQual && !m.time.released then
    let waits := !m.time.begun
    let m := m.beginLine ((m.lt : Int) - x.offset * 65536).toNat .locked
    if waits then m.startProgram else m
  else
    let far := decide (100000 < x.offset.natAbs)
    let (p, m) := if far then (0, m) else m.pull x.offset 2000
    let m := m.lineRate ratePpb p
    let m := { m with time := { m.time with lt := .locked, phaseFar := far } }
    if wasQual then m else m.refChanged x.offset false

/-- An exchange with a serving domain (R420, R425): the lowest domain heard is followed; a keeper gives way. -/
def Mod.lineExchange (m : Mod) (dom : Nat) (offset ratePpb : Int) (gm : Nat) : Mod :=
  if !m.followsLine then m
  else if m.time.keeper && decide (domRank m.domain ≤ domRank dom) then m
  else
    let fresh : PtpMaster := ⟨dom, 1, offset, false, gm⟩
    let next := match m.time.lineM with
      | none => some (fresh, false)
      | some x =>
        if x.dom = dom then some (x.exchange offset, x.qual)
        else if domRank dom < domRank x.dom then some (fresh, false)
        else none
    match next with
    | none => m
    | some (x, was) =>
      let m := { m with time := { m.time with lineM := some x, masterDom := dom, keeper := false, keeperAt := none } }
      if x.qual then m.lineFollow x was ratePpb else m

/-- An exchange with the external reference (R424, R425, R428, R429). -/
def Mod.extExchange (m : Mod) (offset ratePpb : Int) (gm : Nat) : Mod :=
  if !m.takesExt then m
  else
    let (x, was) := match m.time.extM with
      | some x => if x.gm = gm then (x.exchange offset, x.qual) else ((⟨0, 1, offset, false, gm⟩ : PtpMaster), false)
      | none => ((⟨0, 1, offset, false, gm⟩ : PtpMaster), false)
    let m := { m with time := { m.time with extM := some x } }
    if !x.qual then
      match m.time.calSt with
      | .unset | .holdover => { m with time := { m.time with calFrom := m.time.calSt, calSt := .acquiring } }
      | _ => m
    else
      let isNew := m.time.lastGm ≠ some gm
      let m := if was then m else
        { m with time := { m.time with lastGm := some gm, gmNew := isNew && m.time.calValid } }
      let m := if m.isSource && m.time.begun then
          let m := m.lineRate ratePpb 0
          let m := { m with time := { m.time with lt := .locked } }
          if !was && isNew then m.refChanged 0 false else m
        else m
      m.calDecide offset ratePpb

/-- PTP_SYNC (R423-R425, R428, R429): a Sync gives the offset (own time minus the master's) and the master's rate. -/
def execPtpSync (t : Nat) (ext : Bool) (dom : Nat) (offset : Int) (ratePpb : Int) (gmId : Nat) (s : State) :
    Host.Outcome State Fault Refusal :=
  s.doesPair fun m =>
    let m := (m.start t).countSync ext
    if ext then m.extExchange offset ratePpb gmId else m.lineExchange dom offset ratePpb gmId

/-- DELAY_RESP (R425, R432): a Delay_Resp completes an exchange; it gives no rate of its own. -/
def execDelayResp (t : Nat) (ext : Bool) (offset : Int) (gmId : Nat) (s : State) :
    Host.Outcome State Fault Refusal :=
  s.doesPair fun m =>
    let m := m.start t
    if ext then
      match m.time.extM with
      | some x => if x.gm = gmId then m.extExchange offset (m.time.line.rate + m.time.cal.rate) gmId else m
      | none => m
    else
      match m.time.lineM with
      | some x => if x.gm = gmId then m.lineExchange x.dom offset m.time.line.rate gmId else m
      | none => m

/-- DELAY_REQ (R433, R445): the owner answers with the receive stamp of the copy; a relayed copy counts for the
stations on path RELAY, an own copy for the others. -/
def execDelayReq (t : Nat) (port : Nat) (clockId seq stamp : Nat) (relayed : Bool) (s : State) :
    Host.Outcome State Fault Refusal :=
  s.does fun m =>
    let m := m.start t
    let ours := m.controls && (match m.portRole port with
      | .segment => m.prog.run = .running || m.prog.run = .haltedKey || m.prog.run = .haltedDebug || m.prog.run = .starting
      | .peer => m.serves
      | .unused => false)
    let path := !relayed || m.pantry.stns.any fun p => p.1 / 512 = port && p.2.path = .relay
    if ours && path then
      (m.setPortTime port fun x => { x with delayRx := inc32 x.delayRx }).emit (.delayResp port clockId seq stamp)
    else m

/-- PTP_ANNOUNCE (R425, R432): instance X takes the grandmaster that the comparison prefers, and the UTC offset
of the one it follows for display. -/
def execPtpAnnounce (t : Nat) (gmId : Nat) (better : Bool) (utcValid : Bool) (utcOffset : Int) (s : State) :
    Host.Outcome State Fault Refusal :=
  s.does fun m =>
    let m := m.start t
    if !m.takesExt then m
    else
      let utc (m : Mod) : Mod := { m with time := { m.time with utcValid := utcValid, utcOffset := utcOffset } }
      match m.time.extM with
      | none => utc m
      | some x =>
        if x.gm = gmId then utc m
        else if better then
          utc { m with time := { m.time with extM := some ⟨0, 0, x.offset, false, gmId⟩ } }
        else m

/-- PTP_MASTER_LOST (R420, R425, R443): line time or calendar time runs on at its last rate; a module that does not control
the domain follows no master (R426). -/
def execPtpMasterLost (t : Nat) (ext : Bool) (s : State) : Host.Outcome State Fault Refusal :=
  s.does fun m =>
    let m := m.start t
    if !m.controls then m
    else if ext then
      match m.time.extM with
      | none => m
      | some x =>
        let m := { m with time := { m.time with extM := none } }
        if !x.qual then
          if m.time.calSt = .acquiring then { m with time := { m.time with calSt := m.time.calFrom } } else m
        else
          let m := if m.isSource && m.time.begun then
              ({ m with time := { m.time with lt := .holdover } }).refLost m.time.ltOffset false
            else m
          ({ m with time := { m.time with calSt := .holdover } }).refLost x.offset true
    else
      match m.time.lineM with
      | none => m
      | some x =>
        let m := { m with time := { m.time with lineM := none, masterDom := 0xFF } }
        if x.qual then
          let m := { m with time := { m.time with lt := .holdover, phaseFar := false
                                                  keeperAt := some (m.now + 1000000000 + 250000000 * m.domain) } }
          m.refLost x.offset false
        else m

/-- KEEPER_START (R420): a FOLLOWER that heard no serving domain by its moment serves as keeper. -/
def execKeeperStart (t : Nat) (s : State) : Host.Outcome State Fault Refusal :=
  s.does fun m =>
    let m := m.start t
    match m.time.keeperAt with
    | some x =>
      if x ≤ m.now && m.followsLine && m.time.begun && m.time.lineM.isNone then
        { m with time := { m.time with keeper := true, keeperAt := none } }
      else m
    | none => m

/-- LT_WAIT_EXPIRY (R421): no serving domain was heard, so line time begins at L0 and the program restarts. -/
def execLtWaitExpiry (t : Nat) (s : State) : Host.Outcome State Fault Refusal :=
  s.doesPair fun m =>
    let m := m.start t
    match m.time.waitFrom, m.timeRec with
    | some x, some r =>
      if !m.time.begun && decide (x + r.ltWaitS * 1000000000 ≤ m.now) then
        (m.beginLine (max m.time.l0 m.ownL0 * secUnits) .free).startProgram
      else m
    | _, _ => m

/-- TIME_MSG_TIMEOUT (R426): a shadow without a TIME message for 1 ms has lost step. A lost Hallway is handled
under R463 alone. -/
def execTimeMsgTimeout (t : Nat) (s : State) : Host.Outcome State Fault Refusal :=
  s.doesPair fun m =>
    let m := m.start t
    if m.pair.role = .shadow && m.hall.link = .up && decide (m.time.lastTimeMsg + 1000000 ≤ m.now) then m.lostStep else m

/-- DELAY_REQ_TIMER (R431): a follower asks its line master once per second, instance X its grandmaster at the
interval that it set. -/
def execDelayReqTimer (t : Nat) (ext : Bool) (s : State) : Host.Outcome State Fault Refusal :=
  s.does fun m =>
    let m := m.start t
    match m.timeRec with
    | none => m
    | some r =>
      if ext then
        if m.takesExt && m.time.extM.isSome then
          m.emit (.delayReq true (if r.extSrc = .peer then m.peerPort.getD 0 else 4) r.xPtpDom)
        else m
      else if m.followsLine && m.time.lineM.isSome then m.emit (.delayReq false (m.peerPort.getD 0) r.ltPtpDom)
      else m

/-! ### TIME.STATUS and the TIME message (R442, R500) -/

/-- The code of a line time state (R442). -/
def LtState.code : LtState → Nat
  | .none => 0 | .waiting => 1 | .free => 2 | .locked => 3 | .holdover => 4 | .tracking => 5

/-- The code of a calendar state (R442). -/
def CalState.code : CalState → Nat
  | .unset => 0 | .acquiring => 1 | .locked => 2 | .holdover => 3 | .refused => 4 | .tracking => 5

/-- TIME.STATUS (R442); UNCAL marks the ports with generic optic values. -/
def Mod.timeStatus (m : Mod) : Nat :=
  let t := m.time
  let qual : Bool := match t.extM with | some x => x.qual | none => false
  let uncal := (List.range 4).foldl (fun n p =>
    n + bit (m.portRole p ≠ .unused && !(tabGet t.ports PortTime.zero p).opticOk) * 2 ^ (4 + p)) 0
  t.lt.code * 2 ^ 28 + t.calSt.code * 2 ^ 24 + bit t.calValid * 2 ^ 23 + bit t.phaseFar * 2 ^ 22 + bit t.refused * 2 ^ 21
    + bit m.serves * 2 ^ 20 + bit t.keeper * 2 ^ 19 + bit qual * 2 ^ 18 + t.masterDom % 256 * 256 + uncal

/-- The owner's TIME message (R500, R509). -/
def Mod.sendTime (m : Mod) : Mod :=
  if m.controls then
    let lt := m.lt
    m.hallSend 0 fun h => .mTime h (timeVal lt) (timeVal m.cal) m.time.line.rate m.time.cal.rate
      (BitVec.ofNat 32 (m.timeStatus / 2 ^ 16 * 2 ^ 16)) m.hall.delayPs ⟨0, 0, 0⟩
  else m

end Sys2Proof.Machine
end

