-- ==== Sys2Proof/Machine/Pantry.lean ====
section
/-! DEFINITION. The process image: generations and their close, substitutes, replay, publication (R246-R272),
acknowledgement of records (R290), paths (R305), the start of a station (R298-R302). -/
namespace Sys2Proof

/-- The ranges of a class in the output images, by area and offset (R93, R148); the error tasks are one writer. -/
def Image.outRanges (i : Image) (c : Nat) : List Range :=
  let mine := i.writers.filter fun w => w.cls = c || (6 ≤ w.cls && 6 ≤ c)
  (mine.foldl (fun (t : Machine.Tab Range) w =>
    Machine.tabSet t ((if w.range.area = .axOut then 2 ^ 24 else 0) + w.range.start) w.range) []).map Prod.snd

/-- OUT_END and IN_START of a port (R313). -/
def Image.interval (i : Image) (p : Nat) : Nat × Nat :=
  let x := i.proof.ports.getD p (0, 0, 0)
  (x.1, x.2.1)

/-- O_p of a port in ns (R313, R318). -/
def Image.opNs (i : Image) (p : Nat) : Nat := 10 * i.oP.getD p 0

end Sys2Proof

namespace Sys2Proof.Machine

/-! ### Publication (R265) -/

/-- Copies byte ranges from one image into another. -/
def Areas.paste (dst src : Areas) (rs : List Range) : Areas := rs.foldl (fun d r => src.copyRange d r) dst

/-- Publishes byte ranges: into both copies, or while a build runs into the other copy at once (R265). -/
def Mod.publish (m : Mod) (data : Areas) (rs : List Range) : Mod :=
  let p := m.pantry
  let n := m.sched.tick
  if m.sched.built && !m.sched.buildEnd then
    { m with pantry := { p.setOut (n + 1) ((p.outCopy (n + 1)).paste data rs) with late := p.late ++ [⟨data, rs⟩] } }
  else { m with pantry := { p with out0 := p.out0.paste data rs, out1 := p.out1.paste data rs } }

/-- The build of the tick has ended: publications that waited reach its copy (R265). -/
def Mod.endBuild (m : Mod) : Mod :=
  let p := m.pantry
  let n := m.sched.tick
  let a := p.late.foldl (fun a l => a.paste l.data l.ranges) (p.outCopy n)
  { m with
    sched := { m.sched with buildEnd := true }
    pantry := { p.setOut n a with late := [], lastBuild := n % 2 = 1 } }

/-! ### Generations (R249, R256, R260) -/

/-- The buffer of a generation (R249). -/
def Pantry.buf (p : Pantry) (n : Nat) : Areas :=
  match n % 3 with | 0 => p.buf0 | 1 => p.buf1 | _ => p.buf2

/-- Replaces the buffer of a generation. -/
def Pantry.setBuf (p : Pantry) (n : Nat) (a : Areas) : Pantry :=
  match n % 3 with | 0 => { p with buf0 := a } | 1 => { p with buf1 := a } | _ => { p with buf2 := a }

/-- The configured stations of the running image. -/
def Mod.stations (m : Mod) : List StationRec := match m.prog.image with | some i => i.stations | none => []

/-- The stations whose SUBST is set. -/
def Mod.substNow (m : Mod) : List Nat :=
  (m.stations.filter fun r => (m.stn r.station).subst).map StationRec.station

/-- The stations whose substitutes a generation carries, as it closes: with the bytes that readers see, or none for HOLD, whose
bytes the buffer holds (R258, R260). -/
def Mod.substSet (m : Mod) : List (Nat × Option (List Byte)) :=
  (m.stations.filter fun r => (m.stn r.station).subst).map fun r =>
    (r.station, match r.mode with | .hold => none | .zero => some [] | .configured => some r.subst)

/-- The bytes with the substitutes of stations inserted as a reader reads (R260). -/
def withSubst (img : Image) (a : Areas) (subs : List (Nat × Option (List Byte))) : Areas :=
  subs.foldl (fun a s => match s.2 with | some bs => a.scatter (img.ranges s.1 false) bs | none => a) a

/-- The current generation as every reader sees it (R256, R260). -/
def Mod.current (m : Mod) : Areas :=
  match m.prog.image with
  | some i => withSubst i (m.pantry.buf m.sched.tick) m.pantry.curSubst
  | none => m.pantry.buf m.sched.tick

/-- The previous generation as Savis reads see it (R256, R260, R264). -/
def Mod.previous (m : Mod) : Areas :=
  let img := match m.pantry.oldCfg with | some o => some o | none => m.prog.image
  match img with
  | some i => withSubst i (m.pantry.buf (m.sched.tick + 2)) m.pantry.prevSubst
  | none => m.pantry.buf (m.sched.tick + 2)

/-- An online change that starts a station again (R303): its record or its segment's intervals differ. -/
def stationRestarts (old new : Image) (a b : StationRec) : Bool :=
  let p := a.station / 512
  !(a.ks == b.ks && a.latchNs == b.latchNs && a.txNs == b.txNs && a.applyNs == b.applyNs && a.wdUs == b.wdUs
    && a.inLen == b.inLen && a.outLen == b.outLen && a.param == b.param
    && old.oP.getD p 0 == new.oP.getD p 0 && old.interval p == new.interval p)

/-- The stations of a new image that a change starts again (R303). -/
def restarted (old new : Image) : List StationRec :=
  new.stations.filter fun b =>
    match old.station b.station with
    | some a => stationRestarts old new a b
    | none => false

/-- The bytes of a generation moved from the layout of one image to that of another (R264): those of each station that goes
on, the peer blocks, the analogue block and the validity map; every other byte is zero. -/
def relayout (old new : Image) (a : Areas) : Areas :=
  let again := (restarted old new).map StationRec.station
  let b := new.stations.foldl (fun b r =>
    if again.contains r.station then b
    else
      match old.station r.station with
      | some _ => b.scatter (new.ranges r.station false) (a.gather (old.ranges r.station false))
      | none => b) Areas.zero
  let b := { b with imgIn := memCopy a.imgIn b.imgIn 0xFFF00 256 }
  let b := match old.analogue, new.analogue with
    | some x, some y => { b with imgIn := memWrite b.imgIn y.anaOfs (memRead a.imgIn x.anaOfs 256) }
    | _, _ => b
  match old.peer, new.peer with
  | some x, some y =>
    y.srcs.foldl (fun b s =>
      match x.srcs.find? fun o => o.domain = s.domain with
      | some o => { b with imgIn := memWrite b.imgIn s.start (padTo s.len (memRead a.imgIn o.start o.len)) }
      | none => b) b
  | _, _ => b

/-- What readers of the generation of a change tick see in place of its buffer's bytes (R264): the substitutes that its sample
point decided, and the bytes of each station that starts again, whose own bytes the new layout no longer holds. -/
def carrySubst (old new : Image) (a : Areas) (subs : List (Nat × Option (List Byte))) : List (Nat × Option (List Byte)) :=
  let again := (restarted old new).map StationRec.station
  (subs.filter fun s => !again.contains s.1 && (new.station s.1).isSome) ++ again.map fun k =>
    (k, some (match subs.find? fun s => s.1 = k with
      | some (_, some bs) => bs
      | _ => a.gather (old.ranges k false)))

/-- Puts a payload into a buffer at a station's offsets. -/
def Mod.enter (m : Mod) (gen stn : Nat) (bytes : List Byte) : Mod :=
  match m.prog.image with
  | some i => { m with pantry := m.pantry.setBuf gen ((m.pantry.buf gen).scatter (i.ranges stn false) bytes) }
  | none => m

/-- The station slot of a parity (R253). -/
def Stn.slot (s : Stn) (n : Nat) : Option Kept := if n % 2 = 0 then s.slot0 else s.slot1

/-- Replaces a station slot. -/
def Stn.setSlot (s : Stn) (k : Kept) : Stn :=
  if k.gen % 2 = 0 then { s with slot0 := some k } else { s with slot1 := some k }

/-- Puts an accepted payload into the station's slot and into the open buffer (R253). -/
def Mod.enterPayload (m : Mod) (stn : Nat) (k : Kept) : Mod :=
  (m.setStn stn fun s =>
    { s.setSlot k with gotGen := some k.gen, ackTick := some (leNat (k.status.take 4))
                       reported := (k.status.getD 4 0).toNat }).enter k.gen stn k.bytes

/-! ### Starting a station (R298-R302) -/

/-- The 1,400-byte parts of a parameter block, at least one (R299). -/
def paramParts (bs : List Byte) : Nat → List (List Byte)
  | 0 => []
  | n + 1 => bs.take 1400 :: paramParts (bs.drop 1400) n

/-- The parts that a block has. -/
def numParts (bs : List Byte) : Nat := max 1 ((bs.length + 1399) / 1400)

/-- The payload of a START (R299). -/
def startPayload (i : Image) (r : StationRec) (ver part nparts : Nat) (reval : Bool) (chunk : List Byte) : List Byte :=
  let iv := i.interval (r.station / 512)
  leBytes ver 1 ++ leBytes (if reval then 2 else 1) 1 ++ leBytes part 1 ++ leBytes nparts 1 ++ leBytes r.ks 2 ++ [0, 0]
    ++ leBytes r.wdUs 4 ++ leBytes r.latchNs 4 ++ leBytes r.txNs 4 ++ leBytes r.applyNs 4
    ++ leBytes r.paramDig.toNat 4 ++ leBytes iv.1 4 ++ leBytes iv.2 4 ++ [0, 0, 0, 0] ++ chunk

/-- Puts one frame of a START into the launch queue; without a free entry it is not sent, and the timeout of the
step sends again. -/
def Mod.sendPart (m : Mod) (r : StationRec) (payload : List Byte) : Mod :=
  let s := m.stn r.station
  let (f, m') := m.tspFrame (r.station / 512) s.ver 7 (stnAddr r.station).toNat m.sched.tick payload
  match m'.putFrame (r.station / 512) r.station 0 s.relayed f with
  | some m => m
  | none => m

/-- Sends START, all parts or the one of a revalidation (R299, R300, R302). -/
def Mod.sendStart (m : Mod) (r : StationRec) (reval : Bool) (sends : Nat) : Mod :=
  match m.prog.image with
  | none => m
  | some i =>
    let s := m.stn r.station
    let m := m.setStn r.station fun s => { s with reval := reval, sends := sends, sentAt := m.ltNs }
    if reval then m.sendPart r (startPayload i r s.ver 0 0 true [])
    else
      let n := numParts r.param
      (tabOf 0 (paramParts r.param n)).foldl (fun m p =>
        m.sendPart r (startPayload i r s.ver p.1 n false p.2)) m

/-- Changes a station's TSP state and tells the shadow (R272). -/
def Mod.tspState (m : Mod) (stn : Nat) (st : TspState) : Mod :=
  (m.setStn stn fun s => { s with state := st }).stnState stn

/-- Begins a revalidation (R300, R302): a station in RUN stays in RUN. -/
def Mod.revalidate (m : Mod) (r : StationRec) : Mod :=
  let m := if (m.stn r.station).state = .run then m else m.tspState r.station .revalidating
  m.sendStart r true 1

/-! ### The sample point (R254, R259, R261, R290, R305) -/

/-- Changes the launch queue entry that a record left in, if it still holds it. -/
def Mod.markEntry (m : Mod) (d : AckDue) (st : Nat) : Mod :=
  let f (q : Tab TxEntry) : Tab TxEntry :=
    match tabFind q d.entry with
    | some e => if e.tick + 1 = d.recTick then tabSet q d.entry { e with state := st } else q
    | none => q
  m.setPort d.port fun p => if 768 ≤ d.entry then { p with relayQ := f p.relayQ } else { p with txq := f p.txq }

/-- Checks the records due at a sample point (R290). -/
def Mod.checkAcks (m : Mod) (stn n : Nat) : Mod :=
  let s := m.stn stn
  let due := s.due.filter fun d => d.tick = n
  let m := m.setStn stn fun s => { s with due := s.due.filter fun d => decide (n < d.tick) }
  due.foldl (fun m d =>
    let s := m.stn stn
    if s.gotGen = some n && s.ackTick = some (d.recTick % 2 ^ 32) then m.setStn stn fun s => { s with nackRun := false }
    else
      let first := !s.nackRun
      let m := (m.markEntry d 4).setStn stn fun s => { s with notAcked := inc32 s.notAcked, nackRun := true }
      if first then m.raiseStn stn 4 0 else m) m

/-- Sets a station's path at a sample point (R305). -/
def Stn.takePath (s : Stn) (n : Nat) : Stn :=
  { s with path := if s.ownGen = some n then .own else if s.relGen = some n then .relay else s.path }

/-- The owner tells a joiner the bytes that a HOLD substitute gives (R512). -/
def Mod.sendHeld (m : Mod) (n : Nat) (r : StationRec) : Mod :=
  if m.pair.role = .owner && (m.hall.join = .first || m.hall.join = .converge || m.hall.join = .wait) && r.mode = .hold then
    match m.prog.image with
    | some i => m.hallSend 3 fun h => .mHeld h r.station n ((m.pantry.buf (n + 2)).gather (i.ranges r.station false))
    | none => m
  else m

/-- One expected station at the sample point of tick n, decided by this module (R254, R259, R261, R262). -/
def Mod.closeStation (m : Mod) (n : Nat) (r : StationRec) : Mod :=
  let k := r.station
  let m := m.setStn k fun s => s.takePath n
  let m := if (m.stn k).state = .run then m.checkAcks k n else m.setStn k fun s => { s with due := [] }
  let s := m.stn k
  let got := decide (s.gotGen = some n)
  if s.dropped then
    if s.revalDone && got then
      m.setStn k fun s => { s with dropped := false, subst := false, revalDone := false, missRun := 0, goodRun := 0
                                   lastTick := n, valid := true }
    else
      let g := if s.goodGen = some n then s.goodRun + 1 else 0
      let m := if g ≠ s.goodRun then { m with pantry := { m.pantry with good := m.pantry.good ++ [k] } } else m
      let m := m.setStn k fun s => { s with subst := true, valid := false, goodRun := g }
      if 8 ≤ g && s.started && s.state = .starting then m.revalidate r else m
  else if got then
    m.setStn k fun s => { s with subst := false, missRun := 0, lastTick := n, valid := true }
  else
    let m := if s.subst then m else m.sendHeld n r
    let m := m.setStn k fun s => { s with subst := true, valid := false, missRun := s.missRun + 1 }
    let m := { m with pantry := { m.pantry with misses := inc32 m.pantry.misses } }
    let m := if s.missRun = 0 then m.raiseStn k 1 0 else m
    if s.missRun + 1 = r.limit then
      let m := m.setStn k fun s => { s with dropped := true, goodRun := 0, revalDone := false, due := [] }
      let m := m.raiseStn k 2 0
      let m := m.endAll k .failedStation
      let s := m.stn k
      if s.state = .run || s.state = .revalidating then m.tspState k .starting else m
    else m

/-- A station that is not in RUN holds no item past a check (R310). -/
def Mod.dropItems (m : Mod) (k : Nat) : Mod :=
  if (m.stn k).state = .run then m else m.endAll k .failedStation

/-- The 256 bytes of the validity map (R246). -/
def Mod.validMap (m : Mod) : List Byte :=
  let on := (m.stations.filter fun r => (m.stn r.station).valid).map StationRec.station
  (List.range 256).map fun k =>
    BitVec.ofNat 8 ((List.range 8).foldl (fun v b => if on.contains (8 * k + b) then v + 2 ^ b else v) 0)

/-- Writes the validity map and the analogue block of the frozen set into the generation that closes (R246, R388). -/
def Mod.stampGen (m : Mod) (n : Nat) (ana : List Byte) : Mod :=
  let a := m.pantry.buf n
  let img := memWrite a.imgIn 0xFFF00 m.validMap
  let img := match m.ana with
    | some x => memWrite img x.anaOfs (padTo 256 ana)
    | none => img
  { m with pantry := m.pantry.setBuf n { a with imgIn := img } }

/-- The peer sources are one tick older (R323). -/
def Mod.agePeers (m : Mod) : Mod :=
  { m with pantry := { m.pantry with peers := tabMap (fun _ p =>
      if p.valid then { p with age := min (p.age + 1) 0x7FFFFFFF } else p) m.pantry.peers } }

/-- The deciding module closes generation n (R254). -/
def Mod.closeGen (m : Mod) (n : Nat) : Mod :=
  let m := { m with pantry := { m.pantry with good := [] } }
  let m := (m.stations.filter fun r => n % r.ks = 0).foldl (fun m r => m.closeStation n r) m
  (m.pantry.stns.map Prod.fst).foldl Mod.dropItems m

/-- A shadow closes generation n by the owner's record (R272): the stations with SUBST, those whose payloads
entered, and the GOOD_RUN of dropped ones. -/
def Mod.applyClose (m : Mod) (n : Nat) (subst entered : List Nat) (good : List (Nat × Nat)) : Mod :=
  m.stations.foldl (fun m r =>
    let k := r.station
    let m := if n % r.ks = 0 then m.setStn k fun s => s.takePath n else m
    let got := entered.contains k
    let sub := subst.contains k
    let expected := decide (n % r.ks = 0)
    m.setStn k fun s =>
      let s := { s with subst := sub, valid := if expected then got && !sub else s.valid
                        lastTick := if got then n else s.lastTick
                        goodRun := match good.find? fun g => g.1 = k with | some g => g.2 | none => s.goodRun }
      if !expected then s
      else if !sub then { s with missRun := 0, dropped := false, revalDone := false }
      else if s.dropped then s
      else { s with missRun := s.missRun + 1, dropped := decide (r.limit ≤ s.missRun + 1) }) m

/-- A shadow holds the close record, the sampled set and every payload named for generation n (R272). -/
def Mod.genComplete (m : Mod) (n : Nat) : Bool :=
  match m.pantry.closes.find? fun c => c.1 = n with
  | some (_, _, entered, _) =>
    (m.hall.samples.any fun f => f.tick = n) &&
      entered.all fun k => m.pantry.payloads.any fun p => p.1 = n && p.2.1 = k
  | none => false

/-- Enters the forwarded payloads of generation n (R272). -/
def Mod.enterForwarded (m : Mod) (n : Nat) : Mod :=
  let mine := m.pantry.payloads.filter fun p => p.1 = n
  let m := mine.foldl (fun m p => m.enterPayload p.2.1 ⟨n, p.2.2.1, p.2.2.2⟩) m
  { m with pantry := { m.pantry with payloads := m.pantry.payloads.filter fun p => decide (n < p.1)
                                     closes := m.pantry.closes.filter fun c => decide (n < c.1) } }

/-- A new decider closes generation n from its standby copies (R465): those taken for n enter. -/
def Mod.enterStandby (m : Mod) (n : Nat) : Mod :=
  m.stations.foldl (fun m r =>
    let s := m.stn r.station
    match s.standby with
    | some k =>
      if k.gen = n then
        let m := m.setStn r.station fun s => { s with goodGen := some n }
        if s.gotGen = some n then m
        else if !s.dropped || s.revalDone then m.enterPayload r.station k
        else m
      else m
    | none => m) m

/-! ### Replay (R255) -/

/-- Brings the reopened buffer up to date, with a peer block that came too late for the generation before (R317); the number of bytes replayed is kept as a maximum (R255, R274). -/
def Mod.replay (m : Mod) : Mod :=
  let n := m.sched.tick
  match m.prog.image with
  | none => m
  | some i =>
    let step (x : Mod × Nat) (r : StationRec) : Mod × Nat :=
      let s := x.1.stn r.station
      let recent := (s.lastTick = n || s.lastTick + 1 = n) && s.gotGen ≠ some (n + 1)
      match s.slot s.lastTick with
      | some k =>
        if recent && k.gen = s.lastTick then
          (x.1.enter (n + 1) r.station k.bytes, x.2 + (i.ranges r.station false).foldl (fun t q => t + q.len) 0)
        else x
      | none => x
    let x := m.stations.foldl step (m, 0)
    let peer (x : Mod × Nat) (s : PeerSrc) : Mod × Nat :=
      let p := tabGet x.1.pantry.peers Peer.zero s.domain
      if p.gen = some n || p.gen.map (· + 1) = some n || p.gen = some (n + 1) then
        let a := x.1.pantry.buf (n + 1)
        let b : Areas := { a with imgIn := memWrite a.imgIn s.start (padTo s.len p.block) }
        ({ x.1 with pantry := x.1.pantry.setBuf (n + 1) b }, x.2 + s.len)
      else x
    let x := (match i.peer with | some c => c.srcs | none => []).foldl peer x
    { x.1 with pantry := { x.1.pantry with replayMax := max x.1.pantry.replayMax x.2 } }

end Sys2Proof.Machine
end

