-- ==== Sys2Proof/Machine/Change.lean ====
section
/-! DEFINITION. Pair mode and what a change of it ends (R183-R186), online changes (R194-R198, R264, R303, R357). -/
namespace Sys2Proof.Machine

/-! ### Ending a change (R198) -/

/-- Takes a CHANGE that is queued and not in writing out of the append queue, and cancels a written one (R528,
R533). -/
def Mod.cancelRecord (m : Mod) (reason : Nat) : Mod :=
  let isChange (a : Append) : Bool := match a.body with | .change _ _ _ _ => true | _ => false
  let q := match m.card.queue with
    | [] => []
    | a :: rest => a :: rest.filter fun x => !isChange x
  let m := { m with card := { m.card with queue := q } }
  if m.prog.cardStaged then
    match (m.card.card.bind fun c => cardScan c none).bind CardScan.changeSeq with
    | some n => m.cardAppend (.cancel n reason) none none
    | none => m
  else m

/-- Ends a change that is not yet applied (R186, R195, R198): nothing in the running program changes. -/
def Mod.dropChange (m : Mod) (st : ChgState) (o : Outc) (reason : Nat) : Mod :=
  match m.prog.chgState with
  | .checking | .staged =>
    let key := m.prog.chgKey
    let m := m.cancelRecord reason
    let m := { m with prog := { m.prog with
      chgState := st, chgReason := reason, chgKey := none, staged := none, lanesStaged := false
      cardStaged := false, remapped := false, remapRet := [], go := none
      partnerVerdict := none } }
    m.finish? key o 0 []
  | _ => m

/-- Ends a whole-image load that has not replaced the program. -/
def Mod.dropLoad (m : Mod) (o : Outc) : Mod :=
  if m.prog.load.isNone then m
  else
    let key := m.prog.restartKey
    let stop : Bool := match m.card.comp with | some c => c.kind = .load | none => false
    let m := { m with prog := { m.prog with load := none, loadMapped := false, restartKey := none
                                            chgState := ChgState.discarded, chgReason := 0x0C }
                      card := { m.card with comp := if stop then none else m.card.comp
                                            retryAt := if stop then none else m.card.retryAt } }
    m.finish? key o 0 []

/-! ### Pair mode (R183, R186, R483) -/

/-- The partner's key counts (R183, R213). -/
def Mod.partnerKeyed (m : Mod) : Bool :=
  m.hall.link = .up && (match m.pair.partner with
    | some .owner | some .shadow | some .joining => true
    | _ => false)

/-- The pair mode of the two keys (R183). -/
def Mod.keyMode (m : Mod) : KeyPos :=
  if m.partnerKeyed && decide (m.pair.partnerKey.rank < m.prog.ownKey.rank) then m.pair.partnerKey else m.prog.ownKey

/-- Queues KEY_DIFFER at the onset of a difference of the keys (R483). -/
def Mod.keyDiffer (m : Mod) : Mod :=
  let d := m.hall.link = .up && m.pair.partner.isSome && decide (m.prog.ownKey ≠ m.pair.partnerKey)
  let onset := d && !m.pair.keyDiffer
  let m := { m with pair := { m.pair with keyDiffer := d } }
  if onset && m.pair.role = .owner then m.raisePair 5 0 else m

/-- A pair mode takes effect and ends what it does not allow (R184, R186, R400, R614, R621). -/
def Mod.newPairMode (m : Mod) (k : KeyPos) : Mod :=
  if m.prog.pairKey = k then m
  else
    let m := { m with prog := { m.prog with pairKey := k } }
    let m := if k = .service then m
      else { (m.abortRot .failedTimeout).quitDebug with conv := { m.conv with trim := none } }
    let edits := k = .edit || k = .service
    let m := if edits then m
      else
        let m := (m.dropChange .discarded .rejectedAccess 0x0C).endPlan .failed .rejectedAccess
        let waits := m.conv.trimWait
        waits.foldl (fun m w => m.finish w.key .rejectedAccess 0 [])
          { m with conv := { m.conv with trimWait := [] } }
    let gone := m.savis.upload.any fun u => if u.load then decide (k ≠ .halt) else !edits
    let m := if gone then { m with savis := { m.savis with upload := none } } else m
    if k = .halt then m else m.dropLoad .rejectedAccess

/-! ### Times of a tick by the proof record (R57, R58), in sixths of a ns -/

/-- The bytes of a class's release copy (R49, R147). -/
def copyBytes (i : Image) (c : Nat) : Nat :=
  (i.cls c).reads.foldl (fun n r => n + r.len) 0 + (if (i.cls c).mtable then 1024 else 0)

/-- Lane cycles at 1.2 GHz (R57). -/
def sagCycles (n : Nat) : Nat := 5 * n

/-- t_rel: 0.8 µs and the M input set at 51.2 bytes per ns (R48). -/
def tRel (i : Image) : Nat := 4800 + (copyBytes i 0 * 30 + 255) / 256

/-- When the cyclic work of a tick has ended at the latest, with F classes released at it (R58). -/
def cyclicEnd (i : Image) (released : List Nat) : Nat :=
  let f := (released.filter fun c => 1 ≤ c ∧ c ≤ 4).foldl (fun n c => n + i.proof.cF.getD (c - 1) 0) 0
  tRel i + sagCycles (max (i.proof.cM + f) i.proof.cLsu + 2 * i.delta) + 1800

/-- A motion tick. -/
def tickSixths (i : Image) : Nat := 6 * i.tickNs

/-- The change set of the waiting change in bytes (R195). -/
def Mod.changeBytes (m : Mod) (new : Image) : Nat :=
  match m.prog.image, m.leader with
  | some old, some x =>
    match remap old new (m.lane x).inst with
    | .ok r => r.bytes
    | .error _ => 0
  | _, _ => 0

/-- No cyclic class and no error task has an execution open. -/
def Mod.cyclicDone (m : Mod) : Bool :=
  !(m.sched.runs.any fun p => p.2.running && p.1 ≠ 5) && m.prog.errRun.isEmpty && m.sched.toCopy.all fun c => c = 5

/-! ### The change tick (R196, R264, R303, R357, R379) -/

/-- The LSU state under a new axis section: masters and axes of both carry by number (R357). -/
def lsuCarry (c : AxisCfg) (l : Lsu) : Lsu :=
  let z := lsuInit c
  { l with
    masters := tabMap (fun k s => (tabFind l.masters k).getD s) z.masters
    axes := tabMap (fun k s => (tabFind l.axes k).getD s) z.axes
    cmps := l.cmps.filter fun p => c.cmps.any fun r => r.unit = p.1 }

/-- The stations under a new image (R264, R303). -/
def Mod.carryStations (m : Mod) (old new : Image) : Mod :=
  let gone := old.stations.filter fun a =>
    match new.station a.station with
    | some b => stationRestarts old new a b
    | none => true
  let m := gone.foldl (fun m a => m.endAll a.station .failedStation) m
  gone.foldl (fun m a =>
    { m with pantry := { m.pantry with stns := tabDel m.pantry.stns a.station } }) m

/-- The running image is replaced at its change tick n (R196). -/
def Mod.swapImage (m : Mod) (n : Nat) : Mod :=
  match m.prog.image, m.prog.staged with
  | some old, some new =>
    let m := m.carryStations old new
    let p := m.pantry
    let cur := carrySubst old new (p.buf n) p.curSubst
    let p := (p.setBuf n (relayout old new (p.buf n))).setBuf (n + 1) (relayout old new (p.buf (n + 1)))
    let m := { m with pantry := { p with oldCfg := some old, curSubst := cur } }
    let m := m.allLane fun l =>
      { l with ctxs := tabDel l.ctxs 5, gates := []
               lsu := match new.axis with | some c => lsuCarry c l.lsu | none => Lsu.zero }
    let m := m.setRun 5 fun r => { r with running := false }
    let ret := m.prog.remapRet
    let m := { m.reflexNow with
      prog := { m.prog with
        image := some new, staged := none, chgState := .applied, chgReason := 0, chgTick := n % 2 ^ 32
        changes := inc32 m.prog.changes, lanesStaged := false, cardStaged := false, remapped := false
        remapRet := [], go := none, partnerVerdict := none }
      conv := m.conv.change old new
      wins := winsChange old.analogue new.analogue m.wins }
    let m := { m with reflex := m.reflex.change new.reflex }
    if ret.isEmpty then m else m.atticTake 0 n ret
  | _, _ => m

/-- The open generation of the tick after a change takes the new layout as it reopens (R264). -/
def Mod.finishLayout (m : Mod) (n : Nat) : Mod :=
  match m.pantry.oldCfg, m.prog.image with
  | some old, some new =>
    let p := m.pantry
    { m with pantry := { p.setBuf (n + 1) (relayout old new (p.buf (n + 1))) with oldCfg := none } }
  | _, _ => m

/-- The remap of every lane in service in the tick before the change (R196, R197). -/
def Mod.remapLanes (m : Mod) : Mod :=
  match m.prog.image, m.prog.staged with
  | some old, some new =>
    let m := match m.leader with
      | some x =>
        match remap old new (m.lane x).inst with
        | .ok r => { m with prog := { m.prog with remapRet := remapRetained old new r } }
        | .error _ => m
      | none => m
    let m := m.allLane fun l =>
      if l.inService then
        match remap old new l.inst with
        | .ok r => { l with inst := r.inst }
        | .error _ => l
      else l
    { m with prog := { m.prog with remapped := true } }
  | _, _ => m

end Sys2Proof.Machine
end

