-- ==== Sys2Proof/Machine/Tick.lean ====
section
/-! DEFINITION. TICK_EDGE: sample point, freeze, releases, skips, overruns, halts, switch ticks and change ticks
(R43-R68, R84, R177-R198, R231, R254, R433, R466, R478, R479, R612). -/
namespace Sys2Proof

/-- The cyclic classes whose release falls due at tick n (R47). -/
def Image.dueAt (i : Image) (n : Nat) : List Nat :=
  [0, 1, 2, 3, 4].filter fun c => (i.cls c).en && n % i.k c = 0

end Sys2Proof

namespace Sys2Proof.Machine

/-! ### The sampled set (R84, R375, R388) -/

/-- LOOP[c].STATUS (R411). -/
def Mod.loopStatus (m : Mod) (c : Nat) : Nat :=
  let l := m.loop c
  bit (m.driving c) * 2 ^ 31 + bit l.compliance * 2 ^ 30 + bit l.deviation * 2 ^ 29 + bit l.neLow * 2 ^ 28
    + bit l.neHigh * 2 ^ 27 + bit l.range * 2 ^ 26 + bit l.rbValid * 2 ^ 25 + bit l.rbLinkErr * 2 ^ 24
    + bit l.cmdLimit * 2 ^ 23 + bit (m.underTrim c) * 2 ^ 22 + min l.devRun 255 * 256

/-- The code of a window state (R415). -/
def WinState.code : WinState → Nat
  | .unknown => 0 | .inside => 1 | .below => 2 | .above => 3

/-- The analogue block of the sampled set (R388). -/
def Mod.anaBlock (m : Mod) : List Byte :=
  ((List.range 32).flatMap fun e => leBytes (tabGet m.conv.lastPass 0 e).toNat 4)
    ++ ((List.range 8).flatMap fun c => leBytes (u32 (m.loop c).measNa) 4 ++ leBytes (m.loopStatus c) 4)
    ++ leBytes ((List.range 8).foldl (fun v w => v + (tabGet m.wins ⟨.unknown, 0⟩ w).state.code * 2 ^ (4 * w)) 0) 4
    ++ leBytes (bit m.conv.calValid * 2 ^ 31 + bit m.conv.calStarved * 2 ^ 30) 4
    ++ leBytes m.conv.lastPassTick 4 ++ List.replicate 52 0

/-- The outcomes that block code may still read (R170): a final one older than 60 s is gone. -/
def Mod.dropOutcomes (m : Mod) : Mod :=
  let old := (m.prog.reqEnd.filter fun p => decide (p.2 + 60000000000 ≤ m.now)).map Prod.fst
  if old.isEmpty then m
  else
    { m with prog := { m.prog with reqTab := m.prog.reqTab.filter fun p => !old.contains p.1
                                   reqEnd := m.prog.reqEnd.filter fun p => !old.contains p.1 } }

/-- Freezes the sampled set of tick n from the module's own sources (R84). -/
def Mod.freeze (m : Mod) (i : Image) (n : Nat) (rels skips : List Nat) (evs : List Event) (go : Option Nat) : Mod :=
  let m := (m.dropOutcomes).reflexNow
  let r := m.reflex
  let all := (List.range 16).map fun c => tabGet r.capNew [] c
  let lost := all.foldl (fun k l => k + (l.length - 8)) 0
  let f : Frozen :=
    { tick := n, lt := n * i.tickNs * 65536, pinsIn := r.pinsIn, pinsOut := r.pinsOut, cells := r.cells, arm := r.arm
      stamps := all.map fun l => l.drop (l.length - 8), lost := lost, key := m.prog.pairKey, skips := skips
      releases := rels, events := evs, ana := m.anaBlock, epoch := m.pair.epoch, go := go
      halted := m.prog.haltedTicks, rqst := m.prog.reqTab }
  { m with prog := { m.prog with frozen := f }
           reflex := { r with capNew := [], capLost := add32 r.capLost lost } }

/-! ### Who decides, and on whose timing (R54, R66, R465, R466, R479) -/

/-- The module decides on generations, releases and skips itself. -/
def Mod.decides (m : Mod) : Bool := (m.controls && !m.pair.shadowTiming) || m.pair.decider

/-- The edge of tick n runs 8 µs late: a shadow, or a new owner that completes tick q (R54, R466). -/
def Mod.lateEdge (m : Mod) (n : Nat) : Bool :=
  m.pair.shadowTiming && (match m.pair.fallTick with | some q => decide (n ≤ q) | none => true)

/-- The moment of line time at which tick n runs in this module, in ns. -/
def Mod.edgeAt (m : Mod) (i : Image) (n : Nat) : Nat := n * i.tickNs + (if m.lateEdge n then 8000 else 0)

/-! ### Releases (R47, R64-R68, R96, R179, R180, R185, R191, R192) -/

/-- The release of a class, B or an error task: its task clock (R192), FIRST (R191), FULL (R96), counts. -/
def ClsRun.release (r : ClsRun) (i : Image) (c n h : Nat) (warm : Bool) : ClsRun :=
  let k := i.k c
  let clk := match r.nPrev with
    | none => if warm then r.clk + k * i.tickNs else 0
    | some p => r.clk + (n - p - (h - r.hPrev)) * i.tickNs
  let full := if c < 5 then n / k % 16 = 0 || r.fullDue else r.execs % 16 = 0
  { r with running := true, relTick := n, first := !r.firstDone, firstDone := true, full := full, fullDue := false
           skips := 0, clk := clk % 2 ^ 64, nPrev := some n, hPrev := h, execs := r.execs + 1, ord := 0, ovr := false
           releases := if c = 5 then r.releases else inc32 r.releases }

/-- A skipped release (R64, R96). -/
def ClsRun.skip (r : ClsRun) (i : Image) (c n : Nat) : ClsRun :=
  { r with skips := r.skips + 1, skipped := inc32 r.skipped, fullDue := r.fullDue || decide (n / i.k c % 16 = 0) }

/-- Detects an overrun of a class (R68): once, with its event. -/
def Mod.overrun (m : Mod) (i : Image) (c skipped : Nat) : Mod :=
  let r := m.run c
  if r.ovr then m
  else
    let cx := if c = 0 then i.proof.cM else i.proof.cF.getD (c - 1) 0
    let m := m.setRun c fun r => { r with ovr := true, overruns := inc32 r.overruns }
    m.raise .overrun 1 (m.placeCls c) (leBytes r.relTick 8 ++ leBytes cx 4 ++ leBytes skipped 4)

/-- Releases one class at tick n. -/
def Mod.releaseCls (m : Mod) (i : Image) (c n : Nat) : Mod :=
  m.setRun c fun r => r.release i c n m.prog.haltedTicks (m.prog.restart = 2)

/-- The events of tick n become executions of error tasks, in queue order (R180); index 20 counts them all. -/
def Mod.queueErrors (m : Mod) (i : Image) (n : Nat) (evs : List Event) : Mod :=
  (tabOf 0 evs).foldl (fun m p =>
    let e := p.2
    let c := 6 + e.task.num
    let m := m.releaseCls i c n
    let all := m.run 20
    let m := m.setRun 20 fun r => { r with execs := r.execs + 1 }
    let r := m.run c
    let f := m.prog.frozen
    let snap : Snap := ⟨n, r.clk, r.first, f.key, f.lt, f.pinsIn, f.pinsOut, f.cells, f.rqst, some e, p.1,
      all.execs % 16 = 0, 0, 0⟩
    { m with prog := { m.prog with errRun := m.prog.errRun ++ [⟨n, m.prog.haltedTicks, e, snap, none⟩] } }) m

/-- Applies the release and skip decisions of the sampled set, its events with them (R66). -/
def Mod.applyReleases (m : Mod) (i : Image) (n : Nat) : Mod :=
  let f := m.prog.frozen
  let m := f.skips.foldl (fun m c =>
    let m := m.setRun c fun r => r.skip i c n
    if c = 0 then m else m.overrun i c 1) m
  let m := f.releases.foldl (fun m c => m.releaseCls i c n) m
  let m := m.queueErrors i n f.events
  { m with
    sched := { m.sched with lsuDue := i.axis.isSome && !m.test.halted }
    time := { m.time with released := m.time.released || !f.releases.isEmpty }
    prog := { m.prog with awaitFirst := m.prog.awaitFirst && f.releases.isEmpty
                          run := if m.prog.run = .starting && !f.releases.isEmpty then .running else m.prog.run } }

/-! ### HALT (R185, R331) -/

/-- Enters or leaves the halt of pair mode HALT at a tick n with n mod k_max = 0. -/
def Mod.keyHalt (m : Mod) (i : Image) (n : Nat) : Mod :=
  if n % i.kmax ≠ 0 then m
  else
    let ramp (on : Bool) (m : Mod) : Mod := m.allLane fun l => { l with lsu := { l.lsu with haltRamp := on } }
    if m.prog.pairKey = .halt then
      if m.prog.run = .running || m.prog.run = .starting then
        ramp true { m with prog := { m.prog with run := .haltedKey } }
      else m
    else if m.prog.run = .haltedKey then
      ramp false { m with prog := { m.prog with run := if m.prog.awaitFirst then .starting else .running } }
    else m

/-! ### Lanes at a tick edge (R105, R196, R612) -/

/-- The lanes in service stand at the same operation counts with nothing still to start. -/
def Mod.lanesAligned (m : Mod) : Bool :=
  match m.serving with
  | [] => true
  | x :: rest => rest.all fun y => (m.lane y).ops = (m.lane x).ops && (m.lane y).gates.isEmpty

/-- The next lane of a rotation test, or its end (R612). -/
def Mod.rotNext (m : Mod) (x : LaneId) : Mod :=
  if m.test.rot = .resync && m.test.rotLane = x then
    match m.test.rotLeft with
    | y :: rest => { m with test := { m.test with rotLane := y, rotLeft := rest, rot := .waitEdge } }
    | [] =>
      let key := m.test.rotKey
      let m := { m with test := { m.test with rot := .done, rotKey := none } }
      m.finish? key .done 0 (m.test.rotMsOf.flatMap fun ms => leBytes ms 4)
  else m

/-- A lane rejoins after its final pass: it starts with the others, every operation count zero (R105). -/
def Mod.rejoinLane (m : Mod) (x : LaneId) : Mod :=
  let d := m.lane ((m.serving).head?.getD .A)
  let m := m.setLane x fun l =>
    { l with mode := .serving, phase := .none, resyncs := inc32 l.resyncs, resyncUs := (m.now - l.outAt) / 1000
             marked := 0, poison := false, stopped := none, inst := d.inst, ctxs := d.ctxs, gates := [], dr := []
             lsu := d.lsu }
  let m := m.allLane fun l => { l with ops := [] }
  m.rotNext x

/-- The rejoins that fall at tick n (R105, R198). -/
def Mod.rejoinLanes (m : Mod) (i : Image) (n : Nat) (change : Bool) : Mod :=
  if n % i.kmax ≠ 0 || change || !m.lanesAligned || m.serving.isEmpty then m
  else (allLanes.filter fun x => (m.lane x).mode = .resync && (m.lane x).phase = .final).foldl Mod.rejoinLane m

/-- The lane under rotation test leaves the vote (R612): no upset. -/
def Mod.rotTakeOut (m : Mod) : Mod :=
  if m.test.rot = .waitEdge then
    let x := m.test.rotLane
    let m := m.setLane x fun l =>
      { l with mode := .test, cause := .rotation, phase := .none, outTick := m.sched.tick % 2 ^ 32, outAt := m.now
               power := false, ctxs := [], gates := [], dr := [], ops := [], stopped := none, poison := false }
    let m := (m.setPower (laneDomain x) false).joinDonor x
    let m := { m with test := { m.test with rot := .power, rotAt := m.now } }
    m.raiseLane x 1 .rotation 0 7 m.sched.tick 0xFFFFFFFF false
  else m

/-! ### Switchover and change (R196, R466, R478, R479) -/

/-- The LSU and every cyclic class of tick n end early enough by the proof record, and nothing else is open. -/
def Mod.tickClear (m : Mod) (i : Image) (rels : List Nat) (evs : List Event) (extra : Nat) : Bool :=
  !(m.sched.runs.any fun p => p.2.running && p.1 ≠ 5) && m.prog.errRun.isEmpty && evs.isEmpty
    && decide (cyclicEnd i rels + extra ≤ tickSixths i)

/-- The go decision of tick n: 2 for a planned switchover (R478), 1 for an online change (R196), at tick n + 1. -/
def Mod.goFor (m : Mod) (i : Image) (n : Nat) (rels : List Nat) (evs : List Event) : Option Nat :=
  if (n + 1) % i.kmax ≠ 0 then none
  else if m.pair.plan.st = .waiting && m.pair.role = .owner && 2 ≤ m.pair.pfl && m.tickClear i rels evs 60000 then some 2
  else
    match m.prog.chgState, m.prog.staged with
    | .staged, some new =>
      let quiet := allLanes.all fun x => (m.lane x).mode ≠ .resync && (m.lane x).mode ≠ .test
      if (n + 1) % new.kmax = 0 && quiet && m.tickClear i rels evs (6000 + sagCycles (200 + m.changeBytes new / 16)) then some 1
      else none
    | _, _ => none

/-- Takes note of a go decision in the sampled set (R196, R478). -/
def Mod.takeGo (m : Mod) (n : Nat) : Mod :=
  match m.prog.frozen.go with
  | some 1 => { m with prog := { m.prog with go := some (n + 1) } }
  | some 2 => { m with pair := { m.pair with plan := { m.pair.plan with st := .go, tick := some (n + 1) } } }
  | _ => m

/-- The switch tick of a planned switchover comes (R479): the deciding side changes. -/
def Mod.switchPoint (m : Mod) (n : Nat) : Mod :=
  if m.pair.plan.st = .go && m.pair.plan.tick = some n then
    if m.pair.role = .owner then { m with pair := { m.pair with shadowTiming := true } }
    else if m.pair.role = .shadow then { m with pair := { m.pair with decider := true, shadowTiming := false } }
    else m
  else m

/-- The first owner-timed tick after a takeover: a gap tick while M of tick q is not voted 1 µs before (R466). -/
def Mod.gapTick (m : Mod) (i : Image) (n : Nat) : Bool :=
  match m.pair.fallTick with
  | some q => n = q + 1 && !(!(m.run 0).running && decide (m.sched.mVoted + 1000 ≤ n * i.tickNs))
  | none => false

/-- The first owner-timed release after a takeover (R466, R489). -/
def Mod.takeoverRelease (m : Mod) (n : Nat) : Mod :=
  match m.pair.fallTick with
  | some q =>
    if n ≤ q then m
    else
      let gap := m.pair.gapTicks
      let m := { m with pair := { m.pair with fallTick := none, shadowTiming := false
                                              decider := m.pair.decider && !m.controls } }
      if m.pair.lastCause = 8 then m else m.raisePair 1 gap
  | none => m

/-! ### The tick edge -/

/-- All access units swap the sealed pending rule bank (R231, R233); a seal less than 1 µs before the edge waits for
the next one. -/
def Mod.swapBanks (m : Mod) : Mod :=
  let a := m.access
  if !a.sealed then m
  else if a.sealNext then
    { m with access := { a with active := a.pend, bank := !a.bank, sealed := false, sealNext := false, tableErr := []
                                swaps := inc32 a.swaps } }
  else { m with access := { a with sealNext := true } }

/-- LS Sync of every segment and LP Sync of a serving domain, on multiples of 62.5 ms (R431, R433, R445). -/
def Mod.sendSyncs (m : Mod) (i : Image) (n : Nat) : Mod :=
  if !m.controls || n * i.tickNs % 62500000 ≠ 0 then m
  else
    (tabOf 0 i.portRole).foldl (fun m p =>
      let at_ := match p.2 with
        | .segment => some (n * i.tickNs + (i.interval p.1).1 + 200)
        | .peer => if m.serves then some (n * i.tickNs + i.opNs p.1 + 9000) else none
        | .unused => none
      match at_ with
      | some u =>
        (m.setPortTime p.1 fun x => { x with syncTx := inc32 x.syncTx }).emit (.sync false p.1 i.time.ltPtpDom u)
      | none => m) m

/-- No class is released: a debug halt (R121), a single step within it, or pair mode HALT (R185). -/
def Mod.stopped (m : Mod) : Bool := m.test.halted || m.prog.run = .haltedDebug || m.prog.run = .haltedKey

/-- The releases and skips that the deciding module finds for tick n. -/
def Mod.decideReleases (m : Mod) (i : Image) (n : Nat) : List Nat × List Nat :=
  if m.stopped || m.gapTick i n then ([], [])
  else if m.prog.awaitFirst && n % i.kmax ≠ 0 then ([], [])
  else
    let due := i.dueAt n
    let b := if (i.cls 5).en && !(m.run 5).running then [5] else []
    (due.filter (fun c => !(m.run c).running) ++ b, due.filter fun c => (m.run c).running)

/-- The sampled set of tick n by this module's own decision, or the owner's as forwarded (R66, R84, R90). -/
def Mod.sampleSet (m : Mod) (i : Image) (n : Nat) (own : Bool) : Mod :=
  if own then
    let (rels, skips) := m.decideReleases i n
    let stop := m.stopped || m.gapTick i n || (m.prog.awaitFirst && n % i.kmax ≠ 0)
    let evs := if stop then [] else m.prog.events
    let m := if stop then m else { m with prog := { m.prog with events := [] } }
    m.freeze i n rels skips evs (m.goFor i n rels evs)
  else
    match m.hall.samples.find? fun f => f.tick = n with
    | some f =>
      { m.reflexNow with
        prog := { m.prog with frozen := f, reqTab := f.rqst, haltedTicks := f.halted }
        hall := { m.hall with samples := m.hall.samples.filter fun g => decide (n < g.tick) }
        reflex := { m.reflexNow.reflex with capNew := [] } }
    | none => m

/-- Counts a tick edge that falls in a halt (R192); the clocks of a test on an ALONE module may run on (R620). -/
def Mod.countHalt (m : Mod) : Mod :=
  let h := m.prog.run = .haltedKey || ((m.test.halted || m.prog.run = .haltedDebug) && !(m.test.clockReal && m.pair.role = .alone))
  if h then { m with prog := { m.prog with haltedTicks := m.prog.haltedTicks + 1 } } else m

/-- A shadow's cyclic class that the owner releases again while it still runs here has lost step (R66). -/
def Mod.shadowBehind (m : Mod) : Bool := m.prog.frozen.releases.any fun c => (m.run c).running

/-- Tick n begins (R48): sample point, freeze, releases. -/
def Mod.runTick (m : Mod) (i : Image) (n : Nat) : Mod :=
  let m := if m.sched.built && !m.sched.buildEnd then m.endBuild else m
  let m := m.switchPoint n
  let own := m.decides && !(m.lateEdge n && m.genComplete n)
  let held := (m.run 0).held
  let m := { m with
    sched := { m.sched with tick := n, built := false, buildEnd := false, toCopy := [] }
    pantry := { m.pantry with complete := false, prevSubst := m.pantry.curSubst } }
  let m := match held with
    | some a => if m.test.halted then m else (m.publish a (i.outRanges 0)).setRun 0 fun r => { r with held := none }
    | none => m
  let m := (m.swapBanks).calStepNow
  let m := if own then (m.enterStandby n).closeGen n
    else
      match m.pantry.closes.find? fun c => c.1 = n with
      | some (_, subst, entered, good) => (m.enterForwarded n).applyClose n subst entered good
      | none => m
  let m := { m with pantry := { m.pantry with curSubst := m.substSet } }
  let m := m.finishLayout n
  let mode : KeyPos :=
    if own then m.keyMode
    else match m.hall.samples.find? fun f => f.tick = n with | some f => f.key | none => m.prog.pairKey
  let m := (m.newPairMode mode).keyHalt i n
  let change : Bool := m.prog.go == some n && m.prog.remapped
  let m := if change then m.swapImage n else { m with prog := { m.prog with go := none } }
  let i := m.prog.image.getD i
  let m := (m.rejoinLanes i n change).rotTakeOut
  let m := m.countHalt
  let m := { m with pair := { m.pair with
    gapTicks := if m.gapTick i n then m.pair.gapTicks + 1 else m.pair.gapTicks } }
  let gap := m.gapTick i n
  let m := m.sampleSet i n own
  let m := (m.stampGen n m.prog.frozen.ana).agePeers
  if !own && m.shadowBehind then m.lostStep
  else
    let m := (m.applyReleases i n).takeGo n
    let m := if gap then m else m.takeoverRelease n
    let m := { m with conv := m.conv.nextPass (m.afeOn && i.analogue.isSome) n }
    (m.sendSyncs i n).sendTime

/-- The next tick runs once its edge has passed, in a module that follows once its data is complete (R48, R54). -/
def Mod.tryTick (m : Mod) : Mod :=
  match m.prog.image with
  | none => m.swapBanks
  | some i =>
    if !m.time.begun then m.swapBanks
    else if !m.sched.running then
      let n := m.ltNs / i.tickNs
      if m.sched.tick < n then ({ m with sched := { m.sched with tick := n } }).swapBanks else m
    else
      let n := m.sched.tick + 1
      let sw := m.switchPoint n
      if sw.edgeAt i n ≤ m.ltNs && (sw.decides || m.genComplete n) then m.runTick i n else m

end Sys2Proof.Machine
end

