-- ==== Sys2Proof/Machine/Release.lean ====
section
/-! DEFINITION. GENERATION_COMPLETE and RELEASE_COPY_DONE: publication of held outputs, forwarding, release copies,
the start of classes and error tasks in the lanes, the LSU run (R48-R50, R62, R82, R147, R148, R180, R342). -/
namespace Sys2Proof.Machine

/-! ### The LSU run (R342) -/

/-- What the LSU reads in tick n: generation n, the images as of t0 + 0.6 µs, the stamps of the sampled set. -/
def Mod.lsuIn (m : Mod) : Option LsuIn :=
  match m.prog.image with
  | some i =>
    i.axis.map fun c =>
      { tick := m.sched.tick, tickNs := i.tickNs, cfg := c, slots := i.slots, stations := i.stations
        inp := m.current, cmd := m.pantry.snap, stamps := m.prog.frozen.stamps
        valid := i.stations.foldl (fun t r => tabSet t r.station (m.stn r.station).valid) []
        dropped := i.stations.foldl (fun t r => tabSet t r.station (m.stn r.station).dropped) [] }
  | none => none

/-- The LSU runs once in the tick in every lane in service (R50, R342); not during a debug halt (R331). -/
def Mod.lsuGo (m : Mod) : Mod :=
  if !m.sched.lsuDue || m.test.halted then m
  else
    match m.lsuIn with
    | some x =>
      let m := m.allLane fun l => if l.inService then { l with lsu := lsuRun x l.lsu } else l
      { m with sched := { m.sched with lsuDue := false } }
    | none => m

/-! ### Generation n is complete -/

/-- The held outputs of the F classes whose frame ends at this edge, in order (R48, R64). -/
def Mod.publishHeld (m : Mod) (i : Image) : Mod :=
  [1, 2, 3, 4].foldl (fun m c =>
    match (m.run c).held with
    | some a =>
      if m.sched.tick % i.k c = 0 then (m.publish a (i.outRanges c)).setRun c fun r => { r with held := none } else m
    | none => m) m

/-- The classes whose release copies are due, in the order of R49; 6 stands for the copy of the error tasks. -/
def copyOrder (f : Frozen) : List Nat :=
  ([0, 1, 2, 3, 4].filter fun c => f.releases.contains c) ++ (if f.events.isEmpty then [] else [6])
    ++ (if f.releases.contains 5 then [5] else [])

/-- The owner sends the close record and the sampled set of the tick (R48, R90, R272). -/
def Mod.forwardTick (m : Mod) : Mod :=
  if !m.forwards then m
  else
    let n := m.sched.tick
    let stns (f : Stn → Bool) : List Nat := (m.stations.map StationRec.station).filter fun k => f (m.stn k)
    let sub := stns fun s => s.subst
    let ent := stns fun s => s.gotGen = some n
    let good := m.pantry.good.map fun k => (k, min (m.stn k).goodRun 0xFFFF)
    let f := m.prog.frozen
    (m.hallSend 1 fun h => .mClose h n sub ent good).hallSend 1 fun h => .mSample h f

/-- GENERATION_COMPLETE (R48): held F outputs are published, release copies begin, forwarding starts, and the
reopened buffer is brought up to date (R255). -/
def execGenerationComplete (t : Nat) (s : State) : Host.Outcome State Fault Refusal :=
  s.does fun m =>
    let m := m.start t
    match m.prog.image with
    | none => m
    | some i =>
      let n := m.sched.tick
      if !m.sched.running || m.pantry.complete || decide (m.ltNs < m.edgeAt i n + 600) then m
      else
        let m := if m.test.halted then m else m.publishHeld i
        let p := m.pantry
        let m := { m with
          pantry := { p with complete := true, snap := m.outs, mtSnap := if p.mtLast then p.mt1 else p.mt0 }
          sched := { m.sched with toCopy := copyOrder m.prog.frozen } }
        let m := (m.forwardTick).replay
        if m.sched.toCopy.contains 0 then m else m.lsuGo

/-! ### Starting an execution (R132, R133, R147, R148) -/

/-- The release copy of a class: its ranges of generation n and of the images as of t0 + 0.6 µs (R49, R147). -/
def Mod.releaseCopy (m : Mod) (i : Image) (c : Nat) : Areas × Mem 8 :=
  let e := i.cls c
  let ins := e.reads.filter fun r => r.area = .imgIn || r.area = .axIn
  let outs := e.reads.filter fun r => r.area = .imgOut || r.area = .axOut
  (((Areas.zero.paste m.current ins).paste m.pantry.snap outs), if e.mtable then m.pantry.mtSnap else [])

/-- The engine of a share at its first operation (R132, R133). -/
def startEng (i : Image) (s : Share) : Eng :=
  { Eng.idle with
    ib := match i.insts.find? fun e => entId e = s.root with | some e => e.handle | none => 0
    pc := match i.routines[s.routine]? with | some r => r.addr | none => 0
    st := .run }

/-- The context in which an execution of a class starts. -/
def Mod.newCtx (m : Mod) (i : Image) (c : Nat) (snap : Snap) (copy : Areas × Mem 8) : Ctx :=
  let engs := (i.cls c).shares.foldl (fun t s => tabSet t s.engine (startEng i s)) ([] : Tab Eng)
  { snap := snap, engs := engs, links := [], rel := copy.1, mtab := copy.2
    obuf := Areas.zero.paste m.outs (i.outRanges c), req := [], written := [], scratch := []
    called := engs.map fun p => p.2.ib, preempts := 0 }

/-- The run record that counts the requests of a class: the error tasks share one (R169). -/
def reqRun (c : Nat) : Nat := if 6 ≤ c then 20 else c

/-- The requests of a class code without a final outcome (R169). -/
def Mod.outstanding (m : Mod) (code : Nat) : Nat :=
  (m.prog.reqTab.filter fun p => p.1 / 2 ^ 29 = code && !p.2.final).length

/-- What the sampled set gives an execution that starts, with the request count of its class (R152, R169). -/
def Mod.withReqs (m : Mod) (c : Nat) (s : Snap) : Snap :=
  { s with reqBase := (m.run (reqRun c)).reqs, reqOut := m.outstanding (clsCode c) }

/-- Puts an execution into the lanes: the leader takes it now, a following lane at the same operation counts
(R62, R82), ahead of the starts that the leader has yet to take itself. The execution that it pre-empts there counts the
pre-emption (R134). -/
def Mod.startCtx (m : Mod) (c : Nat) (ctx : Ctx) : Mod :=
  match m.leader with
  | none => m
  | some x =>
    let l := m.lane x
    let ops := l.ops
    let ctxs := match l.runCls with
      | some p =>
        if clsRank c < clsRank p then
          let z := tabGet l.ctxs default p
          tabSet l.ctxs p { z with preempts := z.preempts + 1 }
        else l.ctxs
      | none => l.ctxs
    let m := m.setLane x fun l => { l with ctxs := tabSet ctxs c ctx }
    (m.serving.filter fun y => y ≠ x).foldl (fun m y =>
      m.setLane y fun z =>
        let k := z.gates.length - l.gates.length
        let z : Lane := { z with gates := z.gates.take k ++ [⟨c, ctx, ops⟩] ++ z.gates.drop k }
        z.takeGates z.gates.length) m

/-- An execution of an error task stands in the leading lane. -/
def Mod.errRunning (m : Mod) : Bool :=
  match m.leader with
  | some x => (m.lane x).ctxs.any fun p => decide (6 ≤ p.1)
  | none => false

/-- The next queued event record starts its execution once its release copy is there (R180). -/
def Mod.startErr (m : Mod) : Mod :=
  match m.prog.image, m.prog.errRun with
  | some i, e :: _ =>
    match e.copy with
    | some copy =>
      let c := 6 + e.ev.task.num
      if m.errRunning then m else m.startCtx c (m.newCtx i c (m.withReqs c e.snap) copy)
    | none => m
  | _, _ => m

/-- The copy of the error tasks serves every record of its tick (R49). -/
def Mod.errCopy (m : Mod) (i : Image) (n : Nat) : Mod :=
  let give (e : ErrRec) : ErrRec :=
    if e.rel = n && e.copy.isNone then { e with copy := some (m.releaseCopy i (6 + e.ev.task.num)) } else e
  ({ m with prog := { m.prog with errRun := m.prog.errRun.map give } }).startErr

/-- RELEASE_COPY_DONE (R49): the copy next in order is complete and its class becomes runnable; with class M, the
LSU runs. -/
def execReleaseCopyDone (t : Nat) (c : Cls) (s : State) : Host.Outcome State Fault Refusal :=
  s.does fun m =>
    let m := m.start t
    let k := min c.idx 6
    match m.prog.image, m.sched.toCopy with
    | some i, h :: rest =>
      if h ≠ k then m
      else
        let n := m.sched.tick
        let m := { m with sched := { m.sched with toCopy := rest } }
        if k = 6 then m.errCopy i n
        else
          let f := m.prog.frozen
          let r := m.run k
          let snap : Snap := ⟨r.relTick, r.clk, r.first, f.key, f.lt, f.pinsIn, f.pinsOut, f.cells, f.rqst, none, 0,
            r.full, 0, 0⟩
          let m := m.startCtx k (m.newCtx i k (m.withReqs k snap) (m.releaseCopy i k))
          if k = 0 then m.lsuGo else m
    | _, _ => m

end Sys2Proof.Machine
end

