-- ==== Sys2Proof/Machine/Vote.lean ====
section
/-! DEFINITION. Checkpoint records, their vote and what a verdict sets off (R92-R104, R116, R131, R168-R174, R180,
R189, R198, R234-R237, R265, R351-R355, R360, R508, R510). -/
namespace Sys2Proof.Machine

/-! ### Records (R93-R97) -/

/-- A checkpoint record of one lane (R93), with what its effects need: the state words written. -/
structure Rec where
  kind : W32
  relTick : Nat
  out : List W64
  ret : List (Nat × W64)
  req : List W64
  chg : W64
  full : Option W64
  wrote : Nat
  code : Nat
  deriving DecidableEq, Repr

/-- The words of a record as they stream. -/
def Rec.words (r : Rec) : List W64 :=
  let o := r.out.length
  let q := r.ret.length
  let p := r.req.length
  [BitVec.ofNat 64 (r.kind.toNat + r.relTick % 2 ^ 32 * 2 ^ 32), BitVec.ofNat 64 (o + q * 2 ^ 32 + p * 2 ^ 48)]
    ++ r.out ++ (r.ret.flatMap fun x => [BitVec.ofNat 64 (8 * x.1), x.2]) ++ r.req ++ [r.chg]
    ++ (match r.full with | some d => [d] | none => [])
    ++ [BitVec.ofNat 64 (r.wrote * 2 ^ 32 + r.code * 2 ^ 16)]

/-- The take-out cause of the first differing word, by its number (R102). -/
def Rec.causeAt (r : Rec) (k : Nat) : Cause :=
  let n := 2 + r.out.length + 2 * r.ret.length + r.req.length
  if k = n then .digestChg else if k = n + 1 && r.full.isSome then .digestFull else .output

/-- A KIND word without POISON (R93). -/
def kindWord (kind cls : Nat) (full : Bool) : W32 := BitVec.ofNat 32 (kind * 2 ^ 28 + cls * 2 ^ 25 + bit full * 2 ^ 24)

/-- The kind of a class's records (R93). -/
def clsKind (c : Nat) : Nat := if c < 5 then 1 else if c = 5 then 3 else 4

/-- The bytes of a range as 8-byte words, padded (R93). -/
def rangeWords (a : Areas) (r : Range) : List W64 := wordsOf (memRead (a.get r.area) r.start r.len) ((r.len + 7) / 8)

/-- The exception of an execution: that of the lowest engine that raised one (R172). -/
def Ctx.exc? (c : Ctx) : Option (Nat × Eng × Exc) :=
  c.engs.findSome? fun p => match p.2.st with | .exc x => some (p.1, p.2, x) | _ => none

/-- The master number of an engine of lane A (R215). -/
def engMaster (e : Nat) : Nat := e

/-- The two event words of a violation by block code (R234). -/
def violWords (inst : Mem 64) (e : Nat) (g : Eng) (x : Exc) : List W64 :=
  if x.code < 2 ∨ 6 < x.code then []
  else
    [BitVec.ofNat 64 (x.code * 2 ^ 48 + engMaster e * 2 ^ 40 + bit x.write * 2 ^ 32 + instId inst g.ib),
     BitVec.ofNat 64 (g.pc * 2 ^ 32 + x.addr.getD 0 % 2 ^ 32)]

/-- The words of one entry of REQ (R168, R169); an arm word carries its kind 0. -/
def ReqRec.toWords : ReqRec → List W64
  | .arm b => [0, b]
  | .req _ ws => ws
  | .full _ => []

/-- FIRSTSCAN is cleared in the instances that the execution called (R140, R141): the instance area and the words
this writes. -/
def clearFirst (inst : Mem 64) (called : List Nat) : Mem 64 × List Nat :=
  called.foldl (fun x h =>
    let n := h / 8 + 1
    let w := memGet x.1 n
    if w.getLsbD 45 then (memSet x.1 n (w &&& ~~~0x0000200000000000#64), x.2 ++ [n]) else x) (inst, [])

/-- The state words of every instance bound to a class code, in ascending offset (R95). -/
def fullSet (i : Image) (code : Nat) : List Nat :=
  i.insts.flatMap fun e =>
    if (e.words.getD 1 0).toNat / 2 ^ 37 % 8 = code then (List.range (2 + entState e)).map (e.handle / 8 + ·) else []

/-- A word is a retained field: a state word of a RETAIN instance (R93, R140). -/
def isRetained (i : Image) (n : Nat) : Bool :=
  i.insts.any fun e => entRetain e && decide (e.handle / 8 + 2 ≤ n) && decide (n < e.handle / 8 + 2 + entState e)

/-- The record of a lane for a class, with the lane's instance area at the checkpoint. -/
def laneRec (i : Image) (l : Lane) (c : Nat) (z : Ctx) : Rec × Mem 64 :=
  let (inst, cleared) := clearFirst l.inst z.called
  let wrote := (cleared.foldl (fun t n => tabSet t n ()) z.written).map Prod.fst
  let pair (n : Nat) : Nat × W64 := (n, memGet inst n)
  let dig (ns : List Nat) : W64 := digest (ns.map fun n => (8 * n, memGet inst n))
  let x := z.exc?
  ({ kind := kindWord (clsKind c) (clsCode c) z.snap.full
     relTick := z.snap.relTick
     out := (i.outRanges c).flatMap (rangeWords z.obuf)
     ret := (wrote.filter (isRetained i)).map pair
     req := z.req.flatMap ReqRec.toWords ++ (match x with | some (e, g, y) => violWords inst e g y | none => [])
     chg := dig wrote
     full := if z.snap.full then some (dig (fullSet i (clsCode c))) else none
     wrote := wrote.length
     code := match x with | some (_, _, y) => y.code | none => 0 }, inst)

/-- The lane cycles of a checkpoint (R97). -/
def recCost (i : Image) (c : Nat) (r : Rec) : Nat :=
  32 + r.out.length + 2 * r.ret.length + r.req.length + r.wrote
    + (if r.full.isSome then (fullSet i (clsCode c)).length else 0)

/-- The place of an E_AXIS record (R200, R360) and its axis and master numbers. -/
def Mod.axisPlace (m : Mod) (i : Image) : AxisPlace → (W32 × W32 × W32 × W32) × Nat × Nat
  | .axis a =>
    let pl := match i.axis.bind fun c => c.axes.find? fun r => r.axis = a with
      | some r => (placeD m.domain 5 (r.station / 512) (r.station % 512) r.slot, placeM 2 m.side 3 7, (0 : W32), (0 : W32))
      | none => m.placeMod
    (pl, a, 0xFF)
  | .master k =>
    let src := i.axis.bind fun c => (c.masters[k]?).bind fun r =>
      if r.kind = .external then
        sourceStation i.slots (pointArea r.src) (pointOfs r.src) (match r.srcType with | .turn96 => 12 | .int32 => 4 | .int64 => 8)
      else none
    ((match src with | some s => m.placeStn s | none => m.placeMod), 0xFFFF, k)
  | .unit u =>
    match i.axis.bind fun c => c.cmps.find? fun r => r.unit = u with
    | some r => if r.isMaster then (m.placeMod, 0xFFFF, r.number) else (m.placeMod, r.number, 0xFF)
    | none => (m.placeMod, 0xFFFF, 0xFF)

/-- The position of the axis or master that a compare unit watches (R353). -/
def cmpPos (i : Image) (l : Lsu) (u : Nat) : Int :=
  match i.axis.bind fun c => c.cmps.find? fun r => r.unit = u with
  | some r =>
    if r.isMaster then match tabFind l.masters r.number with | some s => ptAt s.pts 0 | none => 0
    else match tabFind l.axes r.number with | some x => ptAt x.pts 0 | none => 0
  | none => 0

/-- Raises the E_AXIS records of events of the LSU (R360). -/
def Mod.raiseAxis (m : Mod) (i : Image) (es : List LsuEv) : Mod :=
  es.foldl (fun m e =>
    let (pl, a, k) := m.axisPlace i e.place
    m.raise .axis e.code pl (leBytes a 2 ++ leBytes k 1 ++ [0] ++ leBytes (u32 e.d24) 4 ++ turnBytes (published e.pos))) m

/-- The words of an event record of the LSU in REQ. -/
def LsuEv.words (e : LsuEv) : List W64 :=
  let p := match e.place with | .axis a => a | .master k => 2 ^ 16 + k | .unit u => 2 ^ 17 + u
  [BitVec.ofNat 64 (e.code * 2 ^ 32 + p), BitVec.ofInt 64 e.d24, BitVec.ofInt 64 e.pos]

/-- The record of a lane for the LSU (R93, R95, R96); its state area is numbered as in `lsuWords` (log entry 13). -/
def lsuRec (l : Lane) : Rec :=
  let ws := (tabOf 0 (lsuWords l.lsu)).map fun p => (8 * p.1, p.2)
  let full := l.lsu.tick % 16 = 0
  { kind := kindWord 2 7 full
    relTick := l.lsu.tick
    out := (lsuOut l.lsu).flatMap fun p => wordsOf p.2 4
    ret := []
    req := (l.lsu.events.flatMap LsuEv.words)
      ++ l.lsu.edges.flatMap fun e => [BitVec.ofNat 64 (e.unit * 4 + bit e.level * 2 + bit e.silent), BitVec.ofInt 64 e.at_]
    chg := digest ws
    full := if full then some (digest ws) else none
    wrote := ws.length
    code := 0 }

/-- The record of supervisor work: nothing that this model's commands do not do themselves (log entry 14). -/
def supvRec (n : Nat) : Rec :=
  { kind := kindWord 5 7 false, relTick := n, out := [], ret := [], req := [], chg := 0, full := none, wrote := 0, code := 0 }

/-! ### The verdict (R98-R102) -/

/-- Words with the bits of a lane's faults flipped. -/
def flipWords (f : VoteFaults) (x : LaneId) (ws : List W64) : List W64 :=
  f.flips.foldl (fun ws p => if p.1 = x then ws.set p.2.1 (ws.getD p.2.1 0 ^^^ p.2.2) else ws) ws

/-- The first number at which two word lists differ. -/
def firstDiff : List W64 → List W64 → Nat
  | x :: xs, y :: ys => if x = y then firstDiff xs ys + 1 else 0
  | _, _ => 0

/-- What the Newel finds (R101). -/
inductive Verdict
  | unanimous (good : LaneId)
  | majority (good odd : LaneId)
  | failed (code : FailCode)
  | none
  deriving DecidableEq, Repr

/-- The verdict over the words of the lanes in service, `none` for a record that misses or is poisoned (R100, R101). -/
def verdictOf (vs : List (LaneId × Option (List W64))) : Verdict :=
  let same (w : List W64) : Nat := (vs.filter fun p => p.2 == some w).length
  let best := vs.findSome? fun p => match p.2 with
    | some w => if 2 ≤ same w then some (p.1, w) else Option.none
    | Option.none => Option.none
  let n := vs.length
  if n < 2 then .none
  else
    match best with
    | some (x, w) =>
      if same w = n then .unanimous x
      else match vs.find? fun p => p.2 != some w with
        | some p => .majority x p.1
        | Option.none => .unanimous x
    | Option.none => .failed (if n = 3 then .noMajority else .twoLaneDisagree)

/-- What a lane gives for a checkpoint: its record, or that it misses. -/
abbrev LaneRecs := LaneId → Option Rec

/-- The words a lane streams to the vote; poison gives a record that agrees with no other (R89, R100, R107). -/
def Mod.streamed (m : Mod) (f : VoteFaults) (recs : LaneRecs) (x : LaneId) : Option (List W64) :=
  let l := m.lane x
  if l.poison || l.stopped.isSome || f.missing.contains x then none
  else (recs x).map fun r => flipWords f x r.words

/-- The take-out of the odd lane with its cause (R102, R107). -/
def Mod.takeOutOdd (m : Mod) (f : VoteFaults) (recs : LaneRecs) (good odd : LaneId) (kind cls rel : Nat) : Mod :=
  let l := m.lane odd
  if l.stopped = some true then m.takeOut odd .memUncorr kind cls rel 0
  else if l.stopped.isSome || l.poison then m.takeOut odd .poison kind cls rel 0
  else
    match m.streamed f recs odd, recs good with
    | some w, some g =>
      let k := firstDiff (flipWords f good g.words) w
      m.takeOut odd (g.causeAt k) kind cls rel (8 * k)
    | _, _ => m.takeOut odd .timeout kind cls rel 0xFFFFFFFF

/-- Votes a checkpoint (R101, R114, R116): `publish` is what the agreed record of a lane sets off. -/
def Mod.vote (m : Mod) (f : VoteFaults) (recs : LaneRecs) (kind cls rel : Nat) (publish : LaneId → Mod → Mod) : Mod :=
  let vs := m.serving.map fun x => (x, m.streamed f recs x)
  let counted (m : Mod) : Mod := { m with newel := { m.newel with counts := inc32 m.newel.counts } }
  match verdictOf vs with
  | .none => m
  | .failed code => (counted m).failModule (if f.split then .comparatorSplit else code) cls
  | .unanimous x =>
    if f.split then (counted m).failModule .comparatorSplit cls
    else
      let m := counted m
      publish x { m with newel := { m.newel with unanimous := inc32 m.newel.unanimous } }
  | .majority x y =>
    if f.split then (counted m).failModule .comparatorSplit cls
    else
      let m := counted m
      let m := { m with newel := { m.newel with majority := inc32 m.newel.majority } }
      publish x (m.takeOutOdd f recs x y kind cls rel)

/-! ### Digests between the modules (R104, R508, R510) -/

/-- The joiner's state is proved equal: it becomes SHADOW (R459, R510); its card follows (R540). -/
def Mod.handoverDone (m : Mod) : Mod :=
  let us := match m.hall.openAt with | some t => (m.now - t) / 1000 | none => 0
  let m := m.hallSend 0 fun h => .mHoEnd h 0
  let m := { m with hall := { m.hall with join := .none, last := 0, marked := 0, openAt := none
                                          compared := [], joinUs := us } }
  let m := m.toRole .shadow 4
  let m := { m with pair := { m.pair with joins := inc32 m.pair.joins, digestsOk := true, shadowTiming := true }
                    prog := { m.prog with run := if m.prog.run = RunSt.joining then RunSt.running else m.prog.run } }
  m.rewriteCard

/-- A checkpoint of the joiner compared equal in COMPARE; the last one of tick n completes the handover. -/
def Mod.comparedOne (m : Mod) (kind : Nat) (rel : Nat) : Mod :=
  if m.pair.role = .joining && m.hall.join = .compare && m.hall.cut = some rel then
    let done := if m.hall.compared.contains kind then m.hall.compared else m.hall.compared ++ [kind]
    let m := { m with hall := { m.hall with compared := done } }
    let due := m.prog.frozen.releases.map fun c => clsKind c * 8 + clsCode c
    let due := if (m.prog.image.bind Image.axis).isSome then due ++ [2 * 8 + 7] else due
    if due.all fun k => done.contains k then m.handoverDone else m
  else m

/-- A digest of this module differs from the owner's: a shadow rejoins, a join ends (R104, R515). -/
def Mod.mismatch (m : Mod) : Mod :=
  if m.pair.role = .joining then
    ({ m with newel := { m.newel with mismatch := inc32 m.newel.mismatch } }).endJoin 5 true
  else m.digestDiffers

/-- The module compares digests with the owner: a shadow that does not decide, or a joiner in COMPARE (R124). -/
def Mod.compares (m : Mod) : Bool :=
  (m.pair.role = .shadow && !m.pair.decider && !m.test.halted) || (m.pair.role = .joining && m.hall.join = .compare)

/-- Two digests belong to the same checkpoint (R508). -/
def Dig.sameCk (a b : Dig) : Bool :=
  a.kind.toNat / 2 ^ 25 = b.kind.toNat / 2 ^ 25 && a.relTick % 2 ^ 32 = b.relTick % 2 ^ 32 && a.ord = b.ord

/-- Compares two digests of the same checkpoint. -/
def Mod.comparePair (m : Mod) (own other : Dig) : Mod :=
  if own.chg = other.chg && own.full == other.full && (!own.full || own.dfull = other.dfull) then
    m.comparedOne (own.kind.toNat / 2 ^ 25) own.relTick
  else m.mismatch

/-- The voted digests of a checkpoint: forwarded by the owner, compared by the shadow (R99, R104, R508). The first one after a
restart or load tells the shadow to join again, by HO_END with RESULT RESTART (R189, log entry 27). -/
def Mod.voteDigest (m : Mod) (d : Dig) : Mod :=
  let m := if m.prog.partnerStale && m.controls then
      ({ m with prog := { m.prog with partnerStale := false } }).hallSend 0 fun h => .mHoEnd h 6
    else m
  let m := if m.forwards then
      m.hallSend 1 fun h => .mDigest h d.kind (d.relTick % 2 ^ 32) d.ord d.full d.chg d.dfull
    else m
  if !m.compares then m
  else
    let late := m.hall.ownerDigs.any fun o => o.kind.toNat / 2 ^ 25 = d.kind.toNat / 2 ^ 25 && decide (o.relTick < d.relTick % 2 ^ 32)
    if late then m.mismatch
    else
      match m.hall.ownerDigs.find? fun o => d.sameCk o with
      | some o => ({ m with hall := { m.hall with ownerDigs := m.hall.ownerDigs.filter fun x => x ≠ o } }).comparePair d o
      | none => { m with hall := { m.hall with ownDigs := m.hall.ownDigs ++ [(m.now, d)] } }

/-- The digest of an agreed record. -/
def Rec.dig (r : Rec) (ord : Nat) : Dig := ⟨r.kind, r.relTick, ord, r.full.isSome, r.chg, r.full.getD 0⟩

/-! ### Violations and exceptions (R174, R234-R237) -/

/-- Captures and counts a violation (R235). The flag says whether it was captured. -/
def Mod.violation (m : Mod) (type cls master cause addr inst : Nat) : Mod × Bool :=
  let a := m.access
  let a1 := { a with violCount := inc32 a.violCount }
  if a.viol.getLsbD 31 then ({ m with access := a1 }, false)
  else
    ({ m with access := { a1 with
        viol := BitVec.ofNat 32 (2 ^ 31 + type * 2 ^ 28 + cls * 2 ^ 24 + master * 2 ^ 16 + cause * 2 ^ 8)
        violAddr := addr % 2 ^ 32, violTick := m.sched.tick % 2 ^ 32, violInst := inst } }, true)

/-- An execution that ended in an exception (R174-R176, R234). -/
def Mod.exception (m : Mod) (c : Nat) (inst : Mem 64) (rel : Nat) (x : Nat × Eng × Exc) : Mod :=
  let id := instId inst x.2.1.ib
  let m := { m with prog := { m.prog with
    excCount := inc32 m.prog.excCount, excCode := x.2.2.code, excEng := x.1, excCls := clsCode c, excInst := id
    excTick := rel % 2 ^ 32 } }
  let m := if 2 ≤ x.2.2.code && x.2.2.code ≤ 6 then
      (m.violation (bit x.2.2.write) 0 (engMaster x.1) x.2.2.code (x.2.2.addr.getD 0) id).1
    else m
  if c = 6 + ErrTask.access.num then m
  else
    m.raise .access 1 (m.placeInst c id)
      (leBytes x.2.2.code 2 ++ leBytes x.1 1 ++ leBytes (clsCode c) 1 ++ leBytes id 4 ++ leBytes x.2.1.pc 4 ++ leBytes rel 4)

/-! ### What an agreed checkpoint sets off (R99) -/

/-- The voted REQ of an execution, in issue order (R168-R170, R372). -/
def Mod.passReq (m : Mod) (c : Nat) (rs : List ReqRec) : Mod :=
  rs.foldl (fun m r =>
    match r with
    | .arm b => { m with reflex := { m.reflex with armPend := m.reflex.armPend ++ [(clsCode c, b)] } }
    | .req id ws =>
      (m.setRun (reqRun c) fun x => { x with reqs := (x.reqs + 1) % 2 ^ 29 }).takeRequest id ws
    | .full id =>
      (m.setRun (reqRun c) fun x => { x with reqs := (x.reqs + 1) % 2 ^ 29 }).reqOutcome id .refusedFull) m

/-- The voted outputs of a class: M publishes at once or, late, at the next tick edge; F classes hold theirs; B and
the error tasks publish at once (R48, R64, R65, R173, R179, R180). -/
def Mod.publishCls (m : Mod) (i : Image) (c : Nat) (out : Areas) : Mod :=
  if (1 ≤ c ∧ c ≤ 4) ∨ (c = 0 ∧ (m.run 0).ovr) then m.setRun c fun r => { r with held := some out }
  else m.publish out (i.outRanges c)

/-- The first M checkpoint of a change tick is voted: the change ends DONE (R198). -/
def Mod.changeDone (m : Mod) (c rel : Nat) : Mod :=
  if c = 0 && m.prog.chgState = .applied && m.prog.chgTick = rel % 2 ^ 32 then
    let key := m.prog.chgKey
    ({ m with prog := { m.prog with chgKey := none } }).finish? key .done 0 (leBytes rel 8)
  else m

/-- The effects of an agreed record of a class. -/
def Mod.votedCls (m : Mod) (i : Image) (c : Nat) (good : LaneId) : Mod :=
  let z := tabGet (m.lane good).ctxs default c
  let (r, inst) := laneRec i (m.lane good) c z
  let rel := z.snap.relTick
  let m := m.allLane fun l =>
    match tabFind l.ctxs c with
    | some y => if l.inService then { l with inst := (clearFirst l.inst y.called).1, ctxs := tabDel l.ctxs c } else l
    | none => l
  let m := match z.exc? with
    | some x => m.exception c inst rel x
    | none => m.publishCls i c z.obuf
  let cyc := z.engs.foldl (fun n p => max n p.2.cyc) 0
  let last := min (cyc + recCost i c r + 192 * z.preempts) 0xFFFFFFFF
  let m := m.setRun c fun x =>
    { x with running := false, ovr := false, last := last, max := max x.max last, lastRel := rel % 2 ^ 32
             releases := if c = 5 then inc32 x.releases else x.releases }
  let m := if c = 0 then { m with sched := { m.sched with mVoted := m.ltNs } } else m
  let m := { m with attic := { m.attic with clocks := tabSet m.attic.clocks c (z.snap.clk, rel) } }
  let m := (m.atticTake r.kind rel r.ret).passReq c z.req
  let m := (m.voteDigest (r.dig z.snap.ord)).changeDone c rel
  if 6 ≤ c then ({ m with prog := { m.prog with errRun := m.prog.errRun.drop 1 } }).startErr else m

/-- The edges of an LSU run reach the edge-launch unit at the vote (R354, R355, R376). -/
def Mod.takeEdges (m : Mod) (i : Image) (l : Lsu) : Mod :=
  let es := l.edges
  let now : Int := m.ltNs
  let shadow := m.pair.role = .shadow
  let one (x : Mod × List Nat) (e : CmpEdge) : Mod × List Nat :=
    let m := x.1
    if shadow && decide (e.at_ < now) then
      ({ m.reflexNow with reflex := m.reflexNow.reflex.setCmp e.unit e.level }, x.2)
    else
      let late := !e.silent && decide (e.at_ < now + 200) && !shadow
      let at1 := if late then now + 200 else e.at_
      let prev := tabGet m.reflex.prevEdge (-1) e.unit
      let at2 := if at1 ≤ prev then prev + 1 else at1
      let r := m.reflex
      let first := late && !tabGet r.lateRun false e.unit && !x.2.contains e.unit
      let r := { r with
        edges := tabSet r.edges e.unit ((tabGet r.edges [] e.unit ++ [{ e with at_ := at2 }]).take 8)
        prevEdge := tabSet r.prevEdge e.unit at2
        cmpLate := if late then inc32 r.cmpLate else r.cmpLate }
      let m := { m with reflex := r }
      let ns := min (now + 200 - e.at_).toNat 0xFFFFFF
      let m := if first then
          let (pl, a, k) := m.axisPlace i (.unit e.unit)
          m.raise .axis 10 pl (leBytes a 2 ++ leBytes k 1 ++ [0] ++ leBytes (ns * 256 + e.unit) 4
            ++ turnBytes (published (cmpPos i l e.unit)))
        else m
      (m, if late then x.2 ++ [e.unit] else x.2)
  let (m, late) := es.foldl one (m, [])
  let units := match i.axis with | some c => c.cmps.map CmpRec.unit | none => []
  { m with reflex := { m.reflex with lateRun := units.foldl (fun t u => tabSet t u (late.contains u)) [] } }

/-- The effects of an agreed record of the LSU (R48, R335, R351, R354, R360). -/
def Mod.votedLsu (m : Mod) (i : Image) (good : LaneId) : Mod :=
  let l := (m.lane good).lsu
  let r := lsuRec (m.lane good)
  let m := m.allLane fun x => if x.inService then { x with lsu := { x.lsu with done := false, events := [], edges := [] } } else x
  let data := (lsuOut l).foldl (fun (a : Areas) p => { a with axOut := memWrite a.axOut (64 * p.1) p.2 }) Areas.zero
  let m := m.publish data ((lsuOut l).map fun p => ⟨.axOut, 64 * p.1, 32⟩)
  let odd := l.tick % 2 = 1
  let p := m.pantry
  let m := { m with pantry := { p with mt0 := if odd then p.mt0 else masterTable l, mt1 := if odd then masterTable l else p.mt1
                                       mtLast := odd } }
  let m := m.raiseAxis i l.events
  let m := (m.takeEdges i l).atticTake r.kind l.tick []
  m.voteDigest (r.dig 0)

/-- The lanes whose execution of a class has ended (R132). -/
def Mod.endedLanes (m : Mod) (c : Nat) : List LaneId :=
  m.serving.filter fun x => match tabFind (m.lane x).ctxs c with | some z => !z.live | none => false

/-- A lane takes part in no later record: it is stopped (R107). -/
def Mod.cannotEnd (m : Mod) (x : LaneId) : Bool := (m.lane x).stopped.isSome

/-- Votes the checkpoint that a command names. Without the deadline, every lane's record has arrived, or the
lane's fault says that it never will; after it, the first lane has completed (R98). -/
def Mod.voteCk (m : Mod) (k : CkSel) (f : VoteFaults) (deadline : Bool) : Mod :=
  match m.prog.image with
  | none => m
  | some i =>
    if m.test.halted then m
    else
      match k with
      | .supv => m.vote f (fun _ => some (supvRec m.sched.tick)) 5 7 m.sched.tick fun _ m => m
      | .lsu =>
        match m.leading with
        | some x =>
          if (m.lane x).lsu.done then
            m.vote f (fun y => some (lsuRec (m.lane y))) 2 7 (m.lane x).lsu.tick fun y m => m.votedLsu i y
          else m
        | none => m
      | .cls k =>
        let c := k.idx
        let ended := m.endedLanes c
        let all := m.serving.all fun x => ended.contains x || m.cannotEnd x || f.missing.contains x
        match ended.head? with
        | some x =>
          if all || deadline then
            let z := tabGet (m.lane x).ctxs default c
            let recs : LaneRecs := fun y =>
              if ended.contains y then some (laneRec i (m.lane y) c (tabGet (m.lane y).ctxs default c)).1 else none
            m.vote f recs (clsKind c) (clsCode c) z.snap.relTick fun y m => m.votedCls i c y
          else m
        | none => m

/-- CHECKPOINT_VOTE (R101). -/
def execCheckpointVote (t : Nat) (k : CkSel) (f : VoteFaults) (s : State) : Host.Outcome State Fault Refusal :=
  s.doesPair fun m => (m.start t).voteCk k f false

/-- VOTE_DEADLINE (R98): the deadline passed; a record that has not fully arrived differs in every missing word. -/
def execVoteDeadline (t : Nat) (k : CkSel) (f : VoteFaults) (s : State) : Host.Outcome State Fault Refusal :=
  s.doesPair fun m => (m.start t).voteCk k f true

end Sys2Proof.Machine
end

