-- ==== Sys2Proof/Machine/Protect.lean ====
section
/-! DEFINITION. Access units: slots, regions, the order of the checks, rule banks and violations (R215-R237, R553). -/
namespace Sys2Proof

/-- The bit of an access type in R, W, X. -/
def AccType.inSet (t : AccType) (p : BitVec 3) : Bool :=
  match t with | .r => p.getLsbD 2 | .w => p.getLsbD 1 | .x => p.getLsbD 0

/-- The code of an access type (R240). -/
def AccType.code : AccType → Nat
  | .r => 0 | .w => 1 | .x => 2

end Sys2Proof

namespace Sys2Proof.Machine

/-! ### Masters (R215) -/

/-- The class code of a master number (R215). -/
def masterClass (n : Nat) : Nat :=
  if n < 0x30 then 0 else if n < 0x33 then 1 else if n = 0x33 then 2 else if n = 0x34 then 3 else if n < 0x39 then 4
  else if n = 0x39 then 5 else if n = 0x3A then 6 else if n = 0x3B then 7 else if n < 0x43 then 8 else if n = 0x43 then 9
  else if n = 0x44 then 0xA else 0xB

/-- The lane of a lane-replicated master. -/
def masterLane (n : Nat) : Option LaneId :=
  let lane (k : Nat) : LaneId := match k with | 0 => .A | 1 => .B | _ => .C
  if n < 0x30 then some (lane (n / 16)) else if n < 0x33 then some (lane (n - 0x30))
  else if 0x40 ≤ n ∧ n < 0x43 then some (lane (n - 0x40)) else none

/-- The master numbers of the table of R215. -/
def isMaster (n : Nat) : Bool := decide (n ≤ 0x3B) || (decide (0x40 ≤ n) && decide (n ≤ 0x45))

/-! ### The address map (R217-R219, R228) -/

/-- A window onto lane memory. -/
inductive Window | own | lane (x : LaneId) | bcast
  deriving DecidableEq, Repr

/-- The lane window that an address lies in, with the offset there (R217). -/
def windowOf (a : Nat) : Option (Window × Nat) :=
  if a < 0x10000000 ∨ 0x1A000000 ≤ a then none
  else
    let o := a % 0x2000000
    match (a - 0x10000000) / 0x2000000 with
    | 0 => some (.own, o) | 1 => some (.lane .A, o) | 2 => some (.lane .B, o) | 3 => some (.lane .C, o)
    | _ => some (.bcast, o)

/-- The slot of an offset in a lane window (R218). -/
def laneSlot (o : Nat) : Nat :=
  if o < 0x1400000 then 1 else if o < 0x1700000 then 2 else if o < 0x1800000 then 3 else if o < 0x1A00000 then 4
  else if o < 0x1B00000 then 5 else 6

/-- The slot of an address (R217, R218). -/
def slotAt (a : Nat) : Option Nat :=
  match windowOf a with
  | some (_, o) => some (laneSlot o)
  | none =>
    if a < 0x40000 then some 0
    else if 0x20000000 ≤ a ∧ a < 0x22000000 then
      some (if a < 0x20800000 then 7 else if a < 0x21000000 then 8 else if a < 0x21800000 then 9 else 10)
    else if 0x30000000 ≤ a ∧ a < 0x34000000 then some 11
    else if 0x40000000 ≤ a ∧ a < 0x44000000 then some 12
    else if 0x50000000 ≤ a ∧ a < 0x500C0000 then some (13 + (a - 0x50000000) / 0x10000)
    else none

/-- Some byte of an access lies in a locked region (R228). -/
def touchesLocked (a len : Nat) : Bool :=
  let hits (lo hi : Nat) : Bool := decide (a < hi) && decide (lo < a + max 1 len)
  hits 0x3F000 0x40000 || hits 0x1000000 0x1000400 || hits 0x2000000 0x2004000

/-- Whether a master may use a lane window for an access (R219). -/
def Mod.windowOk (m : Mod) (n : Nat) (w : Bool) : Window → Bool
  | .own => (masterLane n).isSome
  | .bcast => w && (match masterClass n with | 2 | 5 | 6 | 9 | 0xB => true | _ => false)
  | .lane x =>
    match masterClass n with
    | 2 | 0xB => !w && m.leading = some x
    | 3 | 9 => true
    | 5 => !w && m.hall.sender && m.hall.donor = x
    | _ => false

/-! ### Permissions (R220, R221, R223-R226) -/

/-- The most that a user class can be granted at a slot, as R, W, X in bits 2 to 0 (R220). -/
def slotMost (cls slot : Nat) : BitVec 3 :=
  match slot, cls with
  | 1, 0 | 1, 3 | 1, 5 => 0b110 | 1, 6 => 0b010
  | 2, 0 | 2, 1 => 0b100 | 2, 2 | 2, 5 => 0b010 | 2, 3 => 0b110
  | 3, 0 | 3, 2 | 3, 3 | 3, 5 => 0b110 | 3, 1 => 0b010
  | 4, 0 => 0b001 | 4, 3 => 0b110 | 4, 5 | 4, 6 => 0b010
  | 5, 1 | 5, 3 => 0b110 | 5, 5 | 5, 6 => 0b010
  | 6, 3 => 0b110 | 6, 5 | 6, 6 => 0b010
  | 7, 2 | 7, 5 => 0b110 | 7, 4 => 0b010
  | 8, 1 => 0b100 | 8, 2 | 8, 5 => 0b110
  | 9, 2 => 0b010 | 9, 4 | 9, 5 => 0b100
  | 10, 1 => 0b100 | 10, 2 | 10, 5 | 10, 6 => 0b010
  | 11, 7 => 0b110
  | _, _ => 0

/-- What the firmware narrows the table to (R221). -/
def Mod.narrowed (m : Mod) (n slot : Nat) : BitVec 3 :=
  match masterClass n with
  | 0 | 1 => match masterLane n with | some x => if (m.lane x).inService then 0b111 else 0 | none => 0
  | 4 => if m.portRole (n - 0x35) = .unused then 0 else 0b111
  | 5 =>
    let reads := m.hall.sender && (m.hall.join = .first || m.hall.join = .converge || m.hall.join = .wait || m.hall.join = .final)
    let w : BitVec 3 := if slot ≤ 6 && m.pair.role ≠ .joining then 0 else 0b010
    let r : BitVec 3 := if (slot = 1 || slot = 3) && !reads then 0 else 0b100
    w ||| r
  | 6 => if m.power.boot = .cardRead || m.power.boot = .ready || (m.power.boot = .started && m.prog.awaitFirst) then 0b111 else 0
  | _ => 0b111

/-- The table entry of a bank: all bits set until a writer changes it (log entry 19). -/
def RuleBank.entry (b : RuleBank) (n slot : Nat) : BitVec 3 := tabGet b.perm 0b111 (32 * n + slot)

/-- The permission in force of a user master at a slot (R221). -/
def Mod.permission (m : Mod) (n slot : Nat) : BitVec 3 :=
  m.access.active.entry n slot &&& slotMost (masterClass n) slot &&& m.narrowed n slot

/-- The default map of a privileged class at an address (R225). -/
def Mod.defaultMap (m : Mod) (cls : Nat) (a : Nat) : BitVec 3 :=
  match windowOf a with
  | some (.own, _) => if cls = 8 then 0b111 else 0
  | some (.bcast, _) => if cls = 9 ∨ cls = 0xB then 0b010 else 0
  | some (.lane x, _) => if cls = 9 then 0b110 else if cls = 0xB && m.leading = some x then 0b100 else 0
  | none =>
    match slotAt a with
    | some 0 => if cls = 8 ∨ cls = 9 then 0b101 else if cls = 0xB then 0b100 else 0
    | some 12 => if cls = 9 then 0b110 else if cls = 8 ∨ cls = 0xB then 0b100 else 0
    | some k =>
      if k ≤ 10 then (if cls = 8 ∨ cls = 9 then 0b110 else 0b100)
      else if cls = 8 ∨ cls = 9 then 0b110 else if cls = 0xB then 0b100 else 0
    | none => 0

/-- The enabled region with the lowest number that covers an access (R223, R224). -/
def RuleBank.region (b : RuleBank) (n a len : Nat) : Option Region :=
  (List.range 16).findSome? fun r =>
    let x := tabGet b.regions ({} : Region) (16 * n + r)
    if x.en && decide (x.start ≤ a) && decide (a + max 1 len ≤ x.stop + 64) && decide (x.start ≤ x.stop) then some x else none

/-- The power domain of a slot (R593): none for one that is on whenever the module is. -/
def slotDomain (k : Nat) : Option Nat :=
  match k with
  | 7 | 8 | 9 | 10 => some 6
  | 11 | 21 => some 13
  | 13 => some 5
  | 14 => some 7 | 15 => some 8 | 16 => some 9 | 17 => some 10
  | 18 => some 11 | 19 => some 14 | 20 => some 12
  | _ => none

/-- The domain behind an address is on (R593); a broadcast reaches the lanes in service. -/
def Mod.slotPowered (m : Mod) (n a : Nat) : Bool :=
  match windowOf a with
  | some (.own, _) => (match masterLane n with | some x => m.powered (laneDomain x) | none => true)
  | some (.lane x, _) => m.powered (laneDomain x)
  | some (.bcast, _) => true
  | none => (match (slotAt a).bind slotDomain with | some d => m.powered d | none => true)

/-- The decision of an access unit: none for a grant, else the cause (R230, R233, R240). -/
def Mod.checkAccess (m : Mod) (n : Nat) (ty : AccType) (a len : Nat) : Option Nat :=
  let last := a + max 1 len - 1
  let window : Bool := match windowOf a with
    | some (w, _) => m.windowOk n (decide (ty = .w)) w
    | none => true
  let spans : Bool := match slotAt a, slotAt last with | some x, some y => x ≠ y | _, _ => false
  let replicated := (masterLane n).isSome || masterClass n = 0xB
  if m.access.tableErr.contains n then some 0x26
  else if touchesLocked a len then some 0x24
  else if 16384 < len ∨ spans then some 0x25
  else if masterClass n < 8 then
    match slotAt a, slotAt last with
    | some k, some _ => if !window || !m.slotPowered n a then some 0x20 else if ty.inSet (m.permission n k) then none else some 0x21
    | _, _ => some 0x20
  else if replicated && !window then some 0x20
  else if !m.slotPowered n a then some 0x22
  else
    match m.access.active.region n a len with
    | some r => if ty.inSet r.rwx then none else some 0x23
    | none => if ty.inSet (m.defaultMap (masterClass n) a) then none else some 0x22

/-! ### Violations (R229, R234-R237) -/

/-- Records a violation of a master that is no engine, with its E_ACCESS record (R235, R237). -/
def Mod.recordViolation (m : Mod) (n : Nat) (ty : AccType) (cause a : Nat) : Mod :=
  let (m, taken) := m.violation ty.code (masterClass n) n cause a 0
  if taken && m.controls then
    m.raise .access 2 m.placeMod
      (List.replicate 16 0 ++ leBytes m.access.viol.toNat 4 ++ leBytes m.access.violAddr 4 ++ leBytes m.access.violInst 4
        ++ [0, 0, 0, 0])
  else m

/-- A load whose commit is written, or that has none to wait for, ends DONE; the tick of its first release is not known yet, so
that field of its body is open (R539, R648, log entry 8). -/
def Mod.loadEnds (m : Mod) : Mod :=
  match m.attic.loadKey with
  | some k =>
    let (n, m) := m.open_
    ({ m with attic := { m.attic with loadKey := none } }).finish k .done 0 (leBytes n 8)
  | none => m

/-- The Attic's fault: nothing more is written but a header with STATE EMPTY (R553). A load that
waits for its commit then has nothing more to wait for (log entry 20). -/
def Mod.atticFails (m : Mod) : Mod :=
  if m.attic.fault then m
  else
    let a := { m.attic with fault := true, refilling := false }
    ({ m with attic := a.putHeader .empty m.savis.serial none }).loadEnds

/-- The master of another lane that stands at the same place. -/
def sameMaster (n : Nat) (x : LaneId) : Nat :=
  if n < 0x30 then n % 16 + 16 * x.num else if n < 0x33 then 0x30 + x.num else 0x40 + x.num

/-- A refused access (R229, R234): a master of one lane gives POISON when the lanes differ, else the voted record
carries the violation under lane A's number. -/
def Mod.refuseAccess (m : Mod) (n : Nat) (ty : AccType) (cause a len : Nat) : Mod :=
  match masterLane n with
  | some x =>
    if (m.serving.all fun y => (m.checkAccess (sameMaster n y) ty a len).isSome) then
      m.recordViolation (sameMaster n .A) ty cause a
    else m.setLane x fun l => { l with poison := true }
  | none =>
    let m := m.recordViolation n ty cause a
    if n = 0x3B then m.atticFails else m

/-- MASTER_ACCESS (R230): an access or descriptor of a master that is no block engine. -/
def execMasterAccess (t : Nat) (master : Nat) (ty : AccType) (addr len : Nat) (s : State) : Host.Outcome State Fault Refusal :=
  s.does fun m =>
    let m := m.start t
    if !isMaster master || decide (master < 0x30) then m
    else
      match m.checkAccess master ty addr len with
      | none => m
      | some cause => m.refuseAccess master ty cause addr len

/-! ### The rule banks (R231, R233) -/

/-- An edit of a bank. -/
def RuleBank.edit (b : RuleBank) : RuleEdit → RuleBank
  | .perm n slot rwx => { b with perm := tabSet b.perm (32 * n + slot) rwx }
  | .region n r start stop en rwx =>
    { b with regions := tabSet b.regions (16 * n + r) ⟨start / 64 * 64, stop / 64 * 64, en, rwx⟩ }

/-- SEAL (R231): edits of the pending bank and the seal, taken for the next edge that lies at least 1 µs ahead. -/
def execSeal (t : Nat) (edits : List RuleEdit) (s : State) : Host.Outcome State Fault Refusal :=
  s.does fun m =>
    let m := m.start t
    let a := m.access
    let ahead : Bool := match m.prog.image with
      | some i => decide (m.ltNs + 1000 ≤ m.edgeAt i (m.sched.tick + 1))
      | none => true
    { m with access := { a with pend := edits.foldl RuleBank.edit a.pend, sealed := true
                                sealNext := if a.sealed then a.sealNext else ahead } }

/-- TABLE_ERROR (R233): an uncorrectable word of a rule table; for a lane-replicated master its lane gives POISON. -/
def execTableError (t : Nat) (master : Nat) (correctable : Bool) (s : State) : Host.Outcome State Fault Refusal :=
  s.does fun m =>
    let m := m.start t
    if correctable || !isMaster master then m
    else
      let errs := if m.access.tableErr.contains master then m.access.tableErr else m.access.tableErr ++ [master]
      let m := { m with access := { m.access with tableErr := errs } }
      match masterLane master with
      | some x => m.setLane x fun l => { l with poison := l.poison || l.inService }
      | none => m

end Sys2Proof.Machine
end

