-- ==== Sys2Proof/Machine/Attic.lean ====
section
/-! DEFINITION. The Attic's journal engine: commits, applying, headers, the end of a refill, its fault (R546-R553). -/
namespace Sys2Proof.Machine

/-- ATTIC_COMMIT (R546): at least 1 µs after the last commit, one commit covers the checkpoints voted since. -/
def execAtticCommit (t : Nat) (s : State) : Host.Outcome State Fault Refusal :=
  s.does fun m =>
    let m := m.start t
    let soon : Bool := match m.attic.lastCommit with | some c => decide (m.now < c + 1000) | none => false
    if m.attic.fault || m.attic.pendCovers = 0 || soon then m else m.atticCommitNow

/-- Applies the RET records of the commits written at least 1 µs earlier (R547). -/
def Attic.apply (a : Attic) (now : Nat) : Attic :=
  let waiting := a.journal.filter fun e => a.applied ≤ e.aseq
  match lastCommitBy (now - 1000) none waiting with
  | some (c, n) =>
    { a with home := applyWords a.home (waiting.filter fun e => e.aseq < n), applied := n, appliedLast := some c }
  | none => a

/-- ATTIC_APPLY (R547, R552): not before REFILL_END. -/
def execAtticApply (t : Nat) (s : State) : Host.Outcome State Fault Refusal :=
  s.does fun m =>
    let m := m.start t
    if m.attic.fault || m.attic.refilling || decide (m.now < 1000) then m else { m with attic := m.attic.apply m.now }

/-- Records that no header points behind any more leave the ring (R542, R547). -/
def Attic.prune (a : Attic) : Attic :=
  let old := min (if a.hdrA.valid then a.hdrA.appliedSeq else 0) (if a.hdrB.valid then a.hdrB.appliedSeq else 0)
  { a with journal := a.journal.filter fun e => old ≤ e.aseq }

/-- ATTIC_HEADER_WRITE (R547): the header not in force takes APPLIED_SEQ and LAST. -/
def execAtticHeaderWrite (t : Nat) (s : State) : Host.Outcome State Fault Refusal :=
  s.does fun m =>
    let m := m.start t
    match m.attic.header with
    | some (h, _) =>
      if m.attic.fault || m.attic.refilling || h.state ≠ .valid then m
      else
        let last := match m.attic.appliedLast with | some c => some c | none => h.last
        { m with attic := (m.attic.putHeader .valid m.savis.serial last).prune }
    | none => m

/-- The refill ends (R550): REFILL_END, a commit, and a header with STATE VALID; a load is then DONE (R539). -/
def Mod.refillDone (m : Mod) : Mod :=
  if m.attic.fault || !m.attic.refilling then m
  else
    let a := m.attic
    let m := { m with attic := { (a.append m.now (.refillEnd a.home.length)) with refilling := false } }
    let m := m.atticCommitNow
    let m := { m with attic := m.attic.putHeader .valid m.savis.serial none }
    m.loadEnds

/-- ATTIC_REFILL_DONE (R550, R552). -/
def execAtticRefillDone (t : Nat) (s : State) : Host.Outcome State Fault Refusal :=
  s.does fun m => (m.start t).refillDone

/-- ATTIC_FAULT (R553). -/
def execAtticFault (t : Nat) (s : State) : Host.Outcome State Fault Refusal :=
  s.does fun m => (m.start t).atticFails

end Sys2Proof.Machine
end

