-- ==== Sys2Proof/Machine/Flags.lean ====
section
/-! DEFINITION. Floating-point results and the sticky flags they set (R153-R156), for binary64 and binary32,
round to nearest, ties to even. -/
namespace Sys2Proof.Machine

/-- The precision of a format: bits of the significand. -/
def FWidth.prec : FWidth → Nat
  | .b64 => 53 | .b32 => 24

/-- The exponent bias of a format, which is its largest exponent. -/
def FWidth.bias : FWidth → Nat
  | .b64 => 1023 | .b32 => 127

/-- The width of a format. -/
def FWidth.bits : FWidth → Nat
  | .b64 => 64 | .b32 => 32

/-- The exponent of the smallest step of a format. -/
def FWidth.minUlp (w : FWidth) : Int := 2 - (FWidth.bias w : Int) - FWidth.prec w

/-- A floating-point datum: a NaN, an infinity, or ±m × 2^e. -/
inductive Fp
  | nan (signalling : Bool)
  | inf (neg : Bool)
  | fin (neg : Bool) (m : Nat) (e : Int)
deriving DecidableEq, Repr

/-- FSR bit 4, invalid (R156). -/
def fInvalid : BitVec 5 := 16#5
/-- FSR bit 3, division by zero. -/
def fDivZero : BitVec 5 := 8#5
/-- FSR bit 2, overflow. -/
def fOverflow : BitVec 5 := 4#5
/-- FSR bit 1, underflow. -/
def fUnderflow : BitVec 5 := 2#5
/-- FSR bit 0, inexact. -/
def fInexact : BitVec 5 := 1#5

/-- The datum of a register in a format; binary32 ignores bits [63:32]. -/
def fpOf (w : FWidth) (x : W64) : Fp :=
  let p := FWidth.prec w
  let n := x.toNat % 2 ^ FWidth.bits w
  let man := n % 2 ^ (p - 1)
  let ex := n / 2 ^ (p - 1) % (2 * FWidth.bias w + 2)
  let neg := n / 2 ^ (FWidth.bits w - 1) = 1
  if ex = 2 * FWidth.bias w + 1 then
    if man = 0 then .inf neg else .nan (man < 2 ^ (p - 2))
  else if ex = 0 then .fin neg man (FWidth.minUlp w)
  else .fin neg (man + 2 ^ (p - 1)) (FWidth.minUlp w + (ex - 1 : Nat))

/-- The sign bit of a format. -/
def signBits (w : FWidth) (neg : Bool) : Nat := if neg then 2 ^ (FWidth.bits w - 1) else 0

/-- The canonical quiet NaN (R154). -/
def canonNan (w : FWidth) : W64 :=
  match w with
  | .b64 => 0x7FF8000000000000#64
  | .b32 => 0x7FC00000#64

/-- An infinity. -/
def infBits (w : FWidth) (neg : Bool) : W64 :=
  BitVec.ofNat 64 (signBits w neg + (2 * FWidth.bias w + 1) * 2 ^ (FWidth.prec w - 1))

/-- A signed zero. -/
def zeroBits (w : FWidth) (neg : Bool) : W64 := BitVec.ofNat 64 (signBits w neg)

/-- The nearest integer to `(m + ε) / 2^k`, ties to even, where `sticky` says that 0 < ε < 1. -/
def roundShift (m k : Nat) (sticky : Bool) : Nat :=
  let q := m / 2 ^ k
  let r := m % 2 ^ k
  if k = 0 then m
  else if 2 ^ k < 2 * r || (2 * r == 2 ^ k && (sticky || q % 2 == 1)) then q + 1 else q

/-- Rounds ±(m + ε) × 2^e into a format, with the flags of the rounding (R153, R156). When `sticky` is set,
`m` has at least two bits more than the format. -/
def fpRound (w : FWidth) (neg : Bool) (m : Nat) (e : Int) (sticky : Bool) : W64 × BitVec 5 :=
  if m = 0 then (zeroBits w neg, 0)
  else
    let p := FWidth.prec w
    let free : Int := e + (Nat.log2 m + 1 : Nat) - p
    let ulp := max free (FWidth.minUlp w)
    let k := (ulp - e).toNat
    let q := if ulp < e then m * 2 ^ (e - ulp).toNat else roundShift m k sticky
    let inexact := sticky || (e < ulp && m % 2 ^ k != 0)
    let biased := ulp - FWidth.minUlp w + 1
    let body : Int := if q < 2 ^ (p - 1) then q else biased * 2 ^ (p - 1) + q - 2 ^ (p - 1)
    if (2 * FWidth.bias w + 1 : Nat) * 2 ^ (p - 1) ≤ body then (infBits w neg, fOverflow ||| fInexact)
    else
      let top := if roundShift m (free - e).toNat sticky = 2 ^ p then free + 1 else free
      let tiny := decide (top < FWidth.minUlp w)
      (BitVec.ofNat 64 (signBits w neg + body.toNat),
       (if inexact then fInexact else 0) ||| (if tiny && inexact then fUnderflow else 0))

/-- A NaN result, invalid set when `inv`. -/
def nanRes (w : FWidth) (inv : Bool) : W64 × BitVec 5 := (canonNan w, if inv then fInvalid else 0)

/-- A datum is a signalling NaN. -/
def Fp.snan : Fp → Bool
  | .nan s => s
  | _ => false

/-- A datum is a NaN. -/
def Fp.isNan : Fp → Bool
  | .nan _ => true
  | _ => false

/-- The sum of two finite data, rounded once. -/
def fpSum (w : FWidth) (na : Bool) (ma : Nat) (ea : Int) (nb : Bool) (mb : Nat) (eb : Int) : W64 × BitVec 5 :=
  let e := min ea eb
  let sa : Int := (if na then -1 else 1) * ((ma * 2 ^ (ea - e).toNat : Nat) : Int)
  let sb : Int := (if nb then -1 else 1) * ((mb * 2 ^ (eb - e).toNat : Nat) : Int)
  if sa + sb = 0 then (zeroBits w (na && nb), 0)
  else fpRound w (sa + sb < 0) (sa + sb).natAbs e false

/-- Addition. -/
def fpAdd (w : FWidth) (x y : Fp) : W64 × BitVec 5 :=
  match x, y with
  | .nan a, _ => nanRes w (a || y.snan)
  | _, .nan b => nanRes w b
  | .inf a, .inf b => if a = b then (infBits w a, 0) else nanRes w true
  | .inf a, .fin _ _ _ => (infBits w a, 0)
  | .fin _ _ _, .inf b => (infBits w b, 0)
  | .fin na ma ea, .fin nb mb eb => fpSum w na ma ea nb mb eb

/-- The datum with its sign inverted. -/
def Fp.negate : Fp → Fp
  | .nan s => .nan s
  | .inf a => .inf (!a)
  | .fin n m e => .fin (!n) m e

/-- Multiplication. -/
def fpMul (w : FWidth) (x y : Fp) : W64 × BitVec 5 :=
  match x, y with
  | .nan a, _ => nanRes w (a || y.snan)
  | _, .nan b => nanRes w b
  | .inf a, .inf b => (infBits w (a != b), 0)
  | .inf a, .fin n m _ | .fin n m _, .inf a => if m = 0 then nanRes w true else (infBits w (a != n), 0)
  | .fin na ma ea, .fin nb mb eb => fpRound w (na != nb) (ma * mb) (ea + eb) false

/-- Division; the quotient is taken with 64 bits beyond the longer operand. -/
def fpDiv (w : FWidth) (x y : Fp) : W64 × BitVec 5 :=
  match x, y with
  | .nan a, _ => nanRes w (a || y.snan)
  | _, .nan b => nanRes w b
  | .inf _, .inf _ => nanRes w true
  | .inf a, .fin n _ _ => (infBits w (a != n), 0)
  | .fin n _ _, .inf a => (zeroBits w (a != n), 0)
  | .fin na ma ea, .fin nb mb eb =>
    if mb = 0 then
      if ma = 0 then nanRes w true else (infBits w (na != nb), fDivZero)
    else if ma = 0 then (zeroBits w (na != nb), 0)
    else fpRound w (na != nb) (ma * 2 ^ 128 / mb) (ea - eb - 128) (ma * 2 ^ 128 % mb != 0)

/-- The integer square root, one bit of the result per step from bit `k - 1` down. -/
def isqrt (n : Nat) : Nat → Nat → Nat
  | 0, r => r
  | k + 1, r => isqrt n k (if (r + 2 ^ k) * (r + 2 ^ k) ≤ n then r + 2 ^ k else r)

/-- Square root. -/
def fpSqrt (w : FWidth) (x : Fp) : W64 × BitVec 5 :=
  match x with
  | .nan a => nanRes w a
  | .inf false => (infBits w false, 0)
  | .inf true => nanRes w true
  | .fin n m e =>
    if m = 0 then (zeroBits w n, 0)
    else if n then nanRes w true
    else
      let odd := (e % 2).toNat
      let a := m * 2 ^ (128 + odd)
      let r := isqrt a 96 0
      fpRound w false r ((e - odd - 128) / 2) (r * r != a)

/-- Fused multiply-add `x × y + z`, rounded once (R155). `open_` is the flag IEEE 754 leaves open. -/
def fpFma (w : FWidth) (open_ : Bool) (x y z : Fp) : W64 × BitVec 5 :=
  let zeroInf : Bool := match x, y with
    | .inf _, .fin _ m _ | .fin _ m _, .inf _ => m == 0
    | _, _ => false
  if x.snan || y.snan || z.snan then nanRes w true
  else if zeroInf then nanRes w (!z.isNan || open_)
  else if x.isNan || y.isNan || z.isNan then nanRes w false
  else
    match x, y, z with
    | .fin na ma ea, .fin nb mb eb, .fin nc mc ec => fpSum w (na != nb) (ma * mb) (ea + eb) nc mc ec
    | .fin _ _ _, .fin _ _ _, .inf c => (infBits w c, 0)
    | .inf a, .inf b, z | .inf a, .fin b _ _, z | .fin a _ _, .inf b, z =>
      match z with
      | .inf c => if c = (a != b) then (infBits w c, 0) else nanRes w true
      | _ => (infBits w (a != b), 0)
    | _, _, _ => nanRes w false

/-- The order key of a datum that is not a NaN: its sign and magnitude, infinities beyond all (R154). -/
def fpLess : Fp → Fp → Bool
  | .inf a, .inf b => a && !b
  | .inf a, .fin _ _ _ => a
  | .fin _ _ _, .inf b => !b
  | .fin na ma ea, .fin nb mb eb =>
    let e := min ea eb
    let a : Int := (if na then -1 else 1) * ((ma * 2 ^ (ea - e).toNat : Nat) : Int)
    let b : Int := (if nb then -1 else 1) * ((mb * 2 ^ (eb - e).toNat : Nat) : Int)
    decide (a < b)
  | _, _ => false

/-- The sign of a datum. -/
def Fp.neg : Fp → Bool
  | .nan _ => false
  | .inf a => a
  | .fin n _ _ => n

/-- The smaller (or larger) of two data, −0 below +0, a NaN for a NaN (R154). `x` and `y` are their bits. -/
def fpMinMax (w : FWidth) (larger : Bool) (x y : W64) : W64 × BitVec 5 :=
  let a := fpOf w x
  let b := fpOf w y
  let cut (z : W64) : W64 := BitVec.ofNat 64 (z.toNat % 2 ^ FWidth.bits w)
  if a.isNan || b.isNan then nanRes w (a.snan || b.snan)
  else
    let less := fpLess a b || (!fpLess b a && a.neg && !b.neg)
    (cut (if less = larger then y else x), 0)

/-- FEQ: quiet comparison (R154). -/
def fpEq (a b : Fp) : W64 × BitVec 5 :=
  if a.isNan || b.isNan then (0, if a.snan || b.snan then fInvalid else 0)
  else (if fpLess a b || fpLess b a then 0 else 1, 0)

/-- FLT and FLE: signalling comparisons (R154). -/
def fpCmp (orEq : Bool) (a b : Fp) : W64 × BitVec 5 :=
  if a.isNan || b.isNan then (0, fInvalid)
  else (if fpLess a b || (orEq && !fpLess b a) then 1 else 0, 0)

/-- The nearest integer to ±m × 2^e, ties to even. -/
def fpNearest (neg : Bool) (m : Nat) (e : Int) : Int :=
  let q : Nat := if 0 ≤ e then m * 2 ^ e.toNat else roundShift m (-e).toNat false
  if neg then -(q : Int) else q

/-- FCVTI (R153). -/
def fpToInt (x : Fp) : W64 × BitVec 5 :=
  match x with
  | .nan _ => (0, fInvalid)
  | .inf a => (if a then BitVec.intMin 64 else BitVec.intMax 64, fInvalid)
  | .fin n m e =>
    let i := fpNearest n m e
    if i < -(2 ^ 63) then (BitVec.intMin 64, fInvalid)
    else if 2 ^ 63 ≤ i then (BitVec.intMax 64, fInvalid)
    else (BitVec.ofInt 64 i, 0)

/-- FCVTF. -/
def fpOfInt (w : FWidth) (i : Int) : W64 × BitVec 5 := fpRound w (i < 0) i.natAbs 0 false

/-- FCVTW: a datum into a format. -/
def fpConv (w : FWidth) (x : Fp) : W64 × BitVec 5 :=
  match x with
  | .nan a => nanRes w a
  | .inf a => (infBits w a, 0)
  | .fin n m e => fpRound w n m e false

end Sys2Proof.Machine
end

