-- ==== Sys2Proof/Machine/Axes.lean ====
section
/-! DEFINITION. AXIS (R152, R165, R335). -/
namespace Sys2Proof.Machine

/-- The byte offset of word `i` in the record of an axis, for a configured axis (R23, R152). -/
def View.axisWord (v : View) (a i : Nat) : Option Nat :=
  match v.img.axis with
  | some c => if a < 1024 && c.axes.any fun r => r.axis = a then some (64 * a + 8 * i) else none
  | none => none

/-- The point reference of an axis word, of type INT64, for a violation record (R234). -/
def axisPoint (area o : Nat) : Nat := area * 2 ^ 30 + 3 * 2 ^ 27 + o * 8

/-- AXRD (R152): Wd := word i of the AXIN record of axis Ws. -/
def execAxrd (e : EngRef) (d s1 : Reg) (i : Imm) (s : State) : Host.Outcome State Fault Refusal :=
  s.op e (opWord 0xC0 d s1 i) 3 fun v => 
    match v.axisWord (v.r s1).toNat i.toNat with
    | none => .error (exc xBadAxis)
    | some o =>
      match v.readBytes .axIn o 8 with
      | some bs => .ok (v.w d (BitVec.ofNat 64 (leNat bs)))
      | none => .error ⟨xImgRange, false, some (axisPoint 2 o)⟩

/-- AXWR (R152): word i of the AXOUT record of axis Ws := Wd. -/
def execAxwr (e : EngRef) (d s1 : Reg) (i : Imm) (s : State) : Host.Outcome State Fault Refusal :=
  s.op e (opWord 0xC1 d s1 i) 2 fun v => 
    match v.axisWord (v.r s1).toNat i.toNat with
    | none => .error (exc xBadAxis)
    | some o =>
      if v.writable .axOut o 8 then .ok (v.putBytes .axOut o (leBytes (v.r d).toNat 8))
      else .error ⟨xImgRange, true, some (axisPoint 3 o)⟩

/-- AXMP (R335): pair := position of master i. -/
def execAxmp (e : EngRef) (d : Reg) (i : Imm) (s : State) : Host.Outcome State Fault Refusal :=
  s.op e (opWord 0xC2 d 0 i) 4 fun v => 
    if !pairOk d then .error (exc xBadReg)
    else if !(v.img.cls v.cls).mtable then .error ⟨xImgRange, false, none⟩
    else
      let o := 32 * i.toNat
      .ok (v.w2 d (BitVec.ofNat 64 (memNat v.ctx.mtab o 8)) (BitVec.ofNat 64 (memNat v.ctx.mtab (o + 8) 4)))

/-- AXMV (R335): Wd := velocity word of master i. -/
def execAxmv (e : EngRef) (d : Reg) (i : Imm) (s : State) : Host.Outcome State Fault Refusal :=
  s.op e (opWord 0xC3 d 0 i) 3 fun v => 
    if !(v.img.cls v.cls).mtable then .error ⟨xImgRange, false, none⟩
    else .ok (v.w d (BitVec.ofNat 64 (memNat v.ctx.mtab (32 * i.toNat + 16) 8)))

/-- TADD (R165): pair Wd := pair Wd + pair Ws. -/
def execTadd (e : EngRef) (d s1 : Reg) (s : State) : Host.Outcome State Fault Refusal :=
  s.op e (opWord 0xC4 d s1 0) 2 fun v => 
    if pairOk d && pairOk s1 then .ok (v.wTurn d (v.turnOf d + v.turnOf s1)) else .error (exc xBadReg)

/-- TSUB (R165): pair Wd := pair Wd − pair Ws. -/
def execTsub (e : EngRef) (d s1 : Reg) (s : State) : Host.Outcome State Fault Refusal :=
  s.op e (opWord 0xC5 d s1 0) 2 fun v => 
    if pairOk d && pairOk s1 then .ok (v.wTurn d (v.turnOf d - v.turnOf s1)) else .error (exc xBadReg)

/-- TTOF (R165): Wd := pair Ws in turns as binary64. -/
def execTtof (e : EngRef) (d s1 : Reg) (s : State) : Host.Outcome State Fault Refusal :=
  s.op e (opWord 0xC6 d s1 0) 4 fun v => 
    if pairOk s1 then
      let x := v.turnOf s1
      .ok (v.w d (fpRound .b64 (x < 0) x.natAbs (-32) false).1)
    else .error (exc xBadReg)

/-- TFRF (R165): pair Wd := binary64 Ws turns, at 2^-32 turn. -/
def execTfrf (e : EngRef) (d s1 : Reg) (s : State) : Host.Outcome State Fault Refusal :=
  s.op e (opWord 0xC7 d s1 0) 4 fun v => 
    if pairOk d then
      match fpOf .b64 (v.r s1) with
      | .fin n m x =>
        if (2 : Nat) ^ 95 ≤ (fpNearest false m (x + 32)).toNat then .error (exc xTurnRange)
        else .ok (v.wTurn d (fpNearest n m (x + 32)))
      | _ => .error (exc xTurnRange)
    else .error (exc xBadReg)

/-- TCMP (R165): Wd := −1, 0 or 1 as pair Wd is less than, equal to or greater than pair Ws. -/
def execTcmp (e : EngRef) (d s1 : Reg) (s : State) : Host.Outcome State Fault Refusal :=
  s.op e (opWord 0xC8 d s1 0) 2 fun v => 
    if pairOk d && pairOk s1 then
      let x := v.turnOf d
      let y := v.turnOf s1
      .ok (v.w d (if x < y then BitVec.allOnes 64 else if x = y then 0 else 1))
    else .error (exc xBadReg)

end Sys2Proof.Machine
end

