-- ==== Sys2Proof/Machine/Bits.lean ====
section
/-! DEFINITION. BIT (R152). -/
namespace Sys2Proof.Machine

/-- The shifts of SHI: left, logical right, arithmetic right, rotate right (R152). -/
def shiftImm (x : W64) (kind n : Nat) : W64 :=
  match kind with
  | 0 => x <<< n
  | 1 => x >>> n
  | 2 => x.sshiftRight n
  | _ => x.rotateRight n

/-- The zero bits above the highest one among the `n` low bits. -/
def leadZeros (x : W64) : Nat → Nat
  | 0 => 0
  | n + 1 => if x.getLsbD n then 0 else 1 + leadZeros x n

/-- A bit field, zero- or sign-extended (R152). -/
def extField (x : W64) (lsb w : Nat) (signed : Bool) : W64 :=
  if signed then ((x >>> lsb).truncate w).signExtend 64 else ((x >>> lsb).truncate w).zeroExtend 64

/-- AND (R152). -/
def execAnd (e : EngRef) (d s1 : Reg) (s : State) : Host.Outcome State Fault Refusal :=
  s.opReg e (opWord 0x50 d s1 0) 1 d fun v => v.r d &&& v.r s1

/-- OR (R152). -/
def execOr (e : EngRef) (d s1 : Reg) (s : State) : Host.Outcome State Fault Refusal :=
  s.opReg e (opWord 0x51 d s1 0) 1 d fun v => v.r d ||| v.r s1

/-- XOR (R152). -/
def execXor (e : EngRef) (d s1 : Reg) (s : State) : Host.Outcome State Fault Refusal :=
  s.opReg e (opWord 0x52 d s1 0) 1 d fun v => v.r d ^^^ v.r s1

/-- NOT (R152): Wd := NOT Ws. -/
def execNot (e : EngRef) (d s1 : Reg) (s : State) : Host.Outcome State Fault Refusal :=
  s.opReg e (opWord 0x53 d s1 0) 1 d fun v => ~~~(v.r s1)

/-- ANDI (R152): i zero-extended. -/
def execAndi (e : EngRef) (d s1 : Reg) (i : Imm) (s : State) : Host.Outcome State Fault Refusal :=
  s.opReg e (opWord 0x54 d s1 i) 1 d fun v => v.r s1 &&& i.zeroExtend 64

/-- ORI (R152). -/
def execOri (e : EngRef) (d s1 : Reg) (i : Imm) (s : State) : Host.Outcome State Fault Refusal :=
  s.opReg e (opWord 0x55 d s1 i) 1 d fun v => v.r s1 ||| i.zeroExtend 64

/-- XORI (R152). -/
def execXori (e : EngRef) (d s1 : Reg) (i : Imm) (s : State) : Host.Outcome State Fault Refusal :=
  s.opReg e (opWord 0x56 d s1 i) 1 d fun v => v.r s1 ^^^ i.zeroExtend 64

/-- SHL (R152): by Ws[5:0]. -/
def execShl (e : EngRef) (d s1 : Reg) (s : State) : Host.Outcome State Fault Refusal :=
  s.opReg e (opWord 0x57 d s1 0) 1 d fun v => v.r d <<< ((v.r s1).toNat % 64)

/-- SHR (R152): logical, by Ws[5:0]. -/
def execShr (e : EngRef) (d s1 : Reg) (s : State) : Host.Outcome State Fault Refusal :=
  s.opReg e (opWord 0x58 d s1 0) 1 d fun v => v.r d >>> ((v.r s1).toNat % 64)

/-- SAR (R152): arithmetic, by Ws[5:0]. -/
def execSar (e : EngRef) (d s1 : Reg) (s : State) : Host.Outcome State Fault Refusal :=
  s.opReg e (opWord 0x59 d s1 0) 1 d fun v => (v.r d).sshiftRight ((v.r s1).toNat % 64)

/-- SHI (R152): Ws shifted by i[5:0], the kind in i[7:6]. -/
def execShi (e : EngRef) (d s1 : Reg) (i : Imm) (s : State) : Host.Outcome State Fault Refusal :=
  s.opReg e (opWord 0x5A d s1 i) 1 d fun v => shiftImm (v.r s1) (i.toNat / 64 % 4) (i.toNat % 64)

/-- BTST (R152): Wd := bit i[5:0] of Ws. -/
def execBtst (e : EngRef) (d s1 : Reg) (i : Imm) (s : State) : Host.Outcome State Fault Refusal :=
  s.opReg e (opWord 0x5B d s1 i) 1 d fun v => boolWord ((v.r s1).getLsbD (i.toNat % 64))

/-- BSET (R152). -/
def execBset (e : EngRef) (d s1 : Reg) (i : Imm) (s : State) : Host.Outcome State Fault Refusal :=
  s.opReg e (opWord 0x5C d s1 i) 1 d fun v => v.r s1 ||| (1#64 <<< (i.toNat % 64))

/-- BCLR (R152). -/
def execBclr (e : EngRef) (d s1 : Reg) (i : Imm) (s : State) : Host.Outcome State Fault Refusal :=
  s.opReg e (opWord 0x5D d s1 i) 1 d fun v => v.r s1 &&& ~~~(1#64 <<< (i.toNat % 64))

/-- CLZ (R152): leading zero bits of Ws. -/
def execClz (e : EngRef) (d s1 : Reg) (s : State) : Host.Outcome State Fault Refusal :=
  s.opReg e (opWord 0x5E d s1 0) 1 d fun v => BitVec.ofNat 64 (leadZeros (v.r s1) 64)

/-- EXT (R152): bits of Ws from lsb i[11:6], width i[5:0] + 1, sign-extended when i[12]. -/
def execExt (e : EngRef) (d s1 : Reg) (i : Imm) (s : State) : Host.Outcome State Fault Refusal :=
  s.opReg e (opWord 0x5F d s1 i) 1 d fun v => extField (v.r s1) (i.toNat / 64 % 64) (i.toNat % 64 + 1) (i.getLsbD 12)

end Sys2Proof.Machine
end

