-- ==== Sys2Proof/Machine/Build.lean ====
section
/-! DEFINITION. BUILD_POINT, BUILD_DONE and FRAME_LAUNCH: the frames of a tick and their launches (R52, R53, R63-R65,
R73, R267-R270, R286-R290, R306, R307, R313, R316, R439, R467, R469, R481). -/
namespace Sys2Proof.Machine

/-! ### Frames of a build (R267, R286-R289, R306, R316) -/

/-- The record of a station in a CYC_OUT frame (R286). -/
def cycRecord (i : Image) (out : Areas) (r : StationRec) : List Byte :=
  leBytes (stnAddr r.station).toNat 2 ++ leBytes r.outLen 2 ++ [0, 0, 0, 0] ++ out.gather (i.ranges r.station true)

/-- A frame in the making: its stations, their records, whether it is shared, and its version. -/
structure Train where
  stns : List Nat
  body : List Byte
  shared : Bool
  ver : Nat
  deriving DecidableEq, Repr

/-- Packs records into frames in the order of the STATION section (R288). -/
def packTrains : List Train → List (StationRec × Nat × List Byte) → List Train
  | acc, [] => acc
  | acc, (r, ver, bs) :: rest =>
    let may := r.train && decide (2 ≤ ver)
    match acc.getLast? with
    | some t =>
      if may && t.shared && decide (t.body.length + bs.length ≤ 1482) then
        packTrains (acc.dropLast ++ [{ t with stns := t.stns ++ [r.station], body := t.body ++ bs, ver := min t.ver ver }]) rest
      else packTrains (acc ++ [⟨[r.station], bs, may, ver⟩]) rest
    | none => packTrains (acc ++ [⟨[r.station], bs, may, ver⟩]) rest

/-- ADDR of a frame: its one station, or MULTI (R281). -/
def trainAddr (t : Train) : Nat :=
  match t.stns with
  | [s] => (stnAddr s).toNat
  | s :: _ => s / 512 * 2 ^ 14 + 2 ^ 13
  | [] => 0

/-- Builds the frames of one port from a moment of line time in tenths of a ns on, into entries from `entry` (R289). -/
def Mod.buildTrains (m : Mod) (port n : Nat) (fast relay : Bool) : Nat → Nat → List Train → Mod
  | _, _, [] => m
  | start, entry, t :: rest =>
    let (f, m) := m.tspFrame port t.ver 1 (trainAddr t) (n + 1) t.body
    let e : TxEntry := ⟨start / 10, f.bytes, 1, 0, t.stns.headD 0, 0, n, 0, relay, t.stns, f⟩
    let m := m.setPort port fun p =>
      if relay then { p with relayQ := tabSet p.relayQ entry e } else { p with txq := tabSet p.txq entry e }
    m.buildTrains port n fast relay (start + wireTime fast f.bytes) (entry + 1) rest

/-- The first entry of the half of a queue that a tick builds (R268). -/
def halfBase (n : Nat) : Nat := if n % 2 = 0 then 0 else 384

/-- Clears the entries that the build of a tick reuses. -/
def Mod.clearHalf (m : Mod) (port n : Nat) : Mod :=
  let lo := halfBase n
  m.setPort port fun p =>
    { p with txq := p.txq.filter fun e => !(decide (lo ≤ e.1) && decide (e.1 < lo + 384))
             relayQ := p.relayQ.filter fun e => !decide (e.1 < 880) }

/-- The cyclic frames of a segment for tick n + 1 (R288, R306, R467). -/
def Mod.buildSegment (m : Mod) (i : Image) (port n : Nat) (all : Bool) : Mod :=
  let out := m.pantry.outCopy n
  let due := i.stations.filter fun r =>
    r.station / 512 = port && (m.stn r.station).state = .run && (all || (n + 1) % r.ks = 0)
  let recs (relay : Bool) : List (StationRec × Nat × List Byte) :=
    (due.filter fun r => (m.stn r.station).relayed == relay).map fun r => (r, (m.stn r.station).ver, cycRecord i out r)
  let fast := i.portRate.getD port false
  let own := packTrains [] (recs false)
  let rel := packTrains [] (recs true)
  let start := 10 * ((n + 1) * i.tickNs + i.opNs port)
  let m := m.clearHalf port n
  (m.buildTrains port n fast false start (halfBase n) own).buildTrains port n fast true (start + 40000) 768 rel

/-- The PEER frame for tick n + 1 (R316). -/
def Mod.buildPeer (m : Mod) (i : Image) (port n : Nat) : Mod :=
  let m := m.clearHalf port n
  match i.peer with
  | some c =>
    if 0 < i.kp && (n + 1) % i.kp = 0 then
      let block := memRead (m.pantry.outCopy n).imgOut c.outStart c.outLen
      let payload := leBytes i.domain 1 ++ [0] ++ leBytes c.outLen 2 ++ block
      let f : Frame := ⟨true, false, groupAddr i.domain port true, Config.portMac port, m.etype, 1, 9, m.pair.epoch, 0, 0,
        BitVec.ofNat 32 (n + 1), payload.length, 0, payload, 0⟩
      let f := { f with e2e := f.e2eOf }
      let e : TxEntry := ⟨(n + 1) * i.tickNs + i.opNs port, f.bytes, 3, 0, 0, 0, n, 0, false, [], f⟩
      m.setPort port fun p => { p with txq := tabSet p.txq (halfBase n) e }
    else m
  | none => m

/-- The build of tick n reads the images as they stand (R265, R267). -/
def Mod.build (m : Mod) (i : Image) : Mod :=
  let n := m.sched.tick
  let all := m.pair.firstBuild && m.controls
  let m := (tabOf 0 i.portRole).foldl (fun m p =>
    match p.2 with
    | .segment => m.buildSegment i p.1 n all
    | .peer => m.buildPeer i p.1 n
    | .unused => m) m
  { m with sched := { m.sched with built := true, buildEnd := false }
           pair := { m.pair with firstBuild := m.pair.firstBuild && !m.controls } }

/-- At pair feature level 1 the owner releases OWN at t_B of tick s−1, before its build (R481). -/
def Mod.releaseAtBuild (m : Mod) (i : Image) : Mod :=
  let n := m.sched.tick
  if m.pair.plan.st = .waiting && m.pair.role = .owner && m.pair.pfl = 1 && (n + 1) % i.kmax = 0
      && decide (m.pair.plan.since + 100000000 ≤ m.now) && m.cyclicDone && m.prog.events.isEmpty then
    let m := m.toRole .shadow 8
    let m := { m with bolt := { m.bolt with ownSelf := false, request := false, raisedAt := none }
                      pair := { m.pair with shadowTiming := true, ready := true
                                            plan := { m.pair.plan with st := .go, tick := some (n + 1), released := true } } }
    m.hallSend 0 fun h => .mPlan h true (n + 1) []
  else m

/-- The moment of line time of t_B of the tick, in ns: after the raise on owner timing (R52, R54, R467). -/
def Mod.buildAt (m : Mod) (i : Image) : Nat :=
  let n := m.sched.tick
  (if m.controls && m.gate then n * i.tickNs else m.edgeAt i n) + 50 * i.proof.buildPt

/-- BUILD_POINT (R52): frame build starts; M not published by then overruns (R63, R68). -/
def execBuildPoint (t : Nat) (s : State) : Host.Outcome State Fault Refusal :=
  s.doesPair fun m =>
    let m := m.start t
    match m.prog.image with
    | none => m
    | some i =>
      if !m.sched.running || m.sched.built || decide (m.ltNs < m.buildAt i) then m
      else
        let m := if (m.run 0).running && !m.test.halted && !m.test.halting then m.overrun i 0 0 else m
        (m.releaseAtBuild i).build i

/-! ### The end of the build -/

/-- An entry becomes LATE_DROPPED: it is counted (R53, R74). -/
def Mod.lateEntry (m : Mod) (port : Nat) : Mod :=
  let m := m.setPort port fun p => { p with lateDropped := inc32 p.lateDropped }
  { m with sched := { m.sched with lateDropped := inc32 m.sched.lateDropped } }

/-- Marks the entries of the tick as built, or late (R53, R270). -/
def Mod.markBuilt (m : Mod) (port : Nat) : Mod :=
  let n := m.sched.tick
  let lt := m.ltNs
  (m.port port).txq.foldl (fun m e =>
    if e.2.state = 0 && e.2.tick = n then
      if e.2.launch < lt then
        (m.setPort port fun p => { p with txq := tabSet p.txq e.1 { e.2 with state := 3 } }).lateEntry port
      else m.setPort port fun p => { p with txq := tabSet p.txq e.1 { e.2 with state := 1 } }
    else m) m

/-- Hands the relay frames of the tick to the partner (R306). -/
def Mod.sendRelays (m : Mod) (port : Nat) : Mod :=
  let n := m.sched.tick
  if !m.controls then m
  else
    (m.port port).relayQ.foldl (fun m e =>
      if e.2.state = 0 && e.2.tick = n then
        let x := { e.2 with state := 1 }
        (m.setPort port fun p => { p with relayQ := tabSet p.relayQ e.1 x, relayed := inc32 p.relayed }).hallSend 1
          fun h => .mRelayDn h port e.1 x
      else m) m

/-- BUILD_DONE (R265, R270): the last byte of every cyclic frame is written. -/
def execBuildDone (t : Nat) (s : State) : Host.Outcome State Fault Refusal :=
  s.does fun m =>
    let m := m.start t
    if m.sched.built && !m.sched.buildEnd then
      (((List.range 4).foldl (fun m p => (m.markBuilt p).sendRelays p) m)).endBuild
    else m

/-! ### Launches -/

/-- A frame of `w` ns from a moment of line time lies clear of the reserved intervals of a port (R73, R313). -/
def windowOpen (i : Image) (port lt w : Nat) : Bool :=
  let x := lt % i.tickNs
  let o := i.opNs port
  let (oEnd, iStart) := i.interval port
  let iEnd := i.tickNs - 1000
  let clear (a b : Nat) : Bool := decide (x + w ≤ a) || decide (b ≤ x)
  clear o oEnd && clear iStart iEnd && decide (x + w ≤ i.tickNs + o)

/-- A cyclic frame that was sent makes a record due at a station (R290). -/
def Mod.makeDue (m : Mod) (i : Image) (port entry : Nat) (e : TxEntry) (k : Nat) : Mod :=
  match i.station k with
  | some r =>
    if (e.tick + 1) % r.ks = 0 then
      m.setStn k fun s => { s with due := s.due ++ [⟨e.tick + 1 + r.ks, e.frame.tick.toNat, port, entry⟩] }
    else m
  | none => m

/-- What the launch of an entry at a moment of line time sets off besides the frame on the wire (R290, R299, R310). -/
def Mod.entrySent (m : Mod) (i : Image) (port entry lt : Nat) (e : TxEntry) : Mod :=
  if e.kind = 1 then e.stations.foldl (fun m k => m.makeDue i port entry e k) m
  else if e.kind = 2 then
    if e.frame.type = 7 then m.setStn e.station fun s => { s with sentAt := lt }
    else if e.frame.type = 3 then
      m.setStn e.station fun s =>
        { s with flight := s.flight.map fun x =>
            if x.reqId = e.item then
              { x with firstSend := some (x.firstSend.getD lt), lastSend := some lt } else x }
    else m
  else m

/-- A frame of this module's own port goes out. -/
def Mod.launched (m : Mod) (i : Image) (port entry : Nat) (e : TxEntry) : Mod :=
  let m := (m.setPort port fun p => { p with txFrames := inc32 p.txFrames }).emit (.frame port e.frame)
  m.entrySent i port entry m.ltNs e

/-- An entry that passed unlaunched after the partner's OWN fell (R469). -/
def Mod.lateSwEntry (m : Mod) (port : Nat) : Mod :=
  let m := m.lateEntry port
  { m with pair := { m.pair with lateSw := inc32 m.pair.lateSw } }

/-- Changes an entry of a port's own queue. -/
def Mod.setEntry (m : Mod) (port entry : Nat) (e : Option TxEntry) : Mod :=
  m.setPort port fun p =>
    { p with txq := match e with | some e => tabSet p.txq entry e | none => tabDel p.txq entry }

/-- The launch of a relay frame that the partner built (R307). -/
def Mod.launchRelay (m : Mod) (port entry : Nat) (e : TxEntry) : Mod :=
  let m := m.setEntry port entry none
  if !m.bolt.ownSelf && m.bolt.ownPartner then
    let lt := m.ltNs
    ((m.setPort port fun p => { p with txFrames := inc32 p.txFrames }).emit (.frame port e.frame)).hallSend 1
      fun h => .mRelayRpt h port entry 2 lt
  else if m.bolt.ownPartner then m.hallSend 1 fun h => .mRelayRpt h port entry 3 0
  else if m.pair.fallTick.isSome then m.lateSwEntry port
  else m

/-- FRAME_LAUNCH (R53): a built entry at its launch time goes out through an open gate; an acyclic one waits for time
outside the reserved intervals (R73). -/
def execFrameLaunch (t : Nat) (port entry : Nat) (s : State) : Host.Outcome State Fault Refusal :=
  s.does fun m =>
    let m := m.start t
    match m.prog.image, tabFind (m.port port).txq entry with
    | some i, some e =>
      if e.state ≠ 1 || decide (m.ltNs < e.launch) then m
      else
        let w := wireTime (i.portRate.getD port false) e.len / 10 + 1
        let free := e.kind ≠ 2 || e.launch ≠ 0 || windowOpen i port m.ltNs w
        if !free then m
        else if e.relay then m.launchRelay port entry e
        else if m.gate then
          (m.setEntry port entry (some { e with state := 2, sent := m.ltNs })).launched i port entry e
        else if m.controls then
          if e.kind = 2 then m
          else (m.setEntry port entry (some { e with state := 3 })).lateEntry port
        else if m.pair.fallTick.isSome && e.kind ≠ 2 then
          (m.setEntry port entry (some { e with state := 3 })).lateSwEntry port
        else m.setEntry port entry none
    | _, _ => m

end Sys2Proof.Machine
end

