-- ==== Sys2Proof/Machine/Sys.lean ====
section
/-! DEFINITION. SYS and BAD_OPCODE (R152, R168-R170). -/
namespace Sys2Proof.Machine

/-- The words of SRFX and RFXF (R152): pins, or the outputs of the cells. -/
def reflexWord (pinsIn pinsOut : BitVec 16) (cells : W64) : Nat → Option W64
  | 0 => some (BitVec.ofNat 64 (pinsIn.toNat + pinsOut.toNat * 2 ^ 16))
  | 1 => some cells
  | _ => none

/-- The requests an execution has issued so far. -/
def Ctx.issued (c : Ctx) : Nat := (c.req.filter fun r => match r with | .arm _ => false | _ => true).length

/-- The requests an execution has copied into REQ so far. -/
def Ctx.copied (c : Ctx) : Nat := (c.req.filter fun r => match r with | .req _ _ => true | _ => false).length

/-- `n` fields of the current instance. -/
def View.fields (v : View) (i : Nat) : Nat → Except Exc (List W64)
  | 0 => .ok []
  | n + 1 =>
    match v.field v.eng.ib i, v.fields (i + 1) n with
    | .ok x, .ok xs => .ok (x :: xs)
    | .error e, _ => .error e
    | _, .error e => .error e

/-- REQ (R169, R308): a block in the state or scratch words, of a defined kind and length; past 64 outstanding
requests the id reads REFUSED_FULL and nothing is copied. -/
def View.request (v : View) (d : Reg) (i : Nat) : Res :=
  if i < 2 then .error ⟨xFieldRange, false, some (instAddr v.eng.ib i)⟩
  else
    match v.field v.eng.ib i with
    | .error x => .error x
    | .ok w =>
      let kind := w.toNat % 2 ^ 16
      let n := w.toNat / 2 ^ 16 % 2 ^ 16
      if n = 0 ∨ 32 < n ∨ (kind ≠ 2 ∧ kind ≠ 3) then .error (exc xReqFormat)
      else
        match v.fields i n with
        | .error x => .error x
        | .ok ws =>
          let id := clsCode v.cls * 2 ^ 29 + (v.ctx.snap.reqBase + v.ctx.issued) % 2 ^ 29
          let r : ReqRec := if 64 ≤ v.ctx.snap.reqOut + v.ctx.copied then .full id else .req id ws
          let v := v.w d (BitVec.ofNat 64 id)
          .ok { v with ctx := { v.ctx with req := v.ctx.req ++ [r] } }

/-- What RQST returns for an id (R170): a request of this execution is issued or REFUSED_FULL, another as the
sampled set of the release had it. -/
def View.requestState (v : View) (id : Nat) : Nat :=
  if v.ctx.req.any fun r => match r with | .req k _ => k = id | _ => false then 0
  else if v.ctx.req.any fun r => match r with | .full k => k = id | _ => false then 3
  else match v.ctx.snap.rqst.find? fun p => p.1 = id with
    | some p => p.2.code
    | none => 0xFF

/-- The opcodes of the tables of R152. -/
def isOpcode (n : Nat) : Bool :=
  decide (n ≤ 0x0E) || (decide (0x10 ≤ n) && decide (n ≤ 0x1C)) || (decide (0x20 ≤ n) && decide (n ≤ 0x4B))
    || (decide (0x50 ≤ n) && decide (n ≤ 0x62)) || (decide (0x70 ≤ n) && decide (n ≤ 0x74))
    || (decide (0x80 ≤ n) && decide (n ≤ 0x82)) || (decide (0x90 ≤ n) && decide (n ≤ 0x93))
    || (decide (0xA0 ≤ n) && decide (n ≤ 0xA5)) || (decide (0xB0 ≤ n) && decide (n ≤ 0xB4))
    || (decide (0xC0 ≤ n) && decide (n ≤ 0xC8)) || (decide (0xD0 ≤ n) && decide (n ≤ 0xDA))

/-- TICK (R152): the release tick of the execution. -/
def execTick (e : EngRef) (d : Reg) (s : State) : Host.Outcome State Fault Refusal :=
  s.opReg e (opWord 0xD0 d 0 0) 1 d fun v => BitVec.ofNat 64 v.ctx.snap.relTick

/-- CLK (R152, R192): the task clock at this release. -/
def execClk (e : EngRef) (d : Reg) (s : State) : Host.Outcome State Fault Refusal :=
  s.opReg e (opWord 0xD1 d 0 0) 1 d fun v => BitVec.ofNat 64 v.ctx.snap.clk

/-- FIRST (R152, R191). -/
def execFirst (e : EngRef) (d : Reg) (s : State) : Host.Outcome State Fault Refusal :=
  s.opReg e (opWord 0xD2 d 0 0) 1 d fun v => boolWord v.ctx.snap.first

/-- KEY (R152, R183): the pair mode. -/
def execKey (e : EngRef) (d : Reg) (s : State) : Host.Outcome State Fault Refusal :=
  s.opReg e (opWord 0xD3 d 0 0) 1 d fun v => BitVec.ofNat 64 v.ctx.snap.key.code

/-- TT0 (R152): pair := line time at t0 of the release tick. -/
def execTt0 (e : EngRef) (d : Reg) (s : State) : Host.Outcome State Fault Refusal :=
  s.op e (opWord 0xD4 d 0 0) 2 fun v => if pairOk d then .ok (v.wTime d v.ctx.snap.lt) else .error (exc xBadReg)

/-- RFXF (R152, R373): frozen reflex pins or cells. -/
def execRfxf (e : EngRef) (d : Reg) (i : Imm) (s : State) : Host.Outcome State Fault Refusal :=
  s.op e (opWord 0xD5 d 0 i) 1 fun v => 
    match reflexWord v.ctx.snap.pinsIn v.ctx.snap.pinsOut v.ctx.snap.cells i.toNat with
    | some x => .ok (v.w d x)
    | none => .error (exc xBadSource)

/-- ARM (R168, R372): reflex arm bits := Ws, after the vote. -/
def execArm (e : EngRef) (s1 : Reg) (s : State) : Host.Outcome State Fault Refusal :=
  s.op e (opWord 0xD6 0 s1 0) 2 fun v => .ok { v with ctx := { v.ctx with req := v.ctx.req ++ [.arm (v.r s1)] } }

/-- REQ (R169): issues the request block at F[i]. -/
def execReq (e : EngRef) (d : Reg) (i : Imm) (s : State) : Host.Outcome State Fault Refusal :=
  s.op e (opWord 0xD7 d 0 i) 40 fun v => v.request d i.toNat

/-- RQST (R170): the state of request id Ws. -/
def execRqst (e : EngRef) (d s1 : Reg) (s : State) : Host.Outcome State Fault Refusal :=
  s.opReg e (opWord 0xD8 d s1 0) 3 d fun v => BitVec.ofNat 64 (v.requestState (v.r s1).toNat)

/-- FST (R156): Wd := FSR, then FSR := 0. -/
def execFst (e : EngRef) (d : Reg) (s : State) : Host.Outcome State Fault Refusal :=
  s.op e (opWord 0xD9 d 0 0) 1 fun v => 
    let x := v.eng.fsr
    let v := v.w d (x.zeroExtend 64)
    .ok { v with eng := { v.eng with fsr := 0 } }

/-- EVR (R199): word i of the event record of the running error task. -/
def execEvr (e : EngRef) (d : Reg) (i : Imm) (s : State) : Host.Outcome State Fault Refusal :=
  s.op e (opWord 0xDA d 0 i) 2 fun v => 
    match v.ctx.snap.event with
    | some ev =>
      if i.toNat < 8 then .ok (v.w d (BitVec.ofNat 64 (leNat ((eventBytes ev).drop (8 * i.toNat) |>.take 8))))
      else .error (exc xBadSource)
    | none => .error (exc xBadSource)

/-- BAD_OPCODE (R152): a word whose opcode no table holds, reached at run time. -/
def execBadOpcode (e : EngRef) (word : W32) (s : State) : Host.Outcome State Fault Refusal :=
  if isOpcode (word >>> 24).toNat then s.does Mod.quiet
  else s.op e word 1 fun _ => .error ⟨xBadOpcode, false, none⟩

end Sys2Proof.Machine
end

