-- ==== Sys2Proof/Machine/CodeCheck.lean ====
section
/-! DEFINITION. The load checks of block code (R135, R137, R144, R152, R162, R163, R204). -/
namespace Sys2Proof.Machine

/-- The opcode of a code word (R135). -/
def wOp (w : W32) : Nat := w.toNat / 2 ^ 24
/-- Field d of a code word. -/
def wD (w : W32) : Nat := w.toNat / 2 ^ 19 % 32
/-- Field s of a code word. -/
def wS (w : W32) : Nat := w.toNat / 2 ^ 14 % 32
/-- Field i of a code word. -/
def wI (w : W32) : Nat := w.toNat % 2 ^ 14

/-- The fields d, s and i that an operation uses, by its form in R152. -/
def opForm (op : Nat) : Bool × Bool × Bool :=
  if [0x00, 0x91, 0x93, 0xA4, 0xA5].contains op then (false, false, false)
  else if [0x02, 0x03, 0x04, 0x05, 0x0C, 0x0D, 0x0E, 0x73, 0xB1, 0xB2, 0xB3, 0xB4, 0xC2, 0xC3, 0xD5, 0xD7, 0xDA].contains op then
    (true, false, true)
  else if [0x06, 0x07, 0x08, 0x09, 0x12, 0x25, 0x35, 0x46, 0x47, 0x48, 0x4B, 0x54, 0x55, 0x56, 0x5A, 0x5B, 0x5C, 0x5D, 0x5F,
      0x60, 0x61, 0x62, 0x70, 0x71, 0x72, 0x80, 0x81, 0x82, 0xA3, 0xC0, 0xC1].contains op then (true, true, true)
  else if [0x90, 0xA1, 0xA2].contains op then (false, true, true)
  else if [0x74, 0x92, 0xA0].contains op then (false, false, true)
  else if op = 0xD6 then (false, true, false)
  else if [0xB0, 0xD0, 0xD1, 0xD2, 0xD3, 0xD4, 0xD9].contains op then (true, false, false)
  else (true, true, false)

/-- A register of a pair (R137). -/
def pairReg (k : Nat) : Bool := decide (1 ≤ k) && decide (k ≤ 30)

/-- The limits of field i at load (R152, R162, R163), with the number of constants. -/
def opImm (op i consts : Nat) : Bool :=
  if op = 0x03 then decide (i < consts)
  else if op = 0x0C ∨ op = 0x0D then decide (i ≤ 4095)
  else if op = 0x25 ∨ op = 0x35 ∨ op = 0x48 ∨ op = 0x4B then decide (i < 32)
  else if op = 0x5A then decide (i < 256)
  else if op = 0x5F then decide (i / 64 % 64 + i % 64 + 1 ≤ 64) && decide (i < 2 ^ 13)
  else if op = 0xC0 ∨ op = 0xC1 then decide (i ≤ 7)
  else if op = 0xC2 ∨ op = 0xC3 then decide (i ≤ 31)
  else if 0xA0 ≤ op ∧ op ≤ 0xA3 then decide (1 ≤ i)
  else true

/-- One operation word passes the rules of R135, R137 and R152 that concern it alone. -/
def opWordOk (w : W32) (consts : Nat) : Bool :=
  let op := wOp w
  let (d, s, i) := opForm op
  isOpcode op && (d || wD w == 0) && (s || wS w == 0) && (i || wI w == 0) && opImm op (wI w) consts
    && (if [0xB0, 0xB2, 0xC2, 0xC4, 0xC5, 0xC7, 0xC8, 0xD4].contains op then pairReg (wD w) else true)
    && (if [0xC4, 0xC5, 0xC6, 0xC8].contains op then pairReg (wS w) else true)

/-- The operations of a routine: address and first word of each, LOOP taking two words; none when the last one reaches
past the end of the routine. The number given first bounds the walk. -/
def opsFrom (code : List W32) (stop : Nat) : Nat → Nat → Option (List (Nat × W32))
  | 0, k => if k = stop then some [] else none
  | n + 1, k =>
    if k = stop then some []
    else
      let w := code.getD k 0
      let len := if wOp w = 0xA3 then 2 else 1
      if stop < k + len then none else (opsFrom code stop n (k + len)).map ((k, w) :: ·)

/-- A loop of a routine: the addresses of LOOP and LEND, and its static bound. -/
structure LoopSpan where
  at_ : Nat
  lend : Nat
  bound : Nat
  deriving DecidableEq, Repr

/-- An operation lies in the body of a loop, its LEND included (R163). -/
def LoopSpan.covers (l : LoopSpan) (k : Nat) : Bool := decide (l.at_ < k) && decide (k ≤ l.lend)

/-- The loops of a routine; none when a LOOP does not name a LEND of it (R162, R163). -/
def loopsOf (code : List W32) (ops : List (Nat × W32)) : Option (List LoopSpan) :=
  (ops.filter fun o => wOp o.2 = 0xA3).foldr (fun o acc =>
    let w := (code.getD (o.1 + 1) 0).toNat
    let stop := o.1 + w % 65536
    if w < 65536 && decide (2 ≤ w) && ops.any (fun p => p.1 == stop && wOp p.2 == 0xA4) then
      acc.map (⟨o.1, stop, wI o.2⟩ :: ·)
    else none) (some [])

/-- Loops nest: of two, one lies behind the other or within it, and no two share a LEND. -/
def loopsNest : List LoopSpan → Bool
  | [] => true
  | l :: rest => rest.all (fun r => decide (l.lend < r.at_) || decide (r.lend < l.lend)) && loopsNest rest

/-- A branch goes forward to an operation of the same routine in the same loop bodies (R162). -/
def branchOk (ops : List (Nat × W32)) (loops : List LoopSpan) (k : Nat) (w : W32) : Bool :=
  let t := k + wI w
  ops.any (fun p => p.1 == t) && loops.all fun l => l.covers k == l.covers t

/-- A call as it stands in a routine: the routine called, the loops open there, and the product of their budgets. -/
structure CallAt where
  idx : Nat
  openL : Nat
  times : Nat
  deriving DecidableEq, Repr

/-- What a routine holds for the checks over calls: its calls, the most loops open, and its live samples at their budget
counts (R505). -/
structure RoutineInfo where
  calls : List CallAt
  deepest : Nat
  lives : Nat
  deriving DecidableEq, Repr

/-- The budget count of a loop: its record, else its static bound (R208). -/
def budgetOf (p : ProofRec) (l : LoopSpan) : Nat :=
  match p.loops.find? fun x => x.1 = l.at_ with
  | some x => x.2
  | none => l.bound

/-- Checks the words from `start` to `stop` and collects what they call. -/
def routineInfo (img : Image) (start stop : Nat) : Option RoutineInfo :=
  match opsFrom img.code stop (stop - start) start with
  | none => none
  | some ops =>
    match loopsOf img.code ops with
    | none => none
    | some loops =>
      let open_ (k : Nat) : List LoopSpan := loops.filter fun l => l.covers k
      let times (k : Nat) : Nat := (open_ k).foldl (fun n l => n * budgetOf img.proof l) 1
      let good := loopsNest loops && ops.all fun o =>
        opWordOk o.2 img.consts.length
          && (if [0xA0, 0xA1, 0xA2].contains (wOp o.2) then branchOk ops loops o.1 o.2 else true)
          && (if wOp o.2 = 0x91 ∨ wOp o.2 = 0x93 then (open_ o.1).isEmpty else true)
      if good then
        some
          { calls := (ops.filter fun o => wOp o.2 = 0x90 ∨ wOp o.2 = 0x92).map fun o =>
              ⟨wI o.2, (open_ o.1).length, times o.1⟩
            deepest := ops.foldl (fun n o => max n (open_ o.1).length) 0
            lives := (ops.filter fun o => 0xB0 ≤ wOp o.2 ∧ wOp o.2 ≤ 0xB4).foldl (fun n o => n + times o.1) 0 }
      else none

/-- Where routines begin, ascending; words before the first are checked too. -/
def routineStarts (img : Image) : List Nat :=
  ((img.routines.foldl (fun (t : Tab Unit) r => tabSet t r.addr ()) [(0, ())]).map Prod.fst).filter
    fun a => decide (a < img.code.length)

/-- Each routine's start with what it holds; none when one breaks a rule. -/
def codeInfo (img : Image) : List Nat → Option (Tab RoutineInfo)
  | [] => some []
  | a :: rest =>
    match routineInfo img a (rest.headD img.code.length), codeInfo img rest with
    | some r, some t => some ((a, r) :: t)
    | _, _ => none

/-- What a routine number holds. -/
def infoOf (img : Image) (t : Tab RoutineInfo) (idx : Nat) : Option RoutineInfo :=
  (img.routines[idx]?).bind fun r => tabFind t r.addr

/-- Every path from a routine is at most as many calls deep as the number given first, with at most 8 loops open
(R144); a cycle runs out of it. -/
def pathsOk (img : Image) (t : Tab RoutineInfo) : Nat → Nat → Nat → Bool
  | fuel, openL, idx =>
    match infoOf img t idx with
    | none => true
    | some r =>
      decide (openL + r.deepest ≤ 8) &&
        match fuel with
        | 0 => r.calls.isEmpty
        | n + 1 => r.calls.all fun c => pathsOk img t n (openL + c.openL) c.idx

/-- Live samples of a routine with those of the routines it calls (R505). -/
def livesOf (img : Image) (t : Tab RoutineInfo) : Nat → Nat → Nat
  | 0, _ => 0
  | n + 1, idx =>
    match infoOf img t idx with
    | none => 0
    | some r => r.calls.foldl (fun k c => k + c.times * livesOf img t n c.idx) r.lives

/-- The block-code rules of R209 with the sizes of R204 and the LOOP records of R208. -/
def codeOk (img : Image) : Bool :=
  match codeInfo img (routineStarts img) with
  | none => false
  | some t =>
    decide (img.routines.length ≤ 16384) && decide (img.code.length ≤ 262144) && decide (img.consts.length ≤ 16384)
      && img.routines.all (fun r => decide (r.addr < img.code.length))
      && (List.range img.routines.length).all (fun k => pathsOk img t 16 0 k)
      && img.proof.loops.all fun l =>
        let w := img.code.getD l.1 0
        decide (wOp w = 0xA3) && decide (1 ≤ l.2) && decide (l.2 ≤ wI w)

end Sys2Proof.Machine
end

