-- ==== Sys2Proof/Machine/ImageCheck.lean ====
section
/-! DEFINITION. The check of a block image (R209) with every load rule it names. -/
namespace Sys2Proof

/-- A class index in use; an error task without shares is not (R177). -/
def Image.usesCls (i : Image) (c : Nat) : Bool := (i.cls c).en && (decide (c < 6) || !(i.cls c).shares.isEmpty)

/-- A byte range that an area holds. -/
def Range.fits (r : Range) : Bool := decide (r.start + r.len ≤ Machine.areaSize r.area)

/-- Two ranges meet. -/
def Range.meets (a b : Range) : Bool :=
  decide (a.area = b.area) && decide (a.start < b.start + b.len) && decide (b.start < a.start + a.len)

end Sys2Proof

namespace Sys2Proof.Machine

/-! ### Sections, classes, types and instances (R177, R178, R201-R206, R210) -/

/-- No value stands twice in a list. -/
def distinct : List Nat → Bool
  | [] => true
  | a :: rest => !rest.contains a && distinct rest

/-- The section types that an image of a format may hold (R202, R210). -/
def secAllowed (fmt t : Nat) : Bool :=
  (decide (1 ≤ t) && decide (t ≤ 10)) || (t == 0x0B && fmt == 2) || t == 0xF0

/-- The container (R201, R202, R210, R579): what the directory shows, and `layoutOk` for the bytes that the decoded image
does not show. -/
def containerOk (i : Image) : Bool :=
  let ts := i.secs.map SecEnt.type
  i.layoutOk && decide (1 ≤ ts.length) && decide (ts.length ≤ 32) && distinct ts && ts.all (secAllowed i.fmt)
    && [1, 2, 3, 5, 6, 7, 10].all ts.contains && decide (0 < i.generation)
    && (match i.sign with | some g => g.last && ts.contains 0xF0 | none => !ts.contains 0xF0)
    && (i.watch.isEmpty || ts.contains 0x0B)

/-- FMT_VER, CLASS and ENGINE of an instance (R139, R140). -/
def entFmt (e : InstEnt) : Nat := (e.words.getD 1 0).toNat / 2 ^ 48
/-- FLAGS.CLASS of an instance. -/
def entCls (e : InstEnt) : Nat := (e.words.getD 1 0).toNat / 2 ^ 37 % 8
/-- FLAGS.ENGINE of an instance. -/
def entEng (e : InstEnt) : Nat := (e.words.getD 1 0).toNat / 2 ^ 40 % 16

/-- A share of a class index: its entry routine is called on its root instance, which serves that class on that engine
(R132, R177, R178, log entry 127). -/
def shareOk (i : Image) (c : Nat) (s : Share) : Bool :=
  decide (s.engine ≤ 15) &&
    match i.routines[s.routine]?, i.insts.find? fun x => entId x == s.root with
    | some r, some x => entCls x == min c 6 && entEng x == s.engine && (r.typeId == 0 || r.typeId == entType x)
    | _, _ => false

/-- One entry of the class table (R177, R203); a share runs on an engine of its own (R132). -/
def classOk (i : Image) (c : Nat) (e : ClassEnt) : Bool :=
  decide (e.shares.length ≤ 16) && e.reads.all Range.fits && e.shares.all (shareOk i c)
    && distinct (e.shares.map Share.engine)
    && (if c = 0 then e.en && e.k == 1 && !e.shares.isEmpty
        else if c ≤ 4 then decide (1 ≤ e.k) && decide (e.k ≤ 256)
        else e.k == 0 && (c == 5 || !e.en || !e.shares.isEmpty))

/-- The words of a field type (R205). -/
def tyWidth (t : FieldTy) (w : Nat) : Bool :=
  match t with
  | .turn96 => w == 2
  | .timer | .counter => w == 3
  | .words => decide (1 ≤ w) && decide (w ≤ 16382)
  | _ => w == 1

/-- The word after fields that cover words from `n` on without gaps or overlap; none when they do not. -/
def coverFrom (fs : List Field) : Nat → Nat → Option Nat
  | 0, n => some n
  | k + 1, n =>
    match fs.find? fun f => f.word = n with
    | some f => coverFrom fs k (n + f.width)
    | none => none

/-- STATE_LEN and SCRATCH_LEN of a type (R205). -/
def typeLens (t : TypeEnt) : Option (Nat × Nat) :=
  let st := t.fields.filter fun f => !f.scratch
  let sc := t.fields.filter fun f => f.scratch
  match coverFrom st st.length 2 with
  | some a => (coverFrom sc sc.length a).map fun b => (a - 2, b - a)
  | none => none

/-- A TYPE entry (R205). -/
def typeOk (t : TypeEnt) : Bool :=
  t.typeId != 0 && distinct (t.fields.map Field.id) && (typeLens t).isSome
    && t.fields.all fun f => tyWidth f.ty f.width && !(fieldCtl f && f.scratch)

/-- The class code of an instance names a class in use (R178). -/
def clsCodeUsed (i : Image) (c : Nat) : Bool :=
  if c = 6 then (List.range 8).any fun t => i.usesCls (6 + t) else decide (c < 6) && i.usesCls c

/-- An INST entry (R138-R141, R178, R206). -/
def instOk (i : Image) (e : InstEnt) : Bool :=
  entId e != 0 && e.handle % 8 == 0 && decide (e.handle + 8 * (2 + entState e + entScratch e) ≤ 20 * 2 ^ 20)
    && decide (2 + entState e + entScratch e ≤ 16384) && e.words.length == 2 + entState e && clsCodeUsed i (entCls e)
    && (match i.types.find? fun t => t.typeId = entType e with
      | some t => typeLens t == some (entState e, entScratch e) && t.fmtVer == entFmt e
      | none => false)

/-- Instances in ascending handle without overlap (R206). -/
def instsRise : List InstEnt → Bool
  | a :: b :: rest => decide (a.handle + 8 * (2 + entState a + entScratch a) ≤ b.handle) && instsRise (b :: rest)
  | _ => true

/-- The class rules and the layouts of types and instances. -/
def tablesOk (i : Image) : Bool :=
  i.classes.length == 14 && (tabOf 0 i.classes).all (fun p => classOk i p.1 p.2) && i.types.all typeOk
    && distinct (i.types.map TypeEnt.typeId) && i.insts.all (instOk i) && instsRise i.insts
    && distinct (i.insts.map entId)

/-! ### Tick rules (R43-R45, R51) -/

/-- The k of every F class in use is a multiple of that of every higher one (R45). -/
def harmonic (i : Image) : Bool :=
  let fs := [1, 2, 3, 4].filter i.usesCls
  fs.all fun c => fs.all fun d => decide (c ≤ d) || i.k c % i.k d == 0

/-- Two writers of one byte (R51, R148): the error tasks are one writer. -/
def writersClash (a b : Writer) : Bool :=
  a.range.meets b.range && !(min a.cls 6 == min b.cls 6 && a.engine == b.engine)

/-- No two elements of a list are in a relation. -/
def noPair {α : Type} (clash : α → α → Bool) : List α → Bool
  | [] => true
  | a :: rest => rest.all (fun b => !clash a b) && noPair clash rest

/-- The rules of ticks and writers. -/
def tickOk (i : Image) : Bool :=
  let nax := match i.axis with | some c => c.axes.length | none => 0
  decide (i.tickCode ≤ 3) && decide (i.delta ≤ 1024) && decide (nax ≤ if i.tickCode = 0 then 512 else 1024) && harmonic i
    && noPair writersClash i.writers
    && i.writers.all fun w => (w.range.area == .imgOut || w.range.area == .axOut) && w.range.fits && decide (w.cls ≤ 13)
      && decide (w.engine ≤ 15)

/-! ### The image map (R19, R22, R24, R207, R243, R244, R246, R248, R328, R338, R351, R387, R388) -/

/-- A point of the map (R149, R243). -/
def pointOk (p : W32) : Bool :=
  pointRsvd p == 0 && !pointPast p && (pointType p == 7 || !pointMisaligned p)

/-- The bits of a point in its area: the first and the one after the last. -/
def pointBits (p : W32) : Nat × Nat :=
  let a := pointOfs p * 8
  if pointType p = 0 then (a + pointBit p, a + pointBit p + 1) else (a, a + 8 * typeSize (pointType p))

/-- Points in ascending area and offset, none over another (R207, R244). -/
def pointsRise : List W32 → Bool
  | a :: b :: rest =>
    (if pointArea a = pointArea b then decide ((pointBits a).2 ≤ (pointBits b).1) else decide (a.toNat / 2 ^ 30 < b.toNat / 2 ^ 30))
      && pointsRise (b :: rest)
  | _ => true

/-- The numbers of the configured axes. -/
def axisNums (i : Image) : List Nat := match i.axis with | some c => c.axes.map AxisRec.axis | none => []

/-- Input bytes that the module writes itself: the validity map, the analogue block and the peer ranges (R24). -/
def ownInputs (i : Image) : List Range :=
  ⟨.imgIn, 0xFFF00, 256⟩ :: ((match i.analogue with | some a => [⟨.imgIn, a.anaOfs, 256⟩] | none => [])
    ++ match i.peer with | some p => p.srcs.map fun s => ⟨.imgIn, s.start, s.len⟩ | none => [])

/-- Output bytes that no slot carries: the command words of masters and axes and the loop block. -/
def ownOutputs (i : Image) : List Range :=
  (match i.axis with | some c => [⟨.imgOut, c.cmdOfs, 512⟩] | none => [])
    ++ (match i.analogue with | some a => [⟨.imgOut, a.loopOfs, 64⟩] | none => [])
    ++ (axisNums i).map fun a => ⟨.axOut, 64 * a + 0x30, 16⟩

/-- A SLOTMAP record (R22, R24, R207). -/
def slotOk (i : Image) (r : SlotRec) : Bool :=
  decide (r.slot ≤ 63) && r.range.fits
    && (if r.output then (r.range.area == .imgOut || r.range.area == .axOut) && (ownOutputs i).all (fun x => !x.meets r.range)
        else (r.range.area == .imgIn || r.range.area == .axIn) && (ownInputs i).all fun x => !x.meets r.range)

/-- Two slots over one byte (R24). -/
def slotsClash (a b : SlotRec) : Bool := a.range.meets b.range && !(a.station == b.station && a.slot == b.slot)

/-- Words that only the LSU or only class M writes (R328, R338, R351). -/
def writerOk (i : Image) (w : Writer) : Bool :=
  (axisNums i).all (fun a => !(Range.meets ⟨.axOut, 64 * a, 0x20⟩ w.range)
      && (w.cls == 0 || !Range.meets ⟨.axOut, 64 * a + 0x30, 16⟩ w.range))
    && (match i.axis with
      | some c => w.cls == 0 || !Range.meets ⟨.imgOut, c.cmdOfs, 512⟩ w.range
      | none => true)

/-- One class writes the loop block (R387). -/
def loopWriters (i : Image) : Bool :=
  match i.analogue with
  | some a =>
    let ws := (i.writers.filter fun w => w.range.meets ⟨.imgOut, a.loopOfs, 64⟩).map fun w => min w.cls 6
    ws.all fun c => c == ws.headD c
  | none => true

/-- The PEER record and the peer port (R19, R207, R316). -/
def peerOk (i : Image) : Bool :=
  let ports := (i.portRole.filter fun r => r = .peer).length
  decide (ports ≤ 1) && (if ports = 0 then i.kp == 0 else [1, 2, 3, 4].any fun c => i.usesCls c && i.k c == i.kp)
    && (match i.peer with
      | some p =>
        decide (p.outLen ≤ 1024) && decide (p.srcs.length ≤ 7) && (Range.fits ⟨.imgOut, p.outStart, p.outLen⟩)
          && distinct (p.srcs.map PeerSrc.domain)
          && p.srcs.all (fun s => decide (s.domain ≤ 7) && decide (s.len ≤ 1024) && Range.fits ⟨.imgIn, s.start, s.len⟩)
          && noPair Range.meets (ownInputs i)
      | none => true)

/-- OUT_INIT records (R207). -/
def outInitOk (i : Image) : Bool :=
  let rs := i.outInit.map fun o => (⟨o.area, o.start, o.bytes.length⟩ : Range)
  rs.all (fun r => (r.area == .imgOut || r.area == .axOut) && decide (1 ≤ r.len) && r.fits
      && (axisNums i).all fun a => !Range.meets ⟨.axOut, 64 * a, 0x20⟩ r)
    && noPair Range.meets rs

/-- The image map. -/
def mapOk (i : Image) : Bool :=
  decide (i.domain ≤ 7) && i.portRole.length == 4 && i.points.all pointOk && pointsRise i.points
    && decide (i.points.length ≤ 1048576) && i.slots.all (slotOk i) && noPair slotsClash i.slots && i.writers.all (writerOk i)
    && loopWriters i && peerOk i && outInitOk i
    && i.watch.all (fun w => pointOk w.1)
    && decide ((i.stations.foldl (fun n r => n + 2 * (32 + r.inLen)) 0) ≤ 3 * 2 ^ 20)
    && decide ((i.stations.foldl (fun n r => n + r.subst.length) 0) ≤ 2 ^ 20)
    && (match i.analogue with
      | some a => a.anaOfs % 8 == 0 && decide (a.anaOfs + 256 ≤ 0xFFF00) && a.loopOfs % 8 == 0
          && Range.fits ⟨.imgOut, a.loopOfs, 64⟩
      | none => true)

/-! ### Stations (R250, R279, R313, R318) -/

/-- The bytes that slots give a station in one direction. -/
def slotBytes (i : Image) (n : Nat) (out : Bool) : Nat := (i.ranges n out).foldl (fun k r => k + r.len) 0

/-- A station record (R19, R250, R318). -/
def stationOk (i : Image) (r : StationRec) : Bool :=
  i.portRole.getD (r.station / 512) .unused == .segment && decide (1 ≤ r.limit) && decide (r.limit ≤ 255)
    && (r.ks == 1 || [1, 2, 3, 4].any fun c => i.usesCls c && i.k c == r.ks)
    && decide (1 ≤ r.verMin) && decide (r.verMin ≤ 3)
    && decide ((4 + 2 * r.ks) * i.tickNs ≤ r.wdUs * 1000) && decide (r.wdUs ≤ 10000000)
    && decide (r.inLen ≤ 1472) && decide (r.outLen ≤ 1472)
    && r.inLen == slotBytes i r.station false && r.outLen == slotBytes i r.station true
    && decide (r.param.length ≤ 8400) && decide (r.paramDig = crc32c r.param)
    && (r.subst.length == if r.mode = .configured then r.inLen else 0)

/-- The STATION section. -/
def stationsOk (i : Image) : Bool :=
  ((i.stations.isEmpty && i.etype == 0)
      || (decide (0x600 ≤ i.etype) && decide (i.etype < 65536) && !([0x800, 0x806, 0x86DD, 0x88F7] : List Nat).contains i.etype))
    && distinct (i.stations.map StationRec.station) && i.stations.all (stationOk i)
    && (List.range 4).all fun p =>
      let o := i.oP.getD p 0
      match i.portRole.getD p .unused with
      | .segment => decide (50 ≤ o) && decide (20 * o ≤ i.tickNs)
      | _ => o == 0 || (decide (50 ≤ o) && decide (20 * o ≤ i.tickNs))

/-! ### Axes and cams (R22, R328, R332, R347, R349, R353, R358, R359) -/

/-- A master record under its number. -/
def masterOk (i : Image) (n : Nat) (r : MasterRec) : Bool :=
  match r.kind with
  | .unused => true
  | .virtual => decide (n < 16) && decide (0 < r.haltDec)
  | .external =>
    let size := match r.srcType with | .turn96 => 12 | .int32 => 4 | .int64 => 8
    let ty := match r.srcType with | .turn96 => 6 | .int32 => 2 | .int64 => 3
    let a := pointArea r.src
    decide (16 ≤ n) && decide (r.filter ≤ 4) && decide (r.holdTicks ≤ 64) && r.snum != 0 && decide (1 ≤ r.sden)
      && decide (0 < r.haltDec) && (a == .imgIn || a == .axIn) && pointType r.src == ty && pointOk r.src
      && (match sourceStation i.slots a (pointOfs r.src) size with
        | some k => (match i.station k with | some s => s.ks == 1 | none => false)
        | none => false)

/-- The segments of a cam from abscissa `x` with the value that the last one ends at (R349). -/
def camSegsOk (x : Nat) (y : Option Int) : List CamSeg → Bool
  | [] => x == 2 ^ 32
  | s :: rest =>
    s.xStart == x && (match y with | some v => decide ((v - s.c0).natAbs ≤ 65536) | none => true)
      && camSegsOk (x + segLen s) (some (s.c0 + s.c1 + s.c2 + s.c3)) rest

/-- A cam table (R347, R349). -/
def camOk (t : CamTab) : Bool :=
  let n := t.segs.length
  let last := match t.segs.getLast? with | some s => s.c0 + s.c1 + s.c2 + s.c3 | none => 0
  let first := match t.segs.head? with | some s => s.c0 | none => 0
  decide (1 ≤ n) && decide (n ≤ 4096) && decide (0 < t.cnum) && decide (0 < t.cden) && decide (t.id < 65536)
    && t.segs.all (fun s => s.xLen != 0 || n == 1) && camSegsOk 0 none t.segs
    && (t.oneshot || decide ((last - (first + t.stroke)).natAbs ≤ 65536))

/-- The AXIS section (R22, R44, R328, R358, R359). -/
def axisOk (i : Image) (c : AxisCfg) : Bool :=
  let nums := c.axes.map AxisRec.axis
  let below (p l d : Nat) : Bool := decide (p * d < l * 2 ^ 48)
  c.cmdOfs % 8 == 0 && Range.fits ⟨.imgOut, c.cmdOfs, 512⟩ && c.masters.length == 32
    && (tabOf 0 c.masters).all (fun p => masterOk i p.1 p.2)
    && distinct nums && c.axes.all (fun a => decide (a.axis < 1024) && decide (a.slot ≤ 63) && (i.station a.station).isSome
      && decide ((c.axes.filter fun b => b.station = a.station).length ≤ 8))
    && decide (c.cmps.length ≤ 32) && distinct (c.cmps.map CmpRec.unit)
    && c.cmps.all (fun u => decide (u.unit < 32) && decide (0 < u.lnum) && decide (0 < u.lden) && below u.onPos u.lnum u.lden
      && below u.offPos u.lnum u.lden && (if u.isMaster then decide (u.number < 32) else nums.contains u.number))
    && decide (c.regs.length ≤ 64) && distinct (c.regs.map RegRec.axis)
    && c.regs.all (fun r => nums.contains r.axis && decide (r.ch ≤ 15) && decide (r.master ≤ 31) && decide (0 < r.lnum)
      && decide (0 < r.lden) && decide (0 < r.gden) && decide (1 ≤ r.ramp) && decide (r.ramp ≤ 65535))
    && decide (c.cams.length ≤ 256) && distinct (c.cams.map CamTab.id) && c.cams.all camOk

/-! ### Reflex, analogue and time tables (R365, R367, R368, R401, R402, R408, R419) -/

/-- A listed selector (R367). -/
def selOk (s : Nat) : Bool :=
  decide (s < 16) || (decide (0x40 ≤ s) && decide (s < 0xE0)) || s == 0xFE || s == 0xFF

/-- The COMB cells that a cell reads. -/
def combInputs (t : ReflexCfg) (c : Nat) : List Nat :=
  match t.cells[c]? with
  | some x => (x.sel.filter fun s => 0x40 ≤ s ∧ s < 0x80).map (· - 0x40) |>.filter fun k =>
      match t.cells[k]? with | some y => y.mode = 0 | none => false
  | none => []

/-- A cell reads a pin, an arm bit or a compare level. -/
def readsSource (t : ReflexCfg) (c : Nat) : Bool :=
  match t.cells[c]? with
  | some x => x.sel.any fun s => s < 16 || (decide (0x80 ≤ s) && decide (s < 0xE0))
  | none => false

/-- The COMB cells that stay when those all of whose COMB inputs have gone go, over and over. -/
def combCore (t : ReflexCfg) : Nat → List Nat → List Nat
  | 0, cs => cs
  | n + 1, cs => combCore t n (cs.filter fun c => (combInputs t c).any cs.contains)

/-- The reflex table (R365, R368). -/
def reflexOk (i : Image) (t : ReflexCfg) : Bool :=
  let combs := (List.range 64).filter fun c => match t.cells[c]? with | some x => x.mode = 0 | none => false
  t.cells.length == 64 && t.outmap.length == 16 && t.capcfg.length == 16
    && t.cells.all (fun x => x.sel.length == 6 && x.sel.all selOk && decide (x.mode ≤ 2)
      && (x.owner == 7 || x.owner == 6 || (decide (x.owner < 6) && i.usesCls x.owner)))
    && (combCore t 64 combs).isEmpty
    && combs.all (fun c => (combInputs t c).all fun d => (combInputs t d).all fun e => !readsSource t e)
    && t.outmap.all (fun o => decide (o.1 < 64) || o.1 == 0xFF)
    && t.capcfg.all (fun c => (decide (c.1 < 16) || (decide (0x40 ≤ c.1) && decide (c.1 < 0x80))) && decide (c.2.1 ≤ 3)
      && decide (c.2.2 ≤ 255))
    && decide ((t.term.toNat % 65536) ^^^ (t.term.toNat / 65536) = 0xFFFF)

/-- A source code of the converter (R401). -/
def srcOk (s : Nat) : Bool :=
  decide (s < 0x18) || (decide (0x20 ≤ s) && decide (s ≤ 0x25)) || (decide (0x30 ≤ s) && decide (s ≤ 0x33)) || s == 0x3E
    || s == 0x3F

/-- The analogue table (R402, R406, R408). -/
def analogueOk (i : Image) (a : AnaCfg) : Bool :=
  let slots := (i.tickNs - 1000) / 500
  decide (a.entries.length ≤ 32) && decide (a.urgMax ≤ 8) && a.entries.all (fun e => srcOk e.1 && decide (e.2 ≤ 4))
    && a.wins.length == 8 && a.wins.all (fun w => !w.en || (decide (w.entry < a.entries.length) && decide (w.low ≤ w.high)))
    && a.chans.length == 8
    && (tabOf 0 a.chans).all (fun p => decide (1 ≤ p.2.devN) && decide (p.2.devN ≤ 255) && decide (1 ≤ p.2.devUa)
      && decide (p.2.devUa ≤ 4000) && decide (p.2.neFilt ≤ 1000)
      && (p.2.mode != .input || a.entries.any fun e => e.1 == p.1))
    && decide (a.entries.foldl (fun n e => n + 2 ^ e.2) 0 + 2 * a.urgMax + 4 ≤ slots)

/-- The time record (R419). -/
def timeOk (i : Image) : Bool :=
  let r := i.time
  let peer := i.portRole.any fun p => p = .peer
  decide (r.ltPtpDom ≤ 127) && decide (r.xPtpDom ≤ 127) && decide (10 ≤ r.jumpLimUs) && decide (r.jumpLimUs ≤ 1000000)
    && decide (r.ltWaitS ≤ 600) && (!r.follower || peer) && (r.extSrc != .peer || peer)

/-- Step 5 of R209. -/
def structureOk (i : Image) : Bool :=
  containerOk i && tablesOk i && codeOk i && tickOk i && mapOk i && stationsOk i
    && (match i.axis with | some c => axisOk i c | none => true)
    && (match i.reflex with | some t => reflexOk i t | none => true)
    && (match i.analogue with | some a => analogueOk i a | none => true)
    && timeOk i && decide (i.total ≤ 67043264)

/-! ### Proof record (R52, R57-R59, R306, R315, R354, R468, R505), times in 1/1536 ns -/

/-- The payload bytes of the cyclic frames of a port in tick n (R288, R315): the last entry says whether trains may share
it. -/
def packSizes : List (Nat × Bool) → List StationRec → List (Nat × Bool)
  | acc, [] => acc
  | acc, r :: rest =>
    let may := r.train && decide (2 ≤ r.verMin)
    match acc.getLast? with
    | some (n, true) =>
      if may && decide (n + 8 + r.outLen ≤ 1482) then packSizes (acc.dropLast ++ [(n + 8 + r.outLen, true)]) rest
      else packSizes (acc ++ [(8 + r.outLen, may)]) rest
    | _ => packSizes (acc ++ [(8 + r.outLen, may)]) rest

/-- The frame bytes of a port in tick n, FCS excluded (R281). -/
def portFrames (i : Image) (p n : Nat) : List Nat :=
  (packSizes [] (i.stations.filter fun r => r.station / 512 = p && n % r.ks = 0)).map fun x => max 60 (0x24 + x.1)

/-- The largest value of a figure over the ticks of a k_max cycle. -/
def worst (i : Image) (f : Nat → Nat) : Nat := (List.range i.kmax).foldl (fun m n => max m (f n)) 0

/-- t_B − t0 in 50 ns units (R52). -/
def buildPoint (i : Image) : Nat :=
  let bytes := worst i fun n => (List.range 4).foldl (fun k p => k + (portFrames i p n).sum) 0
  (i.tickNs - 500) / 50 - (8000 + bytes + 799) / 800

/-- t_rel (R48). -/
def relUnits (i : Image) : Nat := 800 * 1536 + copyBytes i 0 * 30

/-- Lane cycles at the sag clock (R57). -/
def cycUnits (n : Nat) : Nat := n * 1280

/-- The moment by which a cost of lane cycles from t_rel is voted (R58). -/
def votedBy (i : Image) (cost : Nat) : Nat := relUnits i + cycUnits (cost + 2 * i.proof.delta) + 300 * 1536

/-- The response of an F class is at most its k (R59). -/
def responds (i : Image) (a : Int) (c : Nat) : Bool :=
  let cost (y : Nat) : Nat := i.proof.cF.getD (y - 1) 0
  (List.range (i.k c)).any fun j =>
    let m := j + 1
    let demand := ((List.range c).filter fun y => 1 ≤ y ∧ i.usesCls y).foldl
      (fun d y => d + (m + i.k y - 1) / i.k y * cost y) (cost c)
    decide ((cycUnits demand : Int) ≤ m * a)

/-- The conditions of R58 and R59, and the shadow margin of R468. -/
def budgetsOk (i : Image) : Bool :=
  let p := i.proof
  let t := i.tickNs * 1536
  let copies := 600 * 1536 + p.copyMax * 30
  let tB := p.buildPt * 50 * 1536
  let a : Int := t - max (relUnits i + cycUnits p.cM) copies
  decide (votedBy i p.cM ≤ tB) && decide (votedBy i p.cLsu + 8000 * 1536 ≤ tB) && decide (copies ≤ t)
    && decide (p.retMax * 1000 ≤ 256 * i.tickNs) && [1, 2, 3, 4].all fun c => !i.usesCls c || responds i a c

/-- The wire time of frames in tenths of a ns (R289). -/
def wireSum (fast : Bool) (fs : List Nat) : Nat := fs.foldl (fun n l => n + wireTime fast l) 0

/-- The conditions of R315 for one port, with R268 and R306. -/
def portOk (i : Image) (p : Nat) : Bool :=
  let (outEnd, inStart) := i.interval p
  let fast := i.portRate.getD p false
  let o := i.opNs p
  (List.range i.kmax).all (fun n =>
    let fs := portFrames i p n
    decide (fs.length ≤ 112) && decide (10 * (o + 4000) + wireSum fast fs ≤ 10 * outEnd))
    && decide (outEnd + 1300 ≤ inStart)
    && decide (4 * (((outEnd : Int) - o) + (i.tickNs - 1000 - inStart)) ≤ 3 * i.tickNs)

/-- The timing of a station (R315). -/
def stationTimes (i : Image) (r : StationRec) : Bool :=
  decide (r.latchNs ≤ i.tickNs) && decide (r.txNs ≤ i.tickNs) && decide (r.applyNs ≤ i.tickNs)
    && (r.ks != 1 || (decide (r.applyNs < r.latchNs) && decide (r.latchNs ≤ r.txNs)))

/-- The live samples of the shares of a class at their budget counts. -/
def clsLives (i : Image) (c : Nat) : Nat :=
  match codeInfo i (routineStarts i) with
  | some t => (i.cls c).shares.foldl (fun n s => n + livesOf i t 17 s.routine) 0
  | none => 0

/-- The bytes of P0 and P1 messages of a tick in both directions, each with its header of 16 bytes (R498, R500, R505). The
sampled set has no stated length and counts with its 0x20 fixed bytes (log entry 21). -/
def hallBytes (i : Image) (n : Nat) : Nat × Nat :=
  let due := i.stations.filter fun r => n % r.ks = 0
  let cls := [0, 1, 2, 3, 4].filter fun c => i.usesCls c && n % i.k c == 0
  let tx := (List.range 4).flatMap fun p => portFrames i p (n + 1)
  let own := 0x40 + (0x228 + 4 * i.stations.length) + 0x20 + 0x30 * (cls.length + 1)
    + due.foldl (fun k r => k + 0x28 + r.inLen) 0 + tx.foldl (fun k f => k + 0x58 + f) 0
    + cls.foldl (fun k c => k + 0x30 * clsLives i c) 0
  (own, due.foldl (fun k r => k + 0x38 + max 60 (0x24 + 8 + r.inLen)) 0 + 0x20 * tx.length)

/-- The load of the Hallway (R505). -/
def hallwayOk (i : Image) : Bool :=
  let limit := 348 * i.tickNs
  decide (100 * worst i (fun n => (hallBytes i n).1) ≤ limit) && decide (100 * worst i (fun n => (hallBytes i n).2) ≤ limit)

/-- The leads of the compare units (R354). -/
def leadsOk (i : Image) : Bool :=
  match i.axis with
  | some c =>
    let t : Int := i.tickNs * 1536
    let most : Int := t - (relUnits i + cycUnits (i.proof.cLsu + 2 * i.proof.delta) + 500 * 1536 : Nat)
    c.cmps.all fun u => [u.leadOn, u.leadOff].all fun l => decide (-t ≤ l * 1536) && decide (l * 1536 ≤ most)
  | none => true

/-- Step 6 of R209. -/
def proofOk (i : Image) : Bool :=
  let p := i.proof
  p.tickCode == i.tickCode && p.delta == i.delta && p.nax == (axisNums i).length && p.buildPt == buildPoint i && budgetsOk i
    && (List.range 4).all (fun k => i.portRole.getD k .unused != .segment || portOk i k) && i.stations.all (stationTimes i)
    && hallwayOk i && leadsOk i

/-! ### The check (R209) -/

/-- Step 4 of R209 with the enrolled project key (R580). -/
def signatureOk (project : Option Nat) (i : Image) : Bool :=
  match project, i.sign with
  | none, _ => true
  | some d, some g => g.pubDigest == d && g.sigOk
  | some _, none => false

/-- The check of an image: 0, or the REASON code of R214. -/
def imageCheck (project : Option Nat) (i : Image) : Nat :=
  if i.magic.toNat ≠ 0x49424C47 ∨ i.fmt < 1 ∨ 2 < i.fmt then 1
  else if !i.hdrCrcOk || !(i.secs.all SecEnt.crcOk) then 2
  else if !i.digestOk then 3
  else if !signatureOk project i then 4
  else if !structureOk i then 5
  else if !proofOk i then 6
  else 0

/-! ### The further checks of an online change (R195) -/

/-- An axis that a change may not remove (R357). -/
def AxisSt.held (x : AxisSt) : Bool := x.state != .notReady && x.state != .disengaged

/-- What an online change may not alter (R357, R382, R419). -/
def changeKeeps (old new : Image) (l : Lsu) : Bool :=
  let rec_ (i : Image) (k : Nat) : Option MasterRec := i.axis.bind fun c => c.masters[k]?
  let kind (i : Image) (k : Nat) : MasterKind := match rec_ i k with | some r => r.kind | none => .unused
  let camsOf (i : Image) : List CamTab := match i.axis with | some c => c.cams | none => []
  l.axes.all (fun p => !p.2.held || (axisNums new).contains p.1)
    && (List.range 32).all (fun k => kind old k == .unused || kind new k == kind old k
      || (kind new k == .unused && !(l.axes.any fun p => p.2.engaged && p.2.master == k)))
    && l.axes.all (fun p => p.2.state != .cammed
      || (camsOf old).find? (fun t => t.id == p.2.cam) == (camsOf new).find? (fun t => t.id == p.2.cam))
    && (List.range 8).all (fun c => decide ((old.chan c).mode = (new.chan c).mode))
    && { new.time with jumpLimUs := old.time.jumpLimUs } == old.time

/-- The bytes of an image's cam tables (R347). -/
def camBytes (i : Image) : Nat :=
  match i.axis with
  | some c => c.cams.foldl (fun n t => n + 32 + 48 * t.segs.length) 0
  | none => 0

/-- The bytes of an image's substitute blocks. -/
def substBytes (i : Image) : Nat := i.stations.foldl (fun n r => n + r.subst.length) 0

/-- Cam tables and substitute blocks of both images fit the cam store and the region of substitute blocks (R247, R264, R273). -/
def stagesFit (old new : Image) : Bool :=
  decide (camBytes old + camBytes new ≤ 8 * 2 ^ 20) && decide (substBytes old + substBytes new ≤ 2 ^ 20)

/-- The check of a new image against the running one: 0 or the REASON code, with INST_ID and field id of the first ill-typed
mapping (R195, R214, R264, R551). -/
def Mod.changeCheck (m : Mod) (new : Image) : Nat × Nat × Nat :=
  let r := imageCheck m.upd.project new
  match m.prog.image, m.leader with
  | some old, some x =>
    if r ≠ 0 then (r, 0, 0)
    else if new.tickCode ≠ old.tickCode ∨ new.delta ≠ old.delta then (7, 0, 0)
    else if new.generation ≤ old.generation then (8, 0, 0)
    else if !changeKeeps old new (m.lane x).lsu then (5, 0, 0)
    else
      match remap old new (m.lane x).inst with
      | .error e => e
      | .ok rr => if 262144 < rr.bytes + 8 * (remapRetained old new rr).length ∨ !stagesFit old new then (0x0B, 0, 0) else (0, 0, 0)
  | _, _ => (if r ≠ 0 then r else 0x0D, 0, 0)

end Sys2Proof.Machine
end

