-- ==== Sys2Proof/Machine/Keys.lean ====
section
/-! DEFINITION. The key switch and the steps of an online change (R182, R183, R194-R198, R483). -/
namespace Sys2Proof.Machine

/-- KEY_SWITCH_CHANGE (R182): a position that was stable for 20 ms. The pair mode follows at the next tick edge
(R183). -/
def execKeySwitchChange (t : Nat) (pos : KeyPos) (s : State) : Host.Outcome State Fault Refusal :=
  s.doesPair fun m =>
    let m := m.start t
    ({ m with prog := { m.prog with ownKey := pos, keyAt := m.now } }).keyDiffer

/-- A change is STAGED once every lane and the card hold it (R196, R532). -/
def Mod.advanceChange (m : Mod) : Mod :=
  if m.prog.chgState = .checking && m.prog.staged.isSome && m.prog.lanesStaged && m.prog.cardStaged then
    { m with prog := { m.prog with chgState := .staged, chgSince := m.now } }
  else m

/-- No lane is in RESYNC or TEST, and no partner joins: a change may be staged (R194). -/
def Mod.mayStage (m : Mod) : Bool :=
  (allLanes.all fun x => (m.lane x).mode ≠ .resync && (m.lane x).mode ≠ .test) && m.pair.partner ≠ some .joining

/-- Both modules have accepted the change, or there is no partner to ask (R195). -/
def Mod.verdictsIn (m : Mod) : Bool := m.prog.partnerVerdict = some 0 || m.pair.role = .alone

/-- Hands the CHANGE record of an accepted change to the card controller (R196, R532). A shadow whose card takes no records
stages without one. -/
def Mod.stageRecord (m : Mod) : Mod :=
  let queued := m.card.queue.any fun a => match a.body with | .change _ _ _ _ => true | _ => false
  match m.prog.staged with
  | some img =>
    if m.prog.cardStaged || queued then m
    else if m.cardWritable then
      m.cardAppend (.change m.digest img.digest (match m.prog.chgKey with | some k => k.2 | none => 0) img) none none
    else { m with prog := { m.prog with cardStaged := m.pair.role = .shadow } }
  | none => m

/-- CHANGE_STAGED (R196): the new code and the change list stand in every lane. -/
def execChangeStaged (t : Nat) (s : State) : Host.Outcome State Fault Refusal :=
  s.does fun m =>
    let m := m.start t
    if m.prog.chgState = .checking && m.prog.staged.isSome && m.verdictsIn && m.mayStage then
      ({ m.stageRecord with prog := { m.stageRecord.prog with lanesStaged := true } }).advanceChange
    else m

/-- CHANGE_REMAP (R196): in tick n−1, after its cyclic work, every lane in service writes the change set. -/
def execChangeRemap (t : Nat) (s : State) : Host.Outcome State Fault Refusal :=
  s.does fun m =>
    let m := m.start t
    if m.prog.go = some (m.sched.tick + 1) && !m.prog.remapped && m.cyclicDone then m.remapLanes else m

/-- CHANGE_TIMEOUT (R198): no tick qualified within 30 s of staging. -/
def execChangeTimeout (t : Nat) (s : State) : Host.Outcome State Fault Refusal :=
  s.does fun m =>
    let m := m.start t
    if m.prog.chgState = .staged && m.prog.go.isNone && decide (m.prog.chgSince + 30000000000 ≤ m.now) then
      m.dropChange .discarded .failedTimeout 0x10
    else m

end Sys2Proof.Machine
end

