-- ==== Sys2Proof/Machine/Stations.lean ====
section
/-! DEFINITION. Frames from the stations and peers, the start of stations, acyclic items on the line (R251-R255, R261,
R284, R285, R298-R310, R317, R434, R464, R472). -/
namespace Sys2Proof.Machine

/-! ### The receive rings (R251, R284, R304) -/

/-- EtherType of PTP frames (R279). -/
def ptpEtype : Nat := 0x88F7

/-- Counts a rejection with its reason code (R319, R320). -/
def Mod.rejectFrame (m : Mod) (port code : Nat) : Mod :=
  m.setPort port fun p => { p with rejected := inc32 p.rejected, lastRej := code
                                   e2eErr := if code = 4 then inc32 p.e2eErr else p.e2eErr }

/-- The module relays what it hears to the owner (R304, R434). -/
def Mod.relaysUp (m : Mod) (port : Nat) : Bool :=
  (m.pair.role = .shadow || m.pair.role = .joining) && m.pair.partner = some .owner && m.portRole port = .segment

/-- Puts a frame into the receive ring of a port; none when all 512 entries are in use (R251). -/
def Mod.ringPut (m : Mod) (port : Nat) (e : RxEnt) : Mod :=
  if 512 ≤ (m.port port).ring.length then { m with pantry := { m.pantry with rxFull := inc32 m.pantry.rxFull } }
  else m.setPort port fun p => { p with ring := p.ring ++ [e] }

/-- RX_FRAME_STORE (R251): a frame arrives whole. Steps 1 and 2 of R284, and the frame types that stations do not
send, are settled here; the frame is relayed by a shadow or joiner. -/
def execRxFrameStore (t : Nat) (port : Nat) (f : Frame) (s : State) : Host.Outcome State Fault Refusal :=
  s.does fun m =>
    let m := m.start t
    let role := m.portRole port
    let lt := m.ltNs
    if role = .unused then m
    else if !f.fcsOk then m.setPort port fun p => { p with fcsErr := inc32 p.fcsErr }
    else if f.etype = ptpEtype && !f.vlan then
      if m.relaysUp port then
        (m.setPort port fun p => { p with relayed := inc32 p.relayed }).hallSend 1 fun h => .mRelayUp h port true lt lt f
      else m
    else if f.vlan || f.etype ≠ m.etype || f.dst ≠ groupAddr m.domain port (role = .peer) then m.rejectFrame port 1
    else
      let m := m.setPort port fun p => { p with rxFrames := inc32 p.rxFrames }
      let m := if m.relaysUp port then
          (m.setPort port fun p => { p with relayed := inc32 p.relayed }).hallSend 1 fun h => .mRelayUp h port false lt lt f
        else m
      let ofStation := f.type = 2 || f.type = 4 || f.type = 6 || f.type = 8
      if role = .segment && (f.type = 1 || f.type = 3 || f.type = 5 || f.type = 7) then m
      else if (role = .segment && !ofStation) || (role = .peer && f.type ≠ 9) then m.rejectFrame port 2
      else m.ringPut port ⟨f, lt, false⟩

/-- Takes the front entry of a ring when it holds a frame of a type. -/
def Mod.ringTake (m : Mod) (port type : Nat) : Option (RxEnt × Mod) :=
  match (m.port port).ring with
  | e :: rest => if e.frame.type = type then some (e, m.setPort port fun p => { p with ring := rest }) else none
  | [] => none

/-- Whether `a` is newer than `b` in serial arithmetic of `n` bits (R285). -/
def serialNewer (n a b : Nat) : Bool :=
  let d := (a + 2 ^ n - b % 2 ^ n) % 2 ^ n
  decide (1 ≤ d) && decide (d < 2 ^ (n - 1))

/-- The station that a frame names on its port, if configured there (R284 step 6). -/
def Mod.frameStn (m : Mod) (port : Nat) (f : Frame) : Option StationRec :=
  let k := addrStn f.addr
  if f.addr = stnAddr k ∧ k / 512 = port then m.stnRec k else none

/-- Steps 3 to 8 of R284 on a station frame: the reason of the first failure, 0 for none. -/
def Mod.tspCheck (m : Mod) (port : Nat) (f : Frame) : Nat :=
  let announce : Bool := f.type == 6
  let r := m.frameStn port f
  let s := m.stn (addrStn f.addr)
  let verOk : Bool := match announce, r with
    | true, _ => f.ver == 1
    | false, some _ => f.ver == s.ver
    | false, none => decide (1 ≤ f.ver) && decide (f.ver ≤ 3)
  let lenOk := decide (f.len = f.payload.length) && decide (f.len ≤ 1482) && (match r with
    | some r => f.type ≠ 2 || f.len = 8 + r.inLen
    | none => true)
  if !verOk then 2
  else if !lenOk then 3
  else if f.e2e ≠ f.e2eOf then 4
  else if announce then 0
  else if r.isNone then 5
  else if !(f.epoch = m.pair.epoch || f.epoch + 1 = m.pair.epoch) then 6
  else
    match s.lastSeq with
    | some q => if serialNewer 32 q f.seq.toNat then 7 else 0
    | none => 0

/-- Keeps the newest epoch seen in station frames (R456). -/
def Mod.seeEpoch (m : Mod) (f : Frame) : Mod :=
  let newer := match m.pair.epochSeen with
    | some e => serialNewer 16 f.epoch.toNat e.toNat
    | none => true
  if newer then { m with pair := { m.pair with epochSeen := some f.epoch } } else m

/-- A frame attributable to a DROPPED station fails: GOOD_RUN starts anew (R261). -/
def Mod.badFrame (m : Mod) (k : Nat) : Mod :=
  if m.controls && (m.stn k).dropped then m.setStn k fun s => { s with goodRun := 0 } else m

/-- Checks a station frame taken from a ring: its record when it passes (R284). -/
def Mod.takeStationFrame (m : Mod) (port : Nat) (f : Frame) : Option StationRec × Mod :=
  let code := m.tspCheck port f
  let m := if code = 0 || 6 ≤ code then m.seeEpoch f else m
  if code ≠ 0 then
    let m := m.rejectFrame port code
    (none, if 6 ≤ code then m.badFrame (addrStn f.addr) else m)
  else (m.frameStn port f, m)

/-! ### CYC_IN (R252, R253, R261, R287, R305, R464) -/

/-- A byte of a payload. -/
def byteAt (bs : List Byte) (k : Nat) : Nat := (bs.getD k 0).toNat

/-- The copy of a CYC_IN marks the port it came by (R305). -/
def Stn.sawCopy (s : Stn) (n : Nat) (relayed : Bool) : Stn :=
  if relayed then { s with relGen := some n } else { s with ownGen := some n }

/-- An accepted CYC_IN in the module that decides (R252, R253, R261, R302). -/
def Mod.acceptCyc (m : Mod) (r : StationRec) (n : Nat) (k : Kept) : Mod :=
  let m := m.setStn r.station fun s =>
    { s with goodGen := some n, ackTick := some (leNat (k.status.take 4)), reported := byteAt k.status 4 }
  let s := m.stn r.station
  let m := if !s.dropped || s.revalDone then
      let m := m.enterPayload r.station k
      if m.forwards then m.hallSend 1 fun h => .mPayload h n r.station k.status k.bytes else m
    else m
  if byteAt k.status 4 = 2 && s.state = .run && s.sends = 0 then m.revalidate r else m

/-- CYC_IN (R252): the front frame of a ring. A shadow keeps it as its standby copy (R464). -/
def execCycIn (t : Nat) (port : Nat) (s : State) : Host.Outcome State Fault Refusal :=
  s.does fun m =>
    let m := m.start t
    match m.ringTake port 2 with
    | none => m
    | some (e, m) =>
      let f := e.frame
      match m.takeStationFrame port f with
      | (none, m) => m
      | (some r, m) =>
        let k := r.station
        let n := m.sched.tick + 1
        let m := m.setStn k fun s => { s with lastSeq := some f.seq.toNat }
        let inTime := f.tick = BitVec.ofNat 32 n && decide (e.stamp + 1000 ≤ n * m.tickNs)
        let kept : Kept := ⟨n, f.payload.take 8, (f.payload.drop 8).take r.inLen⟩
        if m.controls then
          if !inTime then
            { (m.badFrame k) with pantry := { (m.badFrame k).pantry with lateIn := inc32 m.pantry.lateIn } }
          else
            let m := m.setStn k fun s => s.sawCopy n e.relayed
            if (m.stn k).goodGen = some n then
              { m with pantry := { m.pantry with duplicates := inc32 m.pantry.duplicates } }
            else (m.setStn k fun s => { s with cycSeq := f.seq.toNat }).acceptCyc r n kept
        else if m.pair.role = .shadow && inTime then
          m.setStn k fun s => { s.sawCopy n e.relayed with standby := some kept, cycSeq := f.seq.toNat }
        else m

/-! ### The start of a station (R298-R302) -/

/-- A start is refused (R300, R301). -/
def Mod.refuseStart (m : Mod) (k reason : Nat) : Mod :=
  let m := m.setStn k fun s => { s with reason := reason, started := false, sends := 0 }
  (m.tspState k .refused).raiseStn k 5 reason

/-- The agreed version of an ANNOUNCE, 0 for none (R297). -/
def agreedVer (lo hi : Nat) : Nat := if max lo 1 ≤ min hi 3 then min hi 3 else 0

/-- Step 2 of R300: the reason of the first check that fails, 0 for none (R301). -/
def announceCheck (i : Image) (r : StationRec) (bs : List Byte) : Nat :=
  let v := agreedVer (byteAt bs 0) (byteAt bs 1)
  let fwd := leNat ((bs.drop 2).take 2)
  let fwdMax := (i.proof.ports.getD (r.station / 512) (0, 0, 0)).2.2
  if leNat ((bs.drop 4).take 4) ≠ r.devType then 2
  else if v = 0 ∨ v < r.verMin then 1
  else if leNat ((bs.drop 12).take 2) ≠ r.inLen ∨ leNat ((bs.drop 14).take 2) ≠ r.outLen then 3
  else if fwdMax < fwd then 5
  else 0

/-- Where a copy of a station's frame shows it to be (R298, R305). -/
def Stn.placeCopy (s : Stn) (side relayed : Bool) (hops : Nat) : Stn :=
  let atSide1 := side != relayed
  let s := if atSide1 then { s with hops1 := hops } else { s with hops0 := hops }
  { s with path := if relayed then (if s.path = .own then .own else .relay) else .own }

/-- A station starts: ANNOUNCED, checked, STARTING with its START (R300 steps 1 to 3). -/
def Mod.startStation (m : Mod) (i : Image) (r : StationRec) (e : RxEnt) : Mod :=
  let f := e.frame
  let k := r.station
  let bs := f.payload
  let m := m.setStn k fun s =>
    { s with src := f.src, announcedAt := some m.ltNs, devType := leNat ((bs.drop 4).take 4), lastSeq := some f.seq.toNat
             dropped := true, started := false, revalDone := false, valid := false, goodRun := 0, ackTick := none
             nackRun := false, path := .none, ver := agreedVer (byteAt bs 0) (byteAt bs 1), sends := 0 }
  let m := m.setStn k fun s => s.placeCopy m.bolt.side e.relayed f.hops
  let m := m.tspState k .announced
  let code := announceCheck i r bs
  if code ≠ 0 then m.refuseStart k code
  else
    let known := leNat ((bs.drop 24).take 4) = r.paramDig.toNat
    (m.tspState k .starting).sendStart r known 1

/-- ANNOUNCE (R300): the front frame of a ring. A module that does not decide takes the path and the distance from it (R298,
R305). -/
def execAnnounce (t : Nat) (port : Nat) (s : State) : Host.Outcome State Fault Refusal :=
  s.does fun m =>
    let m := m.start t
    match m.ringTake port 6, m.prog.image with
    | some (e, m), some i =>
      let f := e.frame
      let code := m.tspCheck port f
      if code ≠ 0 then m.rejectFrame port code
      else if !m.controls then
        match m.frameStn port f with
        | some r => m.setStn r.station fun s => s.placeCopy m.bolt.side e.relayed f.hops
        | none => m
      else
        match m.frameStn port f with
        | none => m.refuseStart (addrStn f.addr) 6
        | some r =>
          let k := r.station
          let s := m.stn k
          let again := s.src = f.src
          let recent := match s.announcedAt with | some a => decide (m.ltNs < a + 50000000) | none => false
          let busy := s.state = .announced || s.state = .starting || s.state = .revalidating
          if s.state = .run then
            if again then m
            else (m.setStn k fun s => { s with reason := 4 }).raiseStn k 5 4
          else if s.state = .absent then m.startStation i r e
          else if s.state = .refused then m
          else if busy && !again && recent && !s.started then m.refuseStart k 4
          else if busy && s.started then m.startStation i r e
          else if again then m.setStn k fun s => s.placeCopy m.bolt.side e.relayed f.hops
          else m
    | some (_, m), none => m
    | none, _ => m

/-- A revalidation has failed (R302). -/
def Mod.revalFailed (m : Mod) (k reason : Nat) : Mod :=
  let m := m.setStn k fun s => { s with goodRun := 0, reason := reason, sends := 0 }
  let m := if (m.stn k).state = .revalidating then m.tspState k .starting else m.stnState k
  m.raiseStn k 5 reason

/-- A revalidation has completed (R261, R300 step 7, R302). -/
def Mod.revalidated (m : Mod) (k : Nat) : Mod :=
  let m := m.setStn k fun s =>
    { s with revalDone := s.dropped, starts := inc32 s.starts, sends := 0, nackRun := false }
  (m.tspState k .run).raiseStn k 3 0

/-- Sends the START of a station again, or refuses the station after three sends (R300). -/
def Mod.startAgain (m : Mod) (r : StationRec) : Mod :=
  let s := m.stn r.station
  if s.sends < 3 then m.sendStart r s.reval (s.sends + 1) else m.refuseStart r.station 7

/-- READY (R302): the front frame of a ring ends the step of a start or a revalidation. -/
def execReady (t : Nat) (port : Nat) (s : State) : Host.Outcome State Fault Refusal :=
  s.does fun m =>
    let m := m.start t
    match m.ringTake port 8 with
    | none => m
    | some (e, m) =>
      match m.takeStationFrame port e.frame with
      | (none, m) => m
      | (some r, m) =>
        let k := r.station
        let m := m.setStn k fun s =>
          { s with lastSeq := some e.frame.seq.toNat
                   path := if e.relayed then (if s.path = .own then .own else .relay) else .own }
        let s := m.stn k
        let res := byteAt e.frame.payload 0
        if !m.controls || s.sends = 0 then m
        else if s.state = .starting && !s.started then
          match res with
          | 0 => m.setStn k fun s => { s with started := true, sends := 0, goodRun := 0 }
          | 1 => if s.reval then m.sendStart r false 1 else m.startAgain r
          | 2 => m.refuseStart k 8
          | _ => m.startAgain r
        else if s.state = .revalidating || s.state = .run then
          match res with
          | 0 => m.revalidated k
          | 1 => ((m.setStn k fun s => { s with started := false }).tspState k .starting).sendStart r false 1
          | 2 => m.revalFailed k 8
          | _ => m.revalFailed k 7
        else m

/-- The payload of a DISCOVER (R298). -/
def discoverPayload (i : Image) (port : Nat) : List Byte :=
  let iv := i.interval port
  [1, 3] ++ leBytes i.domain 1 ++ leBytes port 1 ++ leBytes i.tickNs 4 ++ leBytes (i.opNs port) 4 ++ leBytes iv.1 4
    ++ leBytes iv.2 4 ++ [0, 0, 0, 0]

/-- Sends a DISCOVER on a port, and over the partner where a station has path RELAY (R298, R306). -/
def Mod.sendDiscover (m : Mod) (i : Image) (port : Nat) : Mod :=
  let send (m : Mod) (relay : Bool) : Mod :=
    let (f, m') := m.tspFrame port 1 5 (port * 2 ^ 14 + 2 ^ 13) m.sched.tick (discoverPayload i port)
    match m'.putFrame port (512 * port) 0 relay f with
    | some m => m
    | none => m
  let m := send m false
  if m.pantry.stns.any fun p => p.1 / 512 = port && p.2.relayed then send m true else m

/-- DISCOVER_TIMER (R298): a DISCOVER on every segment; a refused station is ABSENT again (R300). -/
def execDiscoverTimer (t : Nat) (s : State) : Host.Outcome State Fault Refusal :=
  s.does fun m =>
    let m := m.start t
    match m.prog.image with
    | some i =>
      if !m.controls || !m.gate then m
      else
        let refused := (m.pantry.stns.filter fun p => p.2.state = .refused).map Prod.fst
        let m := refused.foldl (fun m k => m.tspState k .absent) m
        (tabOf 0 i.portRole).foldl (fun m p => if p.2 = .segment then m.sendDiscover i p.1 else m) m
    | none => m

/-- START_TIMEOUT (R300): no READY within 20 ms of the last part. -/
def execStartTimeout (t : Nat) (stn : Nat) (s : State) : Host.Outcome State Fault Refusal :=
  s.does fun m =>
    let m := m.start t
    let x := m.stn stn
    match m.stnRec stn with
    | some r =>
      if m.controls && x.state = .starting && !x.started && 0 < x.sends && decide (x.sentAt + 20000000 ≤ m.ltNs) then
        m.startAgain r
      else m
    | none => m

/-- REVAL_TIMEOUT (R302): no READY within 2 ms of a REVAL START. -/
def execRevalTimeout (t : Nat) (stn : Nat) (s : State) : Host.Outcome State Fault Refusal :=
  s.does fun m =>
    let m := m.start t
    let x := m.stn stn
    match m.stnRec stn with
    | some r =>
      if m.controls && (x.state = .revalidating || x.state = .run) && 0 < x.sends && decide (x.sentAt + 2000000 ≤ m.ltNs) then
        if x.sends < 3 then m.sendStart r true (x.sends + 1) else m.revalFailed stn 7
      else m
    | none => m

/-! ### Acyclic items (R309, R310, R472) -/

/-- The head of the station's queue goes in flight. -/
def Mod.headToFlight (m : Mod) (stn : Nat) : Mod :=
  let s := m.stn stn
  match s.flight, s.items with
  | none, i :: rest => m.setStn stn fun s => { s with flight := some i, items := rest }
  | _, _ => m

/-- Items are held back before a switchover at pair feature level 1 (R481). -/
def Mod.itemsHeld (m : Mod) : Bool := m.pair.plan.st = .waiting && m.pair.pfl = 1

/-- ACY_ITEM_SEND (R310): the item at the head is sent; while the pair is redundant, only once the shadow has
acknowledged its SENT mark (R472). -/
def execAcyItemSend (t : Nat) (stn : Nat) (s : State) : Host.Outcome State Fault Refusal :=
  s.does fun m =>
    let m := m.start t
    if !m.controls || (m.stn stn).state ≠ .run || m.itemsHeld then m
    else
      let m := m.headToFlight stn
      match (m.stn stn).flight with
      | none => m
      | some i =>
        if i.waiting || i.testUntil.isSome then m
        else if m.redundant && !i.sentAcked then
          if i.sentMark then m
          else
            let j := { i with sentMark := true }
            (m.setStn stn fun s => { s with flight := some j }).mirror 2 false stn j .pending []
        else m.sendItem stn

/-- ACY_RESEND (R310): an idempotent item is sent again every 5 ms. -/
def execAcyResend (t : Nat) (stn : Nat) (s : State) : Host.Outcome State Fault Refusal :=
  s.does fun m =>
    let m := m.start t
    match (m.stn stn).flight with
    | some i =>
      match i.lastSend with
      | some u =>
        if m.controls && i.idem && i.testUntil.isNone && !m.itemsHeld && decide (u + 5000000 ≤ m.ltNs) && !i.expired m.ltNs then
          m.sendItem stn
        else m
      | none => m
    | none => m

/-- ACY_TIMEOUT (R310). -/
def execAcyTimeout (t : Nat) (stn : Nat) (s : State) : Host.Outcome State Fault Refusal :=
  s.does fun m =>
    let m := m.start t
    match (m.stn stn).flight with
    | some i => if m.controls && i.expired m.ltNs then m.endFlight stn .failedTimeout [] else m
    | none => m

/-- TEST_WAIT_END (R310): after WAIT_MS the item is sent again as REISSUED. -/
def execTestWaitEnd (t : Nat) (stn : Nat) (s : State) : Host.Outcome State Fault Refusal :=
  s.does fun m =>
    let m := m.start t
    match (m.stn stn).flight with
    | some i =>
      match i.testUntil with
      | some u =>
        if m.controls && decide (u ≤ m.ltNs) then
          (m.setStn stn fun s => { s with flight := some { i with testUntil := none, reissued := true } }).sendItem stn
        else m
      | none => m
    | none => m

/-- A reply that a shadow hears on its own ports is kept with its mirrored item (R472). -/
def Mod.keepReply (m : Mod) (stn id status waitMs : Nat) (data : List Byte) : Mod :=
  let keep (i : Item) : Item := if i.reqId = id then { i with reply := some (status, waitMs, data) } else i
  m.setStn stn fun s => { s with flight := s.flight.map keep, items := s.items.map keep }

/-- ACY_RSP (R310): the front frame of a ring answers the item in flight; any other reply is discarded. -/
def execAcyRsp (t : Nat) (port : Nat) (s : State) : Host.Outcome State Fault Refusal :=
  s.does fun m =>
    let m := m.start t
    match m.ringTake port 4 with
    | none => m
    | some (e, m) =>
      match m.takeStationFrame port e.frame with
      | (none, m) => m
      | (some r, m) =>
        let k := r.station
        let m := m.setStn k fun s => { s with lastSeq := some e.frame.seq.toNat }
        let bs := e.frame.payload
        let id := leNat (bs.take 4)
        let data := (bs.drop 12).take (leNat ((bs.drop 6).take 2))
        let waitMs := leNat ((bs.drop 8).take 2)
        if m.controls then
          match (m.stn k).flight with
          | some i => if i.reqId = id && i.firstSend.isSome then m.takeReply k i (byteAt bs 4) waitMs data else m
          | none => m
        else m.keepReply k id (byteAt bs 4) waitMs data

/-! ### Peers and links -/

/-- PEER_FRAME (R317): the front frame of a ring; a block at least 6 µs before the next sample point enters the open
buffer, a later one the generation after. -/
def execPeerFrame (t : Nat) (port : Nat) (s : State) : Host.Outcome State Fault Refusal :=
  s.does fun m =>
    let m := m.start t
    match m.ringTake port 9 with
    | none => m
    | some (e, m) =>
      let f := e.frame
      let bs := f.payload
      let d := byteAt bs 0
      let n := leNat ((bs.drop 2).take 2)
      if f.ver ≠ 1 then m.rejectFrame port 2
      else if f.len ≠ bs.length ∨ 1482 < f.len ∨ f.len < 4 + n then m.rejectFrame port 3
      else if f.e2e ≠ f.e2eOf then m.rejectFrame port 4
      else
        match (m.prog.image.bind Image.peer).bind fun c => c.srcs.find? fun x => x.domain = d with
        | none => m
        | some src =>
          let block := padTo src.len ((bs.drop 4).take n)
          let q := m.sched.tick + 1
          let early := decide (e.stamp + 6000 ≤ q * m.tickNs)
          let p : Peer := ⟨true, 0, f.tick.toNat, block, some (if early then q else q + 1)⟩
          let m := { m with pantry := { m.pantry with peers := tabSet m.pantry.peers d p } }
          let m := if m.pair.role = .owner && (m.hall.join = .first || m.hall.join = .converge || m.hall.join = .wait) then
              m.hallSend 3 fun h => .mHeld h (0x2000 + d) q block
            else m
          if early then
            let a := m.pantry.buf q
            { m with pantry := m.pantry.setBuf q { a with imgIn := memWrite a.imgIn src.start block } }
          else m

/-- The link of a port comes up or goes down (R305): when a segment's own link goes down, every station of the segment takes
path RELAY. A port whose domain is off, or that runs a port test, has no link (R594, R616). -/
def Mod.portLink (m : Mod) (port : Nat) (up : Bool) : Mod :=
  let tested := m.test.portJobs.any fun j => j.port = port
  let up := up && m.powered (7 + port) && !tested
  let m := m.setPort port fun p => { p with link := up }
  if !up && m.portRole port = .segment then
    (m.stations.filter fun r => r.station / 512 = port).foldl (fun m r =>
      m.setStn r.station fun s => { s with path := .relay }) m
  else m

/-- PORT_LINK_CHANGE (R305). -/
def execPortLinkChange (t : Nat) (port : Nat) (up : Bool) (s : State) : Host.Outcome State Fault Refusal :=
  s.does fun m => (m.start t).portLink port up

end Sys2Proof.Machine
end

