-- ==== Sys2Proof/Machine/Pairs.lean ====
section
/-! DEFINITION. The BOLT lines and what follows from them: start rule, raises and falls of OWN, takeover, the release of a
planned switchover, the loss of the Hallway (R272, R377, R400, R447-R480, R489). -/
namespace Sys2Proof.Machine

/-! ### The Hallway is gone (R463, R506, R515) -/

/-- Requests and items that wait for the shadow proceed without it (R506). -/
def Mod.unmirror (m : Mod) : Mod :=
  let m := m.savis.reqs.foldl (fun m r => if r.mirrored && r.outcome.isNone then m.tellPending (r.client, r.id) 1 else m) m
  m.pantry.stns.foldl (fun m p =>
    let items := (match p.2.flight with | some i => [i] | none => []) ++ p.2.items
    let m := (items.filter fun i => !i.pended).foldl (fun m i => m.itemPending i 1) m
    let done (i : Item) : Item := { i with pended := true, sentAcked := i.sentAcked || i.sentMark }
    m.setStn p.1 fun s => { s with flight := s.flight.map done, items := s.items.map done }) m

/-- Requests that were passed to the partner end without its answer when the Hallway is lost (log entry 25). -/
def Mod.dropCmds (m : Mod) : Mod :=
  let keys := m.savis.cmdOut
  let m := { m with savis := { m.savis with cmdOut := [], projPend := none, netPend := none, caPend := none } }
  keys.foldl (fun m k => m.finish k .failedTimeout 0 []) m

/-- The Hallway counts as lost (R463). -/
def Mod.hallGone (m : Mod) : Mod :=
  let m := m.dropCmds
  match m.pair.role with
  | .owner => (m.partnerGone).unmirror
  | .shadow =>
    if m.pair.decider then m
    else
      let m := m.goOut 0x11
      { m with hall := { m.hall with endedAt := some m.now } }
  | .joining => m.endJoin 3 false
  | .alone | .out =>
    if m.hall.join = .none then m else m.endJoin 3 false

/-- HALLWAY_LOST (R463): no message for 1 ms while the partner's LIVE toggles. -/
def execHallwayLost (t : Nat) (s : State) : Host.Outcome State Fault Refusal :=
  s.doesPair fun m =>
    let m := m.start t
    let pairs := m.pair.role = .owner || m.pair.role = .shadow || m.pair.role = .joining
    if pairs && m.bolt.livePartner && decide (m.hall.lastRx + 1000000 ≤ m.now) then m.hallGone else m

/-! ### The partner's lines (R447, R453, R455, R458, R459, R462, R465) -/

/-- A change whose go the shadow has not received ends with the switchover (R198). -/
def Mod.switchChange (m : Mod) : Mod :=
  if m.prog.go.isSome then m else m.dropChange .discarded .failedSwitchover 0x0F

/-- The partner's OWN falls while this module is READY: it decides from now on (R465, R466, R469). -/
def Mod.takeOver (m : Mod) : Mod :=
  if m.pair.plan.st = .go then
    { m with pair := { m.pair with decider := true, holdSince := none
                                   fallTick := if m.pair.pfl = 1 && m.pair.fallTick.isNone && !m.pair.decider then
                                       some (m.ltNs / m.tickNs) else m.pair.fallTick } }
  else
    let m := m.switchChange
    { m with pair := { m.pair with decider := true, fallTick := some (m.ltNs / m.tickNs)
                                   gapTicks := 0, holdSince := none } }

/-- A module that never takes over goes OUT (R462); a join ends OWNER_LOST (R515). -/
def Mod.ownerLost (m : Mod) : Mod :=
  let joins := m.pair.role = .joining
  let m := if joins then m.hallSend 0 fun h => .mHoEnd h 2 else m
  let m := m.goOut 0x0B
  if joins then { m with hall := { m.hall with last := 2, endedAt := some m.now } } else m

/-- PARTNER_OWN_FALL (R447, R455, R462, R465): the guard starts. -/
def execPartnerOwnFall (t : Nat) (s : State) : Host.Outcome State Fault Refusal :=
  s.doesPair fun m =>
    let m := m.start t
    if !m.bolt.ownPartner then m
    else
      let m := { m.reflexNow with bolt := { m.bolt with ownPartner := false, partnerLow := m.now, partnerFall := some m.now
                                                        ownStuck := false } }
      match m.pair.role with
      | .shadow => if m.pair.ready then m.takeOver else m.ownerLost
      | .joining => m.ownerLost
      | .owner | .alone | .out => m

/-- Ends a planned switchover in the old owner when the new owner has raised its OWN (R480, R490). -/
def Mod.planHandedOver (m : Mod) : Mod :=
  if m.pair.plan.st = .go && m.pair.role = .shadow && !m.pair.decider then
    let body := leBytes (m.pair.plan.tick.getD 0) 8 ++ leBytes (m.pair.epoch.toNat + 1) 2 ++ padTo 6 []
    let m := (m.finish? m.pair.plan.key .done 0 body).endPlan .done .done
    { m with pair := { m.pair with planned := inc32 m.pair.planned } }
  else m

/-- PARTNER_OWN_RISE (R453, R454): side 1 yields within 2 µs of its own raise. -/
def execPartnerOwnRise (t : Nat) (s : State) : Host.Outcome State Fault Refusal :=
  s.doesPair fun m =>
    let m := m.start t
    let m := { m.reflexNow with bolt := { m.bolt with ownPartner := true, partnerFall := none } }
    let recent := match m.bolt.raisedAt with | some r => decide (m.now ≤ r + 2000) | none => false
    if m.bolt.side && m.bolt.ownSelf && recent then
      { m with bolt := { m.bolt with ownSelf := false, raisedAt := none, contention := true } }
    else m.planHandedOver

/-- PARTNER_LIVE_SEEN (R458): the partner's LIVE begins to toggle. -/
def execPartnerLiveSeen (t : Nat) (s : State) : Host.Outcome State Fault Refusal :=
  s.doesPair fun m =>
    let m := m.start t
    if m.bolt.livePartner then m
    else { m with bolt := { m.bolt with livePartner := true, liveSeen := some m.now } }

/-- PARTNER_LIVE_LOST (R459): no edge of the partner's LIVE for 2 µs; an owner becomes ALONE. -/
def execPartnerLiveLost (t : Nat) (s : State) : Host.Outcome State Fault Refusal :=
  s.doesPair fun m =>
    let m := m.start t
    if !m.bolt.livePartner then m
    else
      let m := { m with bolt := { m.bolt with livePartner := false, liveSeen := none, liveLast := m.now - 2000 } }
      if m.pair.role = .owner then (m.partnerGone).unmirror else m

/-- OWN_STUCK (R455): the partner's OWN is high without an edge of its LIVE for 5 µs. -/
def execOwnStuck (t : Nat) (s : State) : Host.Outcome State Fault Refusal :=
  s.doesPair fun m =>
    let m := m.start t
    if m.bolt.ownPartner && !m.bolt.livePartner && decide (m.bolt.liveLast + 5000 ≤ m.now) then
      let m := { m with bolt := { m.bolt with ownStuck := true } }
      if m.pair.role = .out then m else m.goOut 0x0B
    else m

/-! ### The own lines (R449-R452, R456, R457) -/

/-- STROKE (R450). -/
def execStroke (t : Nat) (s : State) : Host.Outcome State Fault Refusal :=
  s.does fun m =>
    let m := m.start t
    { m with bolt := { m.bolt with lastStroke := m.now } }

/-- The LSU checkpoint of the tick is not voted by t0 + D_LSU + 1.0 µs (R58, R450). -/
def Mod.lsuLate (m : Mod) : Bool :=
  match m.prog.image, m.leading with
  | some i, some x =>
    let l := (m.lane x).lsu
    let open_ := m.sched.lsuDue || l.done
    let limit := 6 * m.edgeAt i m.sched.tick + tRel i + sagCycles (i.proof.cLsu + 2 * i.delta) + 1800 + 6000
    i.axis.isSome && m.sched.running && !m.test.halted && !m.prog.awaitFirst && open_ && decide (limit ≤ 6 * m.ltNs)
  | _, _ => false

/-- LIVENESS_WATCHDOG (R449, R450, R603): no stroke for 16 µs, once one was made, or a late LSU vote. The module leaves its
role with cause MODULE_FAILURE (log entry 16). -/
def execLivenessWatchdog (t : Nat) (s : State) : Host.Outcome State Fault Refusal :=
  s.doesPair fun m =>
    let m := m.start t
    if m.bolt.permit && ((m.bolt.lastStroke ≠ 0 && decide (m.bolt.lastStroke + 16000 ≤ m.now)) || m.lsuLate) then
      let m := { m with bolt := { m.bolt with wdExpired := true } }
      let m := m.clearPermit
      if m.pair.role = .out then m else m.goOut 0x09
    else m

/-- OWN_FALL_NO_LIVE (R452). -/
def execOwnFallNoLive (t : Nat) (s : State) : Host.Outcome State Fault Refusal :=
  s.doesPair fun m =>
    let m := m.start t
    if m.bolt.liveSelf then m
    else { m.reflexNow with bolt := { m.bolt with ownSelf := false, raisedAt := none } }

/-- The newer of two epochs in serial arithmetic (R285). -/
def newerEpoch (a b : Option (BitVec 16)) : Option (BitVec 16) :=
  match a, b with
  | some x, some y => if serialNewer 16 x.toNat y.toNat then some x else some y
  | some x, none => some x
  | none, b => b

/-- The epoch of a raise (R456). -/
def Pair.nextEpoch (p : Pair) : BitVec 16 :=
  match newerEpoch p.epochHeld (newerEpoch p.epochAttic p.epochSeen) with
  | some e => e + 1
  | none => 1

/-- Line and calendar states of a module that now keeps time itself (R427, R442, R443). -/
def Mod.ownTime (m : Mod) : Mod :=
  let t := m.time
  let lt : LtState :=
    if m.isSource || !m.hasPeer then
      (match t.extM with | some x => if x.qual then .locked else .free | none => .free)
    else match t.lineM with | some x => if x.qual then .locked else .holdover | none => .holdover
  { m with time := { t with lt := lt, calSt := t.calOwner } }

/-- An entry whose launch time passed between the fall of the partner's OWN and the raise (R469). -/
def Mod.sweepLate (m : Mod) (fell : Nat) : Mod :=
  let lt := m.ltNs
  let from_ := lt - (m.now - fell)
  (List.range 4).foldl (fun m p =>
    (m.port p).txq.foldl (fun m e =>
      if e.2.state = 1 && (e.2.kind ≠ 2 || e.2.launch ≠ 0) && decide (from_ ≤ e.2.launch) && decide (e.2.launch < lt) then
        (m.setEntry p e.1 (some { e.2 with state := 3 })).lateSwEntry p
      else m) m) m

/-- A mirrored item in flight at a takeover (R473). -/
def Mod.reissueItem (m : Mod) (stn : Nat) : Mod :=
  match (m.stn stn).flight with
  | some i =>
    match i.reply, i.sentMark with
    | some (st, w, data), _ => m.takeReply stn i st w data
    | none, false => m
    | none, true =>
      if i.expired m.ltNs then m.endFlight stn .failedTimeout []
      else if i.idem then
        let m := m.setStn stn fun s => { s with flight := some { i with reissued := true, waiting := false, sentAcked := true } }
        { m with pair := { m.pair with reissued := inc32 m.pair.reissued } }
      else
        let m := m.endFlight stn .failedSwitchover []
        { m with pair := { m.pair with itemsFailed := inc32 m.pair.itemsFailed } }
  | none => m

/-- A request that the shadow's lanes voted and that no mirrored item answers is a new one (R474). -/
def Mod.claimHeld (m : Mod) : Mod :=
  let held := m.pantry.held
  let m := { m with pantry := { m.pantry with held := [] } }
  held.foldl (fun m h =>
    let s := m.stn h.1
    let known := s.items.any (fun i => i.reqId = h.2.reqId) || (match s.flight with | some i => i.reqId == h.2.reqId | none => false)
    if known || tabGet m.prog.reqTab .issued h.2.reqId ≠ .issued then m
    else
      match m.itemVerdict h.1 h.2 with
      | .pending => m.putItem h.1 h.2
      | o => m.reqOutcome h.2.reqId o) m

/-- Engineering requests without a mirrored final outcome end FAILED_SWITCHOVER (R473); those that are station items
live on with their item. -/
def Mod.failEngineering (m : Mod) : Mod :=
  let isItem (r : SReq) : Bool := m.pantry.stns.any fun p =>
    (p.2.items.any fun i => i.cls.isNone && i.client = r.client && i.reqId = r.id)
      || (match p.2.flight with | some i => i.cls.isNone && i.client = r.client && i.reqId = r.id | none => false)
  let gone := m.savis.reqs.filter fun r => r.outcome.isNone && !isItem r && m.prog.chgKey ≠ some (r.client, r.id)
  gone.foldl (fun m r => m.finish (r.client, r.id) .failedSwitchover 0 []) m

/-- The role at the raise of OWN: a takeover, the raise of a planned switchover, or a start (R459, R471, R479). -/
def Mod.raiseRole (m : Mod) : Mod :=
  if m.pair.role ≠ .shadow then m
  else if m.pair.plan.st = .go then
    let body := leBytes (m.pair.plan.tick.getD 0) 8 ++ leBytes m.pair.epoch.toNat 2 ++ padTo 6 []
    let m := (m.toRole .owner 8).ownTime
    let m := { m with pair := { m.pair with
      decider := m.pair.fallTick.isSome, shadowTiming := m.pair.fallTick.isSome, planned := inc32 m.pair.planned
      firstBuild := m.pair.pfl = 1
      plan := { m.pair.plan with st := .done, tick := none } } }
    let m := match m.bolt.partnerFall with | some f => (if m.pair.pfl = 1 then m.sweepLate f else m) | none => m
    let m := m.claimHeld
    let mine := m.savis.reqs.filter fun r => r.outcome.isNone && r.method = 0x0301
    let m := mine.foldl (fun m r => m.finish (r.client, r.id) .done 0 body) m
    m.raisePair 4 m.pair.gapTicks
  else
    let m := (m.toRole .alone 7).ownTime
    let m := { m with pair := { m.pair with takeovers := inc32 m.pair.takeovers, firstBuild := true } }
    let m := match m.bolt.partnerFall with | some f => m.sweepLate f | none => m
    let m := m.pantry.stns.foldl (fun m p => m.reissueItem p.1) m
    (m.claimHeld).failEngineering

/-- Three gratuitous announcements of each pair service address after a raise (R629). -/
def Mod.announcePsa (m : Mod) : Mod :=
  let say (m : Mod) (eng2 link : Bool) : Mod :=
    if link && m.controls && m.psaIp eng2 ≠ 0 then
      let o : Out := .arp eng2 (m.psaIp eng2) true
      ((m.emit o).emit o).emit o
    else m
  say (say m false m.savis.eng1) true m.savis.eng2

/-- OWN_RAISE (R451, R456, R457, R377, R400, R629): after the guard, with every condition met. -/
def execOwnRaise (t : Nat) (s : State) : Host.Outcome State Fault Refusal :=
  s.doesPair fun m =>
    let m := m.start t
    let b := m.bolt
    if !b.ownSelf && !b.ownPartner && decide (b.partnerLow + 2000 ≤ m.now) && b.permit && b.liveSelf && b.bistLatch
        && !b.ownStuck && (b.request || b.armed) then
      let e := m.pair.nextEpoch
      let m := { m.reflexNow with
        pair := { m.pair with epoch := e, epochHeld := some e
                              gapNs := match b.partnerFall with | some f => m.now - f | none => m.pair.gapNs }
        pantry := { m.pantry with segSeq := [] }
        conv := { m.conv with trim := none } }
      let m := m.raiseRole
      ({ m with bolt := { m.bolt with ownSelf := true, raisedAt := some m.now, partnerFall := none, request := true } }).announcePsa
    else m

/-! ### The start rule (R458, R485, R486, R515, R602) -/

/-- A module in OUT that may leave it: its permit set, no refusal in force, 10 s after a join that ended early. A module that
is OUT for want of an image joins an owner that it meets (R531). -/
def Mod.mayStart (m : Mod) : Bool :=
  let held := [0x0C, 0x0D, 0x0F].contains m.pair.outCause
  let waits := match m.hall.endedAt with | some e => decide (m.now < e + 10000000000) | none => false
  m.pair.role = .out && m.bolt.permit && !m.bolt.ownStuck && !m.newel.failed && !held && !waits && decide (2 ≤ m.servingCount)

/-- Stays OUT with a cause (R459). -/
def Mod.stayOut (m : Mod) (cause : Nat) : Mod :=
  let m := m.toRole .out cause
  { m with pair := { m.pair with outCause := cause } }

/-- Enters JOINING (R459, R510): line time and state come from the owner. -/
def Mod.enterJoining (m : Mod) : Mod :=
  let m := m.toRole .joining 2
  { m with pair := { m.pair with outCause := 0, shadowTiming := true, decider := false, digestsOk := true }
           hall := { m.hall with endedAt := none }
           prog := { m.prog with run := .joining }
           time := { m.time with calSt := .tracking } }

/-- The image that a join compares: that of the running program, else the card's effective one (R485, R510). -/
def Mod.joinImage (m : Mod) : Option Image :=
  match m.prog.image with
  | some i => some i
  | none => m.card.effImage

/-- Enters ALONE, or stays OUT without an image (R209, R485). -/
def Mod.tryAlone (m : Mod) : Mod := if m.prog.image.isSome then m.enterAlone else m.stayOut 0x10

/-- What the start rule does in a module in OUT (R458). -/
def Mod.startRule (m : Mod) : Mod :=
  let b := m.bolt
  if !m.mayStart then m
  else if b.ownPartner then
    if m.hall.link = .up && (m.pair.partner = some .owner || m.pair.partner = some .alone) then
      if m.hall.hofNow = 0 then m.stayOut 0x0F
      else
        match m.joinImage, m.hall.partner with
        | some i, some h => if i.digest = h.digest then m.enterJoining else m
        | _, _ => m
    else m
  else if b.livePartner then
    if m.hall.link = .up then
      match m.hall.agree with
      | some a =>
        if a.winner = (if b.side then 1 else 0) then m.tryAlone
        else if a.winner = 2 then m.stayOut 0x0C
        else if a.winner = 3 then m.stayOut 0x10
        else m
      | none => m
    else
      match b.liveSeen with
      | some u => if decide (u + 10000000000 ≤ m.now) && !b.side then m.tryAlone else m
      | none => m
  else if max m.power.startedAt b.liveLast + 2000000000 ≤ m.now then m.tryAlone
  else m

/-- START_RULE (R458, R602 step 7): the firmware has reached the start rule. -/
def execStartRule (t : Nat) (s : State) : Host.Outcome State Fault Refusal :=
  s.doesPair fun m =>
    let m := m.start t
    match m.power.boot with
    | .ready | .started => ({ m with power := { m.power with boot := .started } }).startRule
    | _ => m

/-- JOIN_RETRY (R515): 10 s after an early end of a join the start rule is applied again. -/
def execJoinRetry (t : Nat) (s : State) : Host.Outcome State Fault Refusal :=
  s.doesPair fun m =>
    let m := m.start t
    match m.hall.endedAt with
    | some e =>
      if m.pair.role = .out && decide (e + 10000000000 ≤ m.now) then
        ({ m with hall := { m.hall with endedAt := none } }).startRule
      else m
    | none => m

/-! ### Readiness, lost step, planned release (R272, R461, R478, R479) -/

/-- READY_HOLD_EXPIRY (R461): after 1 T with the partner's OWN still high, the shadow rejoins. -/
def execReadyHoldExpiry (t : Nat) (s : State) : Host.Outcome State Fault Refusal :=
  s.doesPair fun m =>
    let m := m.start t
    match m.pair.holdSince with
    | some h =>
      if m.pair.role = .shadow && decide (h + m.tickNs ≤ m.now) && m.bolt.ownPartner then m.rejoin else m
    | none => m

/-- SHADOW_GENERATION_TIMEOUT (R272): the generation is not complete 20 µs after the shadow's own sample point. -/
def execShadowGenerationTimeout (t : Nat) (s : State) : Host.Outcome State Fault Refusal :=
  s.doesPair fun m =>
    let m := m.start t
    match m.prog.image with
    | some i =>
      let n := m.sched.tick + 1
      if m.pair.role = .shadow && !m.pair.decider && !m.genComplete n && decide (m.edgeAt i n + 20000 ≤ m.ltNs) then m.lostStep
      else m
    | none => m

/-- The end of the last cyclic, PEER or Sync frame of tick s that this module launches, none while one is still to go
(R479). -/
def Mod.outLast (m : Mod) (i : Image) (sw : Nat) : Option Nat :=
  (List.range 4).foldl (fun acc p =>
    let fast := i.portRate.getD p false
    let sync := if sw * i.tickNs % 62500000 = 0 && m.portRole p = .segment then
        sw * i.tickNs + (i.interval p).1 + 200 + wireTime fast 60 / 10 else 0
    (m.port p).txq.foldl (fun acc e =>
      match acc with
      | none => none
      | some u =>
        if e.2.kind = 2 || e.2.tick + 1 ≠ sw then some u
        else if e.2.state = 1 || e.2.state = 0 then none
        else if e.2.state = 2 then some (max u (e.2.sent + wireTime fast e.2.len / 10)) else some u)
      (acc.map fun u => max u sync)) (some (sw * i.tickNs))

/-- The launch states of the entries of tick s, for PLAN (R500). -/
def Mod.launchStates (m : Mod) (sw : Nat) : List (Nat × Nat × Nat × Nat) :=
  (List.range 4).flatMap fun p =>
    ((m.port p).txq.filter fun e => e.2.kind ≠ 2 && e.2.tick + 1 = sw).map fun e => (p, e.1, e.2.state, e.2.sent)

/-- PLANNED_OWN_RELEASE (R479): at OUT_LAST + 0.5 µs the old owner releases OWN and becomes SHADOW, READY. -/
def execPlannedOwnRelease (t : Nat) (s : State) : Host.Outcome State Fault Refusal :=
  s.doesPair fun m =>
    let m := m.start t
    match m.prog.image, m.pair.plan.tick with
    | some i, some sw =>
      if m.pair.plan.st = .go && m.pair.role = .owner && m.pair.shadowTiming && decide (2 ≤ m.pair.pfl) then
        match m.outLast i sw with
        | some u =>
          if u + 500 ≤ m.ltNs then
            let entries := m.launchStates sw
            let m := m.hallSend 0 fun h => .mPlan h false sw entries
            let m := m.toRole .shadow 8
            let m := { m.reflexNow with
              bolt := { m.bolt with ownSelf := false, request := false, raisedAt := none }
              pair := { m.pair with ready := true, digestsOk := true, plan := { m.pair.plan with released := true } }
              time := { m.time with lt := .tracking, calOwner := m.time.calSt, calSt := .tracking, lastTimeMsg := m.now } }
            (m.hallSend 0 fun h => .mPlan h true sw []).endSessions
          else m
        | none => m
      else m
    | _, _ => m

/-- SWITCHOVER_TIMEOUT (R478): no tick qualified within 30 s. -/
def execSwitchoverTimeout (t : Nat) (s : State) : Host.Outcome State Fault Refusal :=
  s.doesPair fun m =>
    let m := m.start t
    if m.pair.plan.st = .waiting && decide (m.pair.plan.since + 30000000000 ≤ m.now) then m.endPlan .failed .failedTimeout
    else m

end Sys2Proof.Machine
end

