-- ==== Sys2Proof/Machine/Sample.lean ====
section
/-! DEFINITION. SAMPLE: live values through the sampler (R84-R91, R152, R166, R167). -/
namespace Sys2Proof.Machine

/-- The working lanes after a lane, which receive its samples (R87). -/
def Mod.followers (m : Mod) (x : LaneId) : List LaneId := m.working.filter fun y => decide (x.num < y.num)

/-- Puts a sampled value into the delay register files of the following lanes (R88). -/
def Mod.pushSample (m : Mod) (e : EngRef) (count : Nat) (x y : W64) : Mod :=
  (m.followers e.lane).foldl (fun m l =>
    m.setLane l fun z => { z with dr := z.dr ++ [⟨e.eng.val, count, 0, x, false⟩, ⟨e.eng.val, count, 1, y, false⟩] }) m

/-- Every following file has room for a sample (R88). -/
def Mod.sampleRoom (m : Mod) (x : LaneId) : Bool :=
  (m.followers x).all fun l => decide ((m.lane l).dr.length + 2 ≤ 64)

/-- The entry of a file at a block-code position (R88). -/
def drFind (l : Lane) (e count part : Nat) : Option DrEnt :=
  l.dr.find? fun d => d.eng = e && d.count = count && d.part = part

/-- What an entry delivers: all ones for an uncorrectable one (R89). -/
def DrEnt.delivered (d : DrEnt) : W64 := if d.bad then BitVec.allOnes 64 else d.value

/-- Takes a sample out of a following lane's file; an uncorrectable entry poisons the lane (R88, R89). -/
def Lane.takeSample (l : Lane) (e count : Nat) (bad : Bool) : Lane :=
  { l with dr := l.dr.filter fun d => !(d.eng = e && d.count = count)
           poison := l.poison || bad
           poisoned := if bad then inc32 l.poisoned else l.poisoned }

/-- The owner's forwarded value for a position of an execution (R90). -/
def Mod.forwarded (m : Mod) (v : View) : Option FwdLive :=
  m.hall.live.find? fun f => f.eng = v.me && f.cls = clsCode v.cls && f.ord = v.ctx.snap.ord
    && f.relTick = v.ctx.snap.relTick % 2 ^ 32 && f.count = v.eng.ops

/-- The module samples its own sources: it decides, as owner or after the owner's OWN fell (R90, R465, R479). -/
def Mod.samplesSelf (m : Mod) : Bool := (m.controls && !m.pair.shadowTiming) || m.pair.decider

/-- A SAMPLE operation: `bad` is its exception, `live` what the sources give and what asking does to them,
`put` writes its register or pair. A value that waits in the lane's file for this position is taken from there (R87, R88).
Else the leader samples, or takes the owner's value in a shadow (R90), and the following lanes wait. -/
def Mod.sampleOp (m : Mod) (e : EngRef) (word : W32) (bad : View → Option Exc) (live : Mod → (W64 × W64) × Mod)
    (put : View → W64 → W64 → View) : Mod :=
  match m.fetch e word with
  | none => m
  | some v =>
    let pos := (m.lane e.lane).retired v.me
    let next := v.next 1
    match bad v with
    | some x => m.putView e (v.raised x) 6 false
    | none =>
      match drFind (m.lane e.lane) v.me pos 0, drFind (m.lane e.lane) v.me pos 1 with
      | some a, some b =>
        let m := m.setLane e.lane fun l => l.takeSample v.me pos (a.bad || b.bad)
        m.putView e (put next a.delivered b.delivered) 6 true
      | _, _ =>
        if m.leader ≠ some e.lane || !m.sampleRoom e.lane then m
        else if !m.samplesSelf || (m.pair.role ≠ .owner && (m.forwarded v).isSome) then
          match m.forwarded v with
          | some f =>
            let m := { m with hall := { m.hall with live := m.hall.live.filter fun g => g ≠ f } }
            (m.pushSample e pos f.v0 f.v1).putView e (put next f.v0 f.v1) 6 true
          | none => m
        else
          let ((x, y), m) := live m
          let m := m.pushSample e pos x y
          let m := if m.forwards then
              m.hallSend 1 fun h =>
                .mLive h v.me (clsCode v.cls) v.ctx.snap.ord (v.ctx.snap.relTick % 2 ^ 32) v.eng.ops x y
            else m
          m.putView e (put next x y) 6 true

/-- STIME (R166): pair := live line time. -/
def execStime (e : EngRef) (t : Nat) (d : Reg) (s : State) : Host.Outcome State Fault Refusal :=
  s.does fun m => (m.start t).sampleOp e (opWord 0xB0 d 0 0)
    (fun _ => if pairOk d then none else some (exc xBadReg))
    (fun m => ((BitVec.ofNat 64 (m.lt / secUnits), BitVec.ofNat 64 (m.lt % secUnits)), m))
    (fun v x y => v.w2 d x y)

/-- SRFX (R373): the reflex pins or cells as they stand. -/
def execSrfx (e : EngRef) (t : Nat) (d : Reg) (i : Imm) (s : State) : Host.Outcome State Fault Refusal :=
  s.does fun m => (m.start t).sampleOp e (opWord 0xB1 d 0 i)
    (fun _ => if i.toNat < 2 then none else some (exc xBadSource))
    (fun m =>
      let m := m.reflexNow
      (((reflexWord m.reflex.pinsIn m.reflex.pinsOut m.reflex.cells i.toNat).getD 0, 0), m))
    (fun v x _ => v.w d x)

/-- SSTMP (R375): pair := the newest stamp of a capture channel; without one only VALID = 0 is stated, the
other bits are open (log entry 8). -/
def execSstmp (e : EngRef) (t : Nat) (d : Reg) (i : Imm) (s : State) : Host.Outcome State Fault Refusal :=
  s.does fun m => (m.start t).sampleOp e (opWord 0xB2 d 0 i)
    (fun _ => if 16 ≤ i.toNat then some (exc xBadSource) else if pairOk d then none else some (exc xBadReg))
    (fun m =>
      match tabFind m.reflex.capLast i.toNat with
      | some p =>
        ((BitVec.ofNat 64 (p.ns / 1000000000),
          BitVec.ofNat 64 (2 ^ 63 + p.count * 2 ^ 48 + p.ns % 1000000000 * 2 ^ 16)), m)
      | none =>
        let (a, m) := m.open_
        let (b, m) := m.open_
        ((BitVec.ofNat 64 a, BitVec.ofNat 64 (b % 2 ^ 63)), m))
    (fun v x y => v.w2 d x y)

/-- The entry of an urgent operation exists (R404). -/
def urgentBad (v : View) (i : Nat) : Option Exc :=
  let n := match v.img.analogue with | some a => a.entries.length | none => 0
  if i < n then none else some (exc xBadSource)

/-- SURG (R404): asks for an urgent conversion; refused while one is pending for the entry. -/
def execSurg (e : EngRef) (t : Nat) (d : Reg) (i : Imm) (s : State) : Host.Outcome State Fault Refusal :=
  s.does fun m => (m.start t).sampleOp e (opWord 0xB3 d 0 i)
    (fun v => urgentBad v i.toNat)
    (fun m =>
      let c := m.conv
      if c.urgPend.contains i.toNat then ((0, 0), m)
      else
        let u := tabGet c.urg ⟨0, false, 0⟩ i.toNat
        ((1, 0), { m with conv := { c with urgPend := c.urgPend ++ [i.toNat]
                                           urg := tabSet c.urg i.toNat { u with valid := false } } }))
    (fun v x _ => v.w d x)

/-- SURGR (R404): the latest urgent result; VALID once the last accepted request has completed. -/
def execSurgr (e : EngRef) (t : Nat) (d : Reg) (i : Imm) (s : State) : Host.Outcome State Fault Refusal :=
  s.does fun m => (m.start t).sampleOp e (opWord 0xB4 d 0 i)
    (fun v => urgentBad v i.toNat)
    (fun m =>
      let u := tabGet m.conv.urg ⟨0, false, 0⟩ i.toNat
      ((BitVec.ofNat 64 (u.word.toNat + if u.valid then 2 ^ 63 else 0), 0), m))
    (fun v x _ => v.w d x)

/-- DELAY_REG_ERROR (R89): a correctable error is corrected and counted; an uncorrectable one is found in the
oldest entry of the lane's file. -/
def execDelayRegError (t : Nat) (l : LaneId) (correctable : Bool) (s : State) : Host.Outcome State Fault Refusal :=
  s.does fun m =>
    let m := m.start t
    if correctable then m.setLane l fun x => { x with drCorr := inc32 x.drCorr }
    else m.setLane l fun x =>
      match x.dr with
      | [] => { x with poison := true, poisoned := inc32 x.poisoned }
      | d :: rest => { x with dr := { d with bad := true } :: rest }

end Sys2Proof.Machine
end

