-- ==== Sys2Proof/Machine/Hallway.lean ====
section
/-! DEFINITION. The Hallway link, HELLO and AGREE, roles and time between the modules, forwarding to a shadow, relay frames
and the mirror (R84-R91, R104, R272, R304-R307, R426, R434, R471-R474, R479, R485-R489, R494-R509). -/
namespace Sys2Proof.Machine

/-! ### Link states (R494-R496) -/

/-- Power domain of the Hallway (R593). -/
def hallDomain : Nat := 11

/-- Sends a message while the link negotiates (R500). -/
def Mod.hallRaw (m : Mod) (f : Msg → Instr) : Mod :=
  let n := (tabGet m.hall.txSeq 0 0 + 1) % 2 ^ 32
  let h := m.hall
  { m with out := m.out ++ [.hall (f ⟨m.now, n, m.sched.tick % 2 ^ 32, true⟩)]
           hall := { h with txSeq := tabSet h.txSeq 0 n, txMsgs := inc32 h.txMsgs, lastTx := m.now } }

/-- The running bank. -/
def Update.running (u : Update) : Bank := if u.runBank then u.bank1 else u.bank0

/-- The pair feature levels and handover formats of the firmware in a bank (R559): 1 for a format 1 package (R560). A
firmware whose package header is not known supports 1-3 (log entry 17). -/
def Bank.levels (b : Bank) : Nat × Nat × Nat × Nat :=
  match b.pkg with
  | some k => if k.fmt = 1 then (1, 1, 1, 1) else (k.pflMin, k.pflMax, k.hofMin, k.hofMax)
  | none => (1, 3, 1, 3)

/-- The HELLO of this module (R501). -/
def Mod.hello (m : Mod) : Hello :=
  let b := m.upd.running
  let (p0, p1, h0, h1) := b.levels
  let img := m.joinImage
  { family := 1, part := 4820, hwRev := m.savis.hwRev, order := m.savis.order, side := m.side, fwVer := m.savis.fwVer
    fwSvn := b.svn, pflMin := p0, pflMax := p1, hofMin := h0, hofMax := h1, role := m.pair.role, img := img.isSome
    serial := m.savis.serial, generation := match img with | some i => i.generation | none => 0
    digest := match img with | some i => i.digest | none => 0
    l0 := if m.time.begun then 0 else m.ownL0
    epoch := (newerEpoch m.pair.epochHeld (newerEpoch m.pair.epochAttic m.pair.epochSeen)).getD 0 }

/-- The link leaves UP (R520). -/
def Hall.leaveUp (h : Hall) : Hall :=
  { h with linkDowns := if h.link = .up then inc32 h.linkDowns else h.linkDowns, pflNow := 0, hofNow := 0
           agree := none, partnerAgree := none, txSeq := [], rxSeq := [] }

/-- The link goes DOWN (R496, R499). -/
def Mod.linkDown (m : Mod) : Mod := { m with hall := { (m.hall.leaveUp) with link := .down } }

/-- The link enters HELLO and sends one (R496, R500). -/
def Mod.enterHello (m : Mod) : Mod :=
  let h := m.hello
  let m := { m with hall := { (m.hall.leaveUp) with link := .hello, own := some h } }
  m.hallRaw fun x => .mHello x h

/-- HALL_LANE_TRAINED (R496). -/
def execHallLaneTrained (t : Nat) (hl : Nat) (s : State) : Host.Outcome State Fault Refusal :=
  s.doesPair fun m =>
    let m := m.start t
    if !m.powered hallDomain then m
    else
      let m := { m with hall := { m.hall with hl0 := m.hall.hl0 || hl == 0, hl1 := m.hall.hl1 || hl == 1 } }
      if m.hall.link = .training then m.enterHello else m

/-- HALL_LANE_LOST (R496): the blocks in flight go over the other lane; how many there were is open (log entry 8). -/
def execHallLaneLost (t : Nat) (hl : Nat) (s : State) : Host.Outcome State Fault Refusal :=
  s.doesPair fun m =>
    let m := m.start t
    let was := m.hall.hl0 || m.hall.hl1
    let m := { m with hall := { m.hall with hl0 := m.hall.hl0 && hl ≠ 0, hl1 := m.hall.hl1 && hl ≠ 1 } }
    if m.hall.hl0 || m.hall.hl1 then
      if m.hall.link = .up then
        let (k, m) := m.open_
        { m with hall := { m.hall with replays := add32 m.hall.replays (k % 33) } }
      else m
    else if was && m.hall.link ≠ .refused then m.linkDown
    else m

/-- HALL_TRAINING_RETRY (R496, R604): training starts once the card read has ended, at once and then every 100 ms. -/
def execHallTrainingRetry (t : Nat) (s : State) : Host.Outcome State Fault Refusal :=
  s.doesPair fun m =>
    let m := m.start t
    if m.hall.link = .down && m.powered hallDomain && (m.power.boot = .ready || m.power.boot = .started) then
      { m with hall := { m.hall with link := .training, trainSince := m.now } }
    else m

/-- HALL_TRAINING_TIMEOUT (R496): no lane is trained 50 ms after training began. -/
def execHallTrainingTimeout (t : Nat) (s : State) : Host.Outcome State Fault Refusal :=
  s.doesPair fun m =>
    let m := m.start t
    if m.hall.link = .training && decide (m.hall.trainSince + 50000000 ≤ m.now) then m.linkDown else m

/-- HALL_LINK_BLOCK (R495): a good block is acknowledged and moves the stream on; a bad one is sent again. -/
def execHallLinkBlock (t : Nat) (hl : Nat) (seq : Nat) (crcOk : Bool) (s : State) : Host.Outcome State Fault Refusal :=
  s.does fun m =>
    let m := m.start t
    if !(if hl = 0 then m.hall.hl0 else m.hall.hl1) then m
    else if crcOk then { m with hall := { m.hall with blockSeq := seq, blocksTx := m.hall.blocksTx + 1 } }
    else { m with hall := { m.hall with replays := inc32 m.hall.replays } }

/-- HALL_IDLE_TIMER (R496): nothing was sent for 100 µs. -/
def execHallIdleTimer (t : Nat) (s : State) : Host.Outcome State Fault Refusal :=
  s.does fun m =>
    let m := m.start t
    if m.hall.lastTx + 100000 ≤ m.now then m.hallSend 0 fun h => .mIdle h else m

/-- HELLO_RESEND (R500): every 10 ms until AGREE. -/
def execHelloResend (t : Nat) (s : State) : Host.Outcome State Fault Refusal :=
  s.does fun m =>
    let m := m.start t
    match m.hall.link, m.hall.own with
    | .hello, some h => m.hallRaw fun x => .mHello x h
    | _, _ => m

/-- ROLE_PERIODIC (R500): every 1 ms. -/
def execRolePeriodic (t : Nat) (s : State) : Host.Outcome State Fault Refusal :=
  s.does fun m => (m.start t).sendRole

/-- TIME_ECHO_PERIODIC (R500, R509): the partner answers the last TIME; T4 is the owner's. -/
def execTimeEchoPeriodic (t : Nat) (s : State) : Host.Outcome State Fault Refusal :=
  s.does fun m =>
    let m := m.start t
    match m.hall.lastTime with
    | some (seq, _, t1, t2) =>
      if m.controls then m else m.hallSend 0 fun h => .mTimeEcho h seq t1 t2 (timeVal m.lt) ⟨0, 0, 0⟩
    | none => m

/-! ### Receiving a message (R498-R500) -/

/-- Takes a message of a class on a link that is UP: a failed check or a gap in MSEQ sets the link DOWN (R499). -/
def Mod.hallTake (m : Mod) (x : Msg) (cls : Nat) : Option Mod × Mod :=
  let m := m.start x.moment
  if m.hall.link ≠ .up then (none, m)
  else
    let gap : Bool := match tabFind m.hall.rxSeq cls with
      | some q => decide ((q + 1) % 2 ^ 32 ≠ x.mseq % 2 ^ 32)
      | none => false
    if !x.chkOk || gap then
      (none, ({ m with hall := { m.hall with chkErr := inc32 m.hall.chkErr } }).linkDown)
    else
      let h := m.hall
      let m := { m with hall := { h with rxSeq := tabSet h.rxSeq cls (x.mseq % 2 ^ 32), rxMsgs := inc32 h.rxMsgs
                                         lastRx := m.now } }
      (some m, m)

/-- The meaning of a message on a link that is UP. -/
def State.hears (s : State) (x : Msg) (cls : Nat) (f : Mod → Mod) : Host.Outcome State Fault Refusal :=
  s.doesPair fun m =>
    match m.hallTake x cls with
    | (some m, _) => f m
    | (none, m) => m

/-- A message that this module may not receive now counts as an error (R500). -/
def Mod.badMsg (m : Mod) : Mod := { m with hall := { m.hall with chkErr := inc32 m.hall.chkErr } }

/-! ### HELLO and AGREE (R502, R503, R485, R486) -/

/-- WINNER of two modules in OUT (R485): 0 and 1 a side, 2 CONFIG_CONFLICT, 3 neither has an image. -/
def winnerOf (a b : Hello) : Nat :=
  match a.img, b.img with
  | false, false => 3
  | true, false => a.side
  | false, true => b.side
  | true, true =>
    if a.generation = b.generation then (if a.digest = b.digest then 0 else 2)
    else if b.generation < a.generation then a.side else b.side

/-- The agreement of two HELLO bodies (R502). -/
def agreement (a b : Hello) : Agree :=
  let pflHi := min (min a.pflMax b.pflMax) 3
  let hofHi := min (min a.hofMax b.hofMax) pflHi
  let win := if a.role = .out ∧ b.role = .out then winnerOf a b else 4
  let l0 := max a.l0 b.l0
  if a.family ≠ b.family then ⟨0, 0, 1, 4, l0⟩
  else if a.side = b.side then ⟨0, 0, 2, 4, l0⟩
  else if pflHi < max a.pflMin b.pflMin ∨ pflHi = 0 then ⟨0, 0, 3, 4, l0⟩
  else ⟨pflHi, if max a.hofMin b.hofMin ≤ hofHi then hofHi else 0, 0, win, l0⟩

/-- Both AGREE bodies are known: the link goes UP or to REFUSED, or negotiates again when they differ (R496, R502). -/
def Mod.tryAgree (m : Mod) : Mod :=
  match m.hall.agree, m.hall.partnerAgree with
  | some a, some b =>
    if a ≠ b then m.enterHello
    else if a.result = 0 then
      let m := { m with
        hall := { m.hall with link := .up, pflNow := a.pfl, hofNow := a.hof, result := 0, lastRx := m.now
                              txSeq := [], rxSeq := [] }
        pair := { m.pair with pfl := a.pfl, hof := a.hof
                              partner := match m.hall.partner with | some h => some h.role | none => none }
        time := { m.time with l0 := if m.time.begun then m.time.l0 else max m.time.l0 a.l0 } }
      m.sendRole
    else
      let m := { m with hall := { (m.hall.leaveUp) with link := .refused, result := a.result } }
      if a.result = 2 && m.pair.role = .out then m.stayOut 0x0D else m
  | _, _ => m

/-- HELLO (R497, R502): while the link is UP it means that the partner has restarted. -/
def execMHello (x : Msg) (b : Hello) (s : State) : Host.Outcome State Fault Refusal :=
  s.doesPair fun m =>
    let m := m.start x.moment
    if !x.chkOk then
      let m := m.badMsg
      if m.hall.link = .up || m.hall.link = .hello then m.linkDown else m
    else if m.hall.link = .up || m.hall.link = .hello then
      let m := if m.hall.link = .up then (m.hallGone).enterHello else m
      let own := m.hall.own.getD m.hello
      let a := agreement own b
      let m := { m with hall := { m.hall with
        partner := some b, agree := some a, rxMsgs := inc32 m.hall.rxMsgs, partnerFw := b.fwVer, partnerHw := b.hwRev
        partnerOrder := b.order } }
      (m.hallRaw fun y => .mAgree y a).tryAgree
    else m

/-- AGREE (R502). -/
def execMAgree (x : Msg) (b : Agree) (s : State) : Host.Outcome State Fault Refusal :=
  s.doesPair fun m =>
    let m := m.start x.moment
    if m.hall.link ≠ .hello then m
    else if !x.chkOk then (m.badMsg).linkDown
    else ({ m with hall := { m.hall with partnerAgree := some b, rxMsgs := inc32 m.hall.rxMsgs } }).tryAgree

/-- IDLE (R496). -/
def execMIdle (x : Msg) (s : State) : Host.Outcome State Fault Refusal :=
  s.hears x 0 fun m => m

/-! ### Forwarding (R84, R90, R272, R507, R508) -/

/-- The module takes the owner's data: a shadow or joiner, or the old owner after the switch tick (R90, R479). -/
def Mod.follows (m : Mod) : Bool := (m.runs || m.pair.role = .joining) && !m.samplesSelf

/-- PAYLOAD (R272). -/
def execMPayload (x : Msg) (gen stn : Nat) (status input : List Byte) (s : State) : Host.Outcome State Fault Refusal :=
  s.hears x 1 fun m =>
    if m.follows && decide (m.sched.tick < gen) then
      ({ m with pantry := { m.pantry with payloads := m.pantry.payloads ++ [(gen, stn, status, input)] } }).tryTick
    else m

/-- CLOSE (R272). -/
def execMClose (x : Msg) (gen : Nat) (subst entered : List Nat) (good : List (Nat × Nat)) (s : State) :
    Host.Outcome State Fault Refusal :=
  s.hears x 1 fun m =>
    if m.follows && decide (m.sched.tick < gen) then
      ({ m with pantry := { m.pantry with closes := m.pantry.closes ++ [(gen, subst, entered, good)] } }).tryTick
    else m

/-- Takes the epoch in force at the owner (R456). -/
def Mod.holdEpoch (m : Mod) (e : BitVec 16) : Mod := { m with pair := { m.pair with epoch := e, epochHeld := some e } }

/-- SAMPLE (R84, R90): the owner's frozen sampled set of a tick. -/
def execMSample (x : Msg) (f : Frozen) (s : State) : Host.Outcome State Fault Refusal :=
  s.hears x 1 fun m =>
    if m.follows && decide (m.sched.tick < f.tick) then
      (({ m with hall := { m.hall with samples := m.hall.samples ++ [f] } }).holdEpoch f.epoch).tryTick
    else m

/-- LIVE (R90): waits for the block-code position that it names. -/
def execMLive (x : Msg) (eng cls ord relTick count : Nat) (v0 v1 : W64) (s : State) : Host.Outcome State Fault Refusal :=
  s.hears x 1 fun m =>
    if m.follows then { m with hall := { m.hall with live := m.hall.live ++ [⟨eng, cls, ord, relTick, count, v0, v1⟩] } }
    else m

/-- DIGEST (R104, R508): matched to a waiting checkpoint of this module, or held; the 65th shows that the shadow has
fallen behind. A digest of a release before the cut of the join has no checkpoint here. -/
def execMDigest (x : Msg) (kind : W32) (relTick ord : Nat) (full : Bool) (chg dfull : W64) (s : State) :
    Host.Outcome State Fault Refusal :=
  s.hears x 1 fun m =>
    let d : Dig := ⟨kind, relTick, ord, full, chg, dfull⟩
    let before : Bool := match m.hall.cut with | some c => decide (relTick < c % 2 ^ 32) | none => false
    if !m.compares || before then m
    else
      match m.hall.ownDigs.find? fun p => p.2.sameCk d with
      | some p =>
        ({ m with hall := { m.hall with ownDigs := m.hall.ownDigs.filter fun q => q.2 ≠ p.2 } }).comparePair p.2 d
      | none =>
        if 64 ≤ m.hall.ownerDigs.length then m.lostStep
        else { m with hall := { m.hall with ownerDigs := m.hall.ownerDigs ++ [d] } }

/-- DIGEST_WAIT_TIMEOUT (R508): a checkpoint of the shadow waited 20 µs for its digest. -/
def execDigestWaitTimeout (t : Nat) (s : State) : Host.Outcome State Fault Refusal :=
  s.doesPair fun m =>
    let m := m.start t
    let late := m.hall.ownDigs.filter fun p => decide (p.1 + 20000 ≤ m.now)
    if m.pair.role = .shadow && m.compares && !late.isEmpty then
      ({ m with hall := { m.hall with ownDigs := m.hall.ownDigs.filter fun p => decide (m.now < p.1 + 20000) } }).lostStep
    else m

/-- TSP states by their code (R322). -/
def tspOf : Nat → TspState
  | 1 => .announced | 2 => .starting | 3 => .run | 4 => .revalidating | 5 => .refused | _ => .absent

/-- STNSTATE (R272). -/
def execMStnstate (x : Msg) (stn tsp ver reason : Nat) (s : State) : Host.Outcome State Fault Refusal :=
  s.hears x 2 fun m =>
    if m.controls then m else m.setStn stn fun s => { s with state := tspOf tsp, ver := ver, reason := reason }

/-! ### Time between the modules (R426, R509) -/

/-- The difference of two time values in ps. -/
def diffPs (a b : TimeVal) : Int := ((a.units : Int) - b.units) * 1000 / 65536

/-- TIME (R426, R509): the partner's offset is T2 − T1 − DELAY_PS; it follows the owner's line and calendar time, their
rates and the calendar state. Beyond 200 ns a shadow has lost step. -/
def execMTime (x : Msg) (t1 cal : TimeVal) (ltRate calRate : Int) (status : W32) (delayPs : Int) (t2 : TimeVal) (s : State) :
    Host.Outcome State Fault Refusal :=
  s.hears x 0 fun m =>
    if m.pair.role = .owner || m.pair.role = .alone then m
    else
      let offset := diffPs t2 t1 - delayPs
      let m := { m with hall := { m.hall with lastTime := some (x.mseq, x.tick, t1, t2) }
                        time := { m.time with lastTimeMsg := m.now, ltOffset := offset / 1000 } }
      if m.pair.role = .out then m
      else
        let far := decide (200000 < offset.natAbs)
        let line := ((m.lt : Int) - offset * 65536 / 1000).toNat
        let calNow := ((cal.units : Int) + (line - t1.units)).toNat
        let st := status.toNat / 2 ^ 24 % 16
        let owner : CalState := match st with | 1 => .acquiring | 2 => .locked | 3 => .holdover | 4 => .refused | _ => .unset
        let first := !m.time.begun
        let m := { m with time := { m.time with
          line := ⟨m.now, line, ltRate⟩
          cal := ⟨line, calNow, calRate⟩
          begun := true
          begunAt := if first then m.now else m.time.begunAt
          lt := .tracking
          calSt := .tracking
          calOwner := owner
          calValid := status.getLsbD 23
          refused := status.getLsbD 21
          lineM := if status.toNat / 2 ^ 28 = 3 then m.time.lineM else none
          extM := if status.getLsbD 18 then m.time.extM else none } }
        if far && m.pair.role = .shadow then m.lostStep else m

/-- TIME_ECHO (R509): the owner measures the link delay. -/
def execMTimeEcho (x : Msg) (_answered : Nat) (t1 t2 t3 t4 : TimeVal) (s : State) : Host.Outcome State Fault Refusal :=
  s.hears x 0 fun m =>
    let d := (diffPs t4 t1 - diffPs t3 t2) / 2
    { m with hall := { m.hall with delayPs := d } }

/-! ### A planned switchover (R479, R480) -/

/-- PLAN (R479): the launch states of tick s, or the release of OWN. The new owner checks acknowledgement for the records
that the old one launched. -/
def execMPlan (x : Msg) (released : Bool) (tick : Nat) (entries : List (Nat × Nat × Nat × Nat)) (s : State) :
    Host.Outcome State Fault Refusal :=
  s.hears x 0 fun m =>
    if m.pair.role ≠ .shadow && m.pair.role ≠ .owner then m
    else if released then
      if m.pair.role = .shadow then
        { m with pair := { m.pair with plan := { m.pair.plan with st := .go, released := true
                                                                  tick := some (m.pair.plan.tick.getD tick) } } }
      else m
    else
      let m := { m with pair := { m.pair with plan := { m.pair.plan with entries := entries } } }
      match m.prog.image with
      | some i =>
        entries.foldl (fun m e =>
          if e.2.2.1 = 2 then
            match tabFind (m.port e.1).txq e.2.1 with
            | some q =>
              let m := m.setEntry e.1 e.2.1 (some { q with state := 2, sent := e.2.2.2 })
              if q.tick + 1 = tick then m.entrySent i e.1 e.2.1 e.2.2.2 q else m
            | none => m
          else m) m
      | none => m

/-! ### Relay frames (R304-R307, R434) -/

/-- RELAY_UP (R304): the owner enters a relayed TSP frame into the receive ring of the same port. A relayed PTP frame
reaches its clock as DELAY_REQ (R434). -/
def execMRelayUp (x : Msg) (port : Nat) (ptp : Bool) (_first last : Nat) (f : Frame) (s : State) :
    Host.Outcome State Fault Refusal :=
  s.hears x 1 fun m =>
    let ofStation := f.type = 2 || f.type = 4 || f.type = 6 || f.type = 8
    if !m.controls || ptp || !ofStation || m.portRole port ≠ .segment then m else m.ringPut port ⟨f, last, true⟩

/-- RELAY_DN (R306, R307): a relay frame enters the launch queue of the partner; one that comes after its launch time is
reported. -/
def execMRelayDn (x : Msg) (port entry : Nat) (e : TxEntry) (s : State) : Host.Outcome State Fault Refusal :=
  s.hears x 1 fun m =>
    if m.controls || entry < 768 || 1024 ≤ entry then m
    else if e.kind ≠ 2 && decide (e.launch < m.ltNs) then m.hallSend 1 fun h => .mRelayRpt h port entry 3 0
    else m.setEntry port entry (some { e with state := 1, relay := true })

/-- RELAY_RPT (R307): the launch or drop of a relay entry, as the owner records it. -/
def execMRelayRpt (x : Msg) (port entry state sent : Nat) (s : State) : Host.Outcome State Fault Refusal :=
  s.hears x 1 fun m =>
    match m.prog.image, tabFind (m.port port).relayQ entry with
    | some i, some e =>
      let m := m.setPort port fun p => { p with relayQ := tabSet p.relayQ entry { e with state := state, sent := sent } }
      if state = 2 then m.entrySent i port entry sent e
      else if state = 3 then m.lateEntry port
      else m
    | _, _ => m

/-! ### The mirror (R71, R472, R473, R506) -/

/-- The item of a mirrored ACCEPT: its ACY_REQ body, its timeout from the request that this module's lanes voted; an item
of an engineering request has the default (log entry 18). -/
def Mod.mirrorItem (m : Mod) (idem : Bool) (reqId client : Nat) (body : List Byte) : Item :=
  let own := (m.pantry.held.find? fun h => h.2.reqId = reqId).map Prod.snd
  { reqId := reqId
    cls := if client = 0 then some (reqId / 2 ^ 29) else none
    client := client
    kind := byteAt body 4
    idem := idem
    timeoutMs := match own with | some i => i.timeoutMs | none => 100
    index := leNat ((body.drop 8).take 2)
    sub := byteAt body 10
    data := (body.drop 12).take (leNat ((body.drop 6).take 2))
    pended := true }

/-- Takes the mirrored item with a request id out of a station's queue. -/
def Mod.dropMirrored (m : Mod) (stn id : Nat) : Mod :=
  m.setStn stn fun s =>
    { s with items := s.items.filter fun i => i.reqId ≠ id
             flight := match s.flight with | some i => if i.reqId = id then none else some i | none => none }

/-- One step of a mirrored station item (R472). -/
def Mod.mirrorStep (m : Mod) (op : Nat) (idem : Bool) (stn reqId client : Nat) (o : Outc) (sentAt : Nat) (body : List Byte) :
    Mod :=
  match op with
  | 1 =>
    let i := m.mirrorItem idem reqId client body
    let m := m.setStn stn fun s => { s with items := s.items ++ [i] }
    let m := { m with pantry := { m.pantry with held := m.pantry.held.filter fun h => h.2.reqId ≠ reqId } }
    if client = 0 then m.reqOutcome reqId .pending
    else
      let r : SReq := { client := client, id := reqId, method := 0x0101, pended := true, foreign := true }
      { m with savis := { m.savis with reqs := m.savis.reqs ++ [r] } }
  | 2 =>
    let at_ := if sentAt = 0 then m.ltNs else sentAt
    m.setStn stn fun s =>
      match s.items.find? fun i => i.reqId = reqId with
      | some i => { s with items := s.items.filter fun j => j.reqId ≠ reqId
                           flight := some { i with sentMark := true, sentAcked := true, firstSend := some at_, waiting := true } }
      | none => s
  | 3 => m.keepReply stn reqId (byteAt body 4) (leNat ((body.drop 8).take 2)) ((body.drop 12).take (leNat ((body.drop 6).take 2)))
  | _ =>
    let s := m.stn stn
    let data := match (s.flight.toList ++ s.items).find? fun i => i.reqId = reqId with
      | some i => match i.reply with
        | some (_, _, d) => i.result d
        | none => []
      | none => []
    let good := o = .done || o = .delayed
    let m := m.dropMirrored stn reqId
    if client = 0 then m.reqOutcome reqId o else m.finish (client, reqId) o 0 (if good then data else [])

/-- One step of a mirrored engineering request that is no station item (R476). -/
def Mod.mirrorReq (m : Mod) (op reqId client : Nat) (o : Outc) (body : List Byte) : Mod :=
  if op = 1 then
    let r : SReq := { client := client, id := reqId, method := leNat (body.take 2), pended := true, foreign := true }
    { m with savis := { m.savis with reqs := m.savis.reqs ++ [r] } }
  else if op = 4 then m.finish (client, reqId) o 0 []
  else m

/-- MIRROR (R71, R472): the shadow records the step and acknowledges it. -/
def execMMirror (x : Msg) (op : Nat) (idem engineering : Bool) (stn reqId client : Nat) (outcome : Outc) (sentAt : Nat)
    (body : List Byte) (s : State) : Host.Outcome State Fault Refusal :=
  s.hears x 2 fun m =>
    if m.controls then m
    else
      let m := if engineering then m.mirrorReq op reqId client outcome body
        else m.mirrorStep op idem stn reqId client outcome sentAt body
      m.hallSend 2 fun h => .mMirrorAck h x.mseq reqId op

/-- The place of an item in its station's queue, from 1, when it waits for the shadow (R69, R71). -/
def Mod.waitingItem (m : Mod) (reqId : Nat) : Option (Nat × Nat × Item) :=
  m.pantry.stns.findSome? fun p =>
    (tabOf 1 p.2.items).findSome? fun i => if i.2.reqId = reqId && !i.2.pended then some (p.1, i.1, i.2) else none

/-- The place of a request in the engineering queue: 1 and the requests ahead that have not ended (R69). -/
def Mod.queuePos (m : Mod) (r : SReq) : Nat :=
  1 + ((m.savis.reqs.takeWhile fun x => !(x.client = r.client && x.id = r.id)).filter fun x => x.outcome.isNone && !x.foreign).length

/-- MIRROR_ACK (R71, R472, R506): PENDING is told, or the ACY_REQ launched. -/
def execMMirrorAck (x : Msg) (_mseq reqId op : Nat) (s : State) : Host.Outcome State Fault Refusal :=
  s.hears x 2 fun m =>
    if op = 1 then
      match m.waitingItem reqId with
      | some (stn, pos, i) =>
        let m := m.setStn stn fun s =>
          { s with items := s.items.map fun j => if j.reqId = reqId then { j with pended := true } else j }
        m.itemPending i pos
      | none =>
        match m.savis.reqs.find? fun r => r.mirrored && r.id = reqId && !r.pended && r.outcome.isNone with
        | some r => m.tellPending (r.client, r.id) (m.queuePos r)
        | none => m
    else if op = 2 then
      m.pantry.stns.foldl (fun m p =>
        match p.2.flight with
        | some i =>
          if i.reqId = reqId && i.sentMark && !i.sentAcked then
            (m.setStn p.1 fun s => { s with flight := some { i with sentAcked := true } }).sendItem p.1
          else m
        | none => m) m
    else m

end Sys2Proof.Machine
end

