-- ==== Sys2Proof/Machine/Power.lean ====
section
/-! DEFINITION. Power, clocks, start-up and Hearth reset, the power-up BIST, the bank choice, the boundary-scan port
(R448, R449, R548, R571-R573, R583, R584, R590-R604, R608-R610, R618, R619, R660). -/
namespace Sys2Proof

/-- The lane with a number passed both tests. -/
def BistRes.lanePass (r : BistRes) (k : Nat) : Bool := r.lbist.getD k false && r.mbist.getD k false

/-- The condition of R609. -/
def BistRes.pass (r : BistRes) : Bool :=
  r.voteL && r.pantryL && r.pantryM && r.rulesM && decide (2 ≤ ([0, 1, 2].filter fun k => r.lanePass k).length)

end Sys2Proof

namespace Sys2Proof.Machine

/-! ### Loss of all that is volatile (R601, R610) -/

/-- The module after every domain but SVC was off: what is non-volatile and what comes from outside stay, and the SIDE value
(R448); everything else is as at power-up. -/
def Mod.cleared (m : Mod) (p : Power) : Mod :=
  let z : Mod := {}
  { z with
    now := m.now, out := m.out, free := m.free, power := p
    prog := { z.prog with ownKey := m.prog.ownKey, keyAt := m.prog.keyAt, pairKey := m.prog.ownKey }
    bolt := { z.bolt with side := m.bolt.side, ownPartner := m.bolt.ownPartner, livePartner := m.bolt.livePartner
                          partnerLow := m.bolt.partnerLow, liveSeen := m.bolt.liveSeen, liveLast := m.bolt.liveLast }
    reflex := { z.reflex with pinsIn := m.reflex.pinsIn }
    card := { z.card with card := m.card.card, locked := m.card.locked }
    attic := { z.attic with hdrA := m.attic.hdrA, hdrB := m.attic.hdrB, home := m.attic.home, journal := m.attic.journal
                            bad := m.attic.bad, nextSeq := m.attic.nextSeq }
    upd := { z.upd with bank0 := m.upd.bank0, bank1 := m.upd.bank1, slotDig := m.upd.slotDig, revoked := m.upd.revoked
                        svnFused := m.upd.svnFused, project := m.upd.project, runBank := m.upd.runBank }
    savis := { z.savis with net := m.savis.net, anchors := m.savis.anchors, eng1 := m.savis.eng1, eng2 := m.savis.eng2
                            hwRev := m.savis.hwRev, order := m.savis.order, serial := m.savis.serial
                            fwVer := m.savis.fwVer } }

/-- The power state that goes on through a loss of the other domains. -/
def Power.kept (p : Power) : Power := { feed1 := p.feed1, feed2 := p.feed2, leverOpen := p.leverOpen }

/-- Enters Porch mode (R583, R584): only SVC and PANTRY are on, LIVE stays still, the role is OUT with cause RESET. -/
def Mod.enterPorch (m : Mod) (byKey : Bool) : Mod :=
  let m := (m.clearPermit).goOut 0x0E
  { m with power := { m.power with boot := .porch, on := 0x21#14 }
           upd := { m.upd with porch := true, porchByKey := byKey } }

/-- Steps 1 and 2 of R602: SVC is on, the ROM runs, the lanes, VOTE and PANTRY are on and the power-up BIST begins. -/
def Mod.bootUp (m : Mod) (cause : Nat) : Mod :=
  m.cleared { m.power.kept with boot := .bist, on := 0x3F#14, resetCause := cause, startedAt := m.now, sagAt := m.now }

/-- A Hearth reset (R601): from any role to OUT with cause RESET (R459); an open download ends ABANDONED (R569). -/
def Mod.hearthReset (m : Mod) (cause : Nat) : Mod :=
  let from_ := m.pair.role.code
  let tick := m.sched.tick % 2 ^ 32
  let dl : Bool := m.upd.dl = .receiving || m.upd.dl = .verifying
  let scan := m.test.scan
  let m := (m.endSessions).bootUp cause
  { m with
    pair := { m.pair with lastFrom := from_, lastTo := 0, lastCause := 0x0E, changeTick := tick, outCause := 0x0E }
    test := { m.test with scan := scan }
    upd := { m.upd with dl := if dl then .failed else .idle, dlReason := if dl then 0x0C else 0 } }

/-! ### Start, power fail, feeds (R590, R591, R660) -/

/-- POWER_ON_START (R591, R583, R602): reset cause POWER_FAIL when SVC was kept, else POWER_ON; SIDE is read; the key in SERVICE
with SELECT held enters Porch mode. -/
def execPowerOnStart (t : Nat) (side : Bool) (selectHeld : Bool) (s : State) : Host.Outcome State Fault Refusal :=
  s.does fun m =>
    let m := m.start t
    if m.power.boot ≠ .off then m
    else
      let failed := m.power.failing
      let m := if failed then m.hearthReset 2 else m.bootUp 1
      let m := { m with bolt := { m.bolt with side := if failed then m.bolt.side else side }
                        power := { m.power with leverOpen := false } }
      if selectHeld && m.prog.ownKey = .service then m.enterPorch true else m

/-- POWER_FAIL (R591): the permit clears, OWN falls, the Attic ends its commit and every domain but SVC goes off. -/
def execPowerFail (t : Nat) (s : State) : Host.Outcome State Fault Refusal :=
  s.does fun m =>
    let m := m.start t
    if m.power.boot = .off then m
    else
      let m := (m.clearPermit).endSessions
      let m := if !m.attic.fault && m.attic.pendCovers ≠ 0 then m.atticCommitNow else m
      let from_ := m.pair.role.code
      let tick := m.sched.tick % 2 ^ 32
      let m := m.cleared { m.power.kept with failing := true }
      { m with pair := { m.pair with lastFrom := from_, lastTo := 0, lastCause := 0x0E, changeTick := tick, outCause := 0x0E } }

/-- SVC_SWITCH_OFF (R591): the input is below 12.0 V and the SVC domain loses its supply. -/
def execSvcSwitchOff (t : Nat) (s : State) : Host.Outcome State Fault Refusal :=
  s.does fun m =>
    let m := m.start t
    m.cleared { m.power.kept with on := 0 }

/-- LEVER_OPEN (R660): the feed switch opens; the power fail follows as POWER_FAIL. -/
def execLeverOpen (t : Nat) (s : State) : Host.Outcome State Fault Refusal :=
  s.does fun m =>
    let m := m.start t
    { m with power := { m.power with leverOpen := true } }

/-- FEED_CHANGE (R590, R605): the voltage of feed 1 or 2 in mV. -/
def execFeedChange (t : Nat) (feed : Bool) (mv : Nat) (s : State) : Host.Outcome State Fault Refusal :=
  s.does fun m =>
    let m := m.start t
    let old := if feed then m.power.feed2 else m.power.feed1
    let drops := if 18000 ≤ old ∧ mv < 18000 then inc32 m.power.feedDrops else m.power.feedDrops
    if feed then { m with power := { m.power with feed2 := mv, feedDrops := drops } }
    else { m with power := { m.power with feed1 := mv, feedDrops := drops } }

/-! ### The lane clock (R596-R600) -/

/-- The lane clock goes to 1.2 GHz (R596, R597). -/
def Mod.slowClock (m : Mod) : Mod :=
  if m.power.sag then m
  else { m with power := { m.power with sag := true }, sched := { m.sched with sagEvents := inc32 m.sched.sagEvents } }

/-- SAG (R596): a new sag starts the wait of R597 again. -/
def execSag (t : Nat) (railLow : Bool) (s : State) : Host.Outcome State Fault Refusal :=
  s.does fun m =>
    let m := m.start t
    if m.power.boot = .off then m
    else
      let m := m.slowClock
      { m with power := { m.power with sagAt := m.now, railLow := railLow } }

/-- SAG_RECOVERY (R597): input and rails were good for 1 ms without a break. -/
def execSagRecovery (t : Nat) (s : State) : Host.Outcome State Fault Refusal :=
  s.does fun m =>
    let m := m.start t
    if m.power.sagAt + 1000000 ≤ m.now then
      { m with power := { m.power with sag := m.power.l1Lost && m.power.sag, railLow := false } }
    else m

/-- CLOCK_LOSS (R600): PLL L1 alone holds the lane clock at 1.2 GHz; every other loss is a Hearth reset. -/
def execClockLoss (t : Nat) (l1Only : Bool) (s : State) : Host.Outcome State Fault Refusal :=
  s.does fun m =>
    let m := m.start t
    if m.power.boot = .off then m
    else if l1Only then
      let m := m.slowClock
      { m with power := { m.power with l1Lost := true } }
    else m.hearthReset 7

/-- HEARTH_WATCHDOG (R601). -/
def execHearthWatchdog (t : Nat) (s : State) : Host.Outcome State Fault Refusal :=
  s.does fun m =>
    let m := m.start t
    if m.power.boot = .off then m else m.hearthReset 9

/-- START_WATCHDOG (R572): the firmware has not reached the start rule within 60 s. -/
def execStartWatchdog (t : Nat) (s : State) : Host.Outcome State Fault Refusal :=
  s.does fun m =>
    let m := m.start t
    match m.power.boot with
    | .cardRead | .ready => if m.power.handedOver + 60000000000 ≤ m.now then m.hearthReset 4 else m
    | _ => m

/-! ### Port domains (R593, R594) -/

/-- The domain of a line port. -/
def portDomain (p : Nat) : Nat := 7 + p

/-- Bit 15 + k of TRIPPED (R607). -/
def domBit (k : Nat) : BitVec 14 := 1#14 <<< (k - 1)

/-- A port's domain goes off and its link down. -/
def Mod.portOff (m : Mod) (p : Nat) : Mod := (m.setPower (portDomain p) false).portLink p false

/-- A port's domain goes on; a trip of it is over (R607). -/
def Mod.portOn (m : Mod) (p : Nat) : Mod :=
  let m := m.setPower (portDomain p) true
  { m with power := { m.power with tripped := m.power.tripped &&& ~~~domBit (portDomain p) } }

/-- An SFP fault (R594). -/
def Mod.sfpFaults (m : Mod) (p : Nat) : Mod :=
  if !m.powered (portDomain p) then m
  else
    let m := m.portOff p
    { m with power := { m.power with sfpFault := (m.power.sfpFault.filter fun q => q ≠ p) ++ [p]
                                     sfpAt := tabSet m.power.sfpAt p m.now } }

/-- SFP_FAULT (R594). -/
def execSfpFault (t : Nat) (port : Nat) (s : State) : Host.Outcome State Fault Refusal :=
  s.does fun m => if port < 4 then (m.start t).sfpFaults port else m.start t

/-- SFP_REMOVED (R593, R594): the domain goes off; a new SFP starts without a fault. -/
def execSfpRemoved (t : Nat) (port : Nat) (s : State) : Host.Outcome State Fault Refusal :=
  s.does fun m =>
    let m := m.start t
    if port < 4 then
      let m := if m.powered (portDomain port) then m.portOff port else m
      let off (l : List Nat) : List Nat := l.filter fun q => q ≠ port
      { m.setPortTime port fun x => { x with opticOk := false } with
        power := { m.power with sfpFault := off m.power.sfpFault, sfpTried := off m.power.sfpTried } }
    else m

/-- SFP_RETRY (R594): after a replacement, or once 10 s after the fault. -/
def execSfpRetry (t : Nat) (port : Nat) (replaced approved : Bool) (s : State) : Host.Outcome State Fault Refusal :=
  s.does fun m =>
    let m := m.start t
    let faulted := m.power.sfpFault.contains port
    let due := decide (tabGet m.power.sfpAt 0 port + 10000000000 ≤ m.now)
    let may := if replaced then !faulted else faulted && !m.power.sfpTried.contains port && due
    if 4 ≤ port || m.powered (portDomain port) || m.portRole port = .unused || !may then m
    else
      let m := (m.portOn port).setPortTime port fun x => { x with opticOk := approved }
      if replaced then m
      else { m with power := { m.power with sfpFault := m.power.sfpFault.filter fun q => q ≠ port
                                            sfpTried := m.power.sfpTried ++ [port] } }

/-! ### Trips (R595, R113, R614) -/

/-- A trip of a lane that is out of the vote counts as an upset (R108, R111): the third within 24 h retires the lane, else its
resync starts from the reset step (R595). -/
def Mod.tripUpset (m : Mod) (x : LaneId) : Mod :=
  let lt := m.ltNs
  let l := m.lane x
  let third := decide (2 ≤ (l.moments.filter fun t => decide (lt < t + dayNs)).length)
  let m := m.setLane x fun l =>
    { l with mode := .resync, phase := .reset, power := false, upsets := inc32 l.upsets, marked := 0, copiedKib := 0
             donor := m.donorFor x, moments := (l.moments ++ [lt]).drop ((l.moments.length + 1) - 3)
             outTick := m.sched.tick % 2 ^ 32, outAt := m.now }
  if third then (m.retire x l.cause).raiseLane x 2 l.cause 0 7 m.sched.tick 0xFFFFFFFF true else m

/-- A lane's domain trips (R595): in a module with two lanes in service that is a module failure (R113); otherwise the lane
stops, and the vote takes it out. -/
def Mod.laneTrips (m : Mod) (x : LaneId) : Mod :=
  match (m.lane x).mode with
  | .serving | .halted =>
    if m.serving.length ≤ 2 then m.failModule .lanesBelowTwo 7
    else m.setLane x fun l => { l with power := false, stopped := some (l.stopped.getD false) }
  | .resync => m.tripUpset x
  | .test => ((m.abortRot .failedStation).tripUpset x).setPower (laneDomain x) false
  | .off | .retired => m

/-- The consequence of a trip of domain k (R595). -/
def Mod.trips (m : Mod) (k : Nat) : Mod :=
  let again : Bool := match tabFind m.power.tripAt k with | some u => decide (m.now < u + 1000000000) | none => false
  let m := m.setPower k false
  let m := { m with power := { m.power with trips := inc32 m.power.trips, tripped := m.power.tripped ||| domBit k
                                            tripAt := tabSet m.power.tripAt k m.now } }
  match k with
  | 2 => m.laneTrips .A
  | 3 => m.laneTrips .B
  | 4 => m.laneTrips .C
  | 5 | 6 => m.hearthReset 8
  | 11 => ({ m with hall := { m.hall with hl0 := false, hl1 := false } }.hallGone).linkDown
  | 12 => if again then m.hearthReset 8 else { m with conv := { m.conv with passActive := false, calBusy := false, urgPend := [] } }
  | 13 => m.atticFails
  | 14 => if again then m.hearthReset 8 else { m with reflex := m.reflex.load none m.now }
  | _ => m

/-- DOMAIN_TRIP (R595). -/
def execDomainTrip (t : Nat) (dom : Nat) (s : State) : Host.Outcome State Fault Refusal :=
  s.doesPair fun m =>
    let m := m.start t
    if dom < 2 || 14 < dom || !m.powered dom then m
    else if 7 ≤ dom && dom ≤ 10 then
      let m := m.sfpFaults (dom - 7)
      { m with power := { m.power with trips := inc32 m.power.trips, tripped := m.power.tripped ||| domBit dom } }
    else m.trips dom

/-- DOMAIN_RESTORE (R595): a lane, HALL, AFE or REFLEX is switched on again after 10 ms. -/
def execDomainRestore (t : Nat) (dom : Nat) (s : State) : Host.Outcome State Fault Refusal :=
  s.does fun m =>
    let m := m.start t
    let due := decide (tabGet m.power.tripAt 0 dom + 10000000 ≤ m.now)
    if !([2, 3, 4, 11, 12, 14] : List Nat).contains dom || (m.power.tripped &&& domBit dom) = 0 || !due then m
    else
      let lane : Option LaneId := match dom with | 2 => some .A | 3 => some .B | 4 => some .C | _ => none
      let retired : Bool := match lane with | some x => decide ((m.lane x).mode = .retired) | none => false
      if retired then m
      else
        let m := m.setPower dom true
        let m := { m with power := { m.power with tripped := m.power.tripped &&& ~~~domBit dom } }
        match lane with
        | some x => m.setLane x fun l => { l with power := true }
        | none =>
          if dom = 14 then { m with reflex := m.reflex.load (m.prog.image.bind Image.reflex) m.now } else m

/-! ### The power-up BIST (R608-R610) -/

/-- A lane after the power-up BIST. -/
def Lane.afterBist (ok serves : Bool) : Lane :=
  { Lane.zero with mode := if serves && ok then .serving else .off, bistOk := ok, power := ok }

/-- BIST_DONE (R602 step 3, R609): latch, permit, HALL and ATTIC, or the module stays OUT with OWN low (R452). A lane that failed stays off. -/
def execBistDone (t : Nat) (r : BistRes) (s : State) : Host.Outcome State Fault Refusal :=
  s.doesPair fun m =>
    let m := m.start t
    if m.power.boot ≠ .bist then m
    else
      let ok := r.pass
      let off (k : Nat) (b : BitVec 14) : BitVec 14 := if r.lanePass k then b else b &&& ~~~domBit (2 + k)
      let on := off 0 (off 1 (off 2 m.power.on))
      { m with
        test := { m.test with bist := some r, bistPass := ok }
        lanes := ⟨Lane.afterBist (r.lanePass 0) ok, Lane.afterBist (r.lanePass 1) ok, Lane.afterBist (r.lanePass 2) ok⟩
        bolt := { m.bolt with bistLatch := ok, permit := ok, liveSelf := ok, lastStroke := 0, ownSelf := ok && m.bolt.ownSelf }
        power := { m.power with boot := if ok then .rom else .bistFail
                                on := if ok then on ||| domBit 11 ||| domBit 13 else on } }

/-! ### Bank choice and the start of the firmware (R548, R571, R573, R602 step 4) -/

/-- A bank by its number. -/
def Update.bank (u : Update) (k : Nat) : Bank := if k = 0 then u.bank0 else u.bank1

/-- Changes a bank's record. -/
def Update.setBank (u : Update) (k : Nat) (b : Bank) : Update := if k = 0 then { u with bank0 := b } else { u with bank1 := b }

/-- The key slots that a package revokes: none in format 1 (R560). -/
def pkgRevokes (h : PkgHdr) : Nat := if h.fmt = 1 then 0 else h.revoke

/-- Steps 1 to 7 of R566 on a header: 0, or the reason of the first failure. -/
def headerCheck (u : Update) (hwRev : Nat) (h : PkgHdr) : Nat :=
  let revokesUp := decide (h.keySlot < 3) && decide (2 ^ h.keySlot ≤ pkgRevokes h)
  if !h.magicOk || h.fmt < 1 || 2 < h.fmt then 1
  else if !h.hdrCrcOk then 2
  else if h.nblk < 1 || 509 < h.nblk || !h.sizeOk then 7
  else if h.family ≠ 1 || h.part ≠ 4820 || hwRev < h.hwMin || h.hwMax < hwRev then 3
  else if 2 < h.keySlot || u.slotDig.getD h.keySlot none ≠ some h.pubDigest || revokesUp then 4
  else if u.revoked.getLsbD h.keySlot then 5
  else if h.svn < u.svnFused then 6
  else 0

/-- What the boot ROM finds in a bank (R571): 0, or the reason of the first failed check. The header of a firmware that was
there before any download is not known, and passes (log entry 17). -/
def Update.bankCheck (u : Update) (hwRev k : Nat) (sigOk : Bool) : Nat :=
  let r := match (u.bank k).pkg with | some h => headerCheck u hwRev h | none => 0
  if r ≠ 0 then r else if sigOk then 0 else 0x0A

/-- The banks that the ROM tries, in order (R571). -/
def Update.candidates (u : Update) : List Nat :=
  let trial := [0, 1].filter fun k => (u.bank k).st = .trial && decide ((u.bank k).tries < 3)
  let good := [0, 1].filter fun k => (u.bank k).st = .good
  let sorted := match good with
    | [a, b] => if (u.bank a).seq < (u.bank b).seq then [b, a] else [a, b]
    | l => l
  trial ++ sorted

/-- A TRIAL bank with three tries has failed (R571). -/
def Update.endTries (u : Update) : Update :=
  [0, 1].foldl (fun u k =>
    let b := u.bank k
    if b.st = .trial && 3 ≤ b.tries then u.setBank k { b with st := .failed, reason := 0x0D } else u) u

/-- Tries the candidates in order: the store afterwards and the bank started (R571). -/
def Update.tryBanks (u : Update) (hwRev : Nat) (sigOk : Nat → Bool) : List Nat → Update × Option Nat
  | [] => (u, none)
  | k :: rest =>
    let b := u.bank k
    let b := if b.st = .trial then { b with tries := b.tries + 1 } else b
    let u := u.setBank k b
    let r := u.bankCheck hwRev k (sigOk k)
    if r = 0 then (u, some k) else (u.setBank k { b with st := .failed, reason := r }).tryBanks hwRev sigOk rest

/-- Blows the fuses that a GOOD running bank asks for: first the SVN thermometer, then the slots (R573). -/
def Update.blow (u : Update) : Update :=
  let b := u.running
  match b.st, b.pkg with
  | .good, some h => { u with svnFused := max u.svnFused h.svn, revoked := u.revoked ||| BitVec.ofNat 3 (pkgRevokes h) }
  | _, _ => u

/-- The Attic's scan at power-up (R548): the last valid commit, its RET records in the home; the engine goes on after it. -/
def Attic.scan (a : Attic) : Attic :=
  match a.header with
  | some (h, _) =>
    if a.bad ∨ h.state ≠ .valid then { a with applied := a.nextSeq, found := none }
    else
      match lastCommitBy (2 ^ 64) none (a.journal.filter fun e => h.appliedSeq ≤ e.aseq), h.last with
      | some (c, n), _ =>
        { a with home := applyWords a.home (a.journal.filter fun e => h.appliedSeq ≤ e.aseq && e.aseq < n)
                 journal := a.journal.filter fun e => e.aseq < n
                 nextSeq := n, applied := n, appliedLast := some c, found := some c }
      | none, last =>
        { a with journal := a.journal.filter fun e => e.aseq < h.appliedSeq
                 nextSeq := h.appliedSeq, applied := h.appliedSeq, found := last }
  | none => { a with applied := a.nextSeq, found := none }

/-- FIRMWARE_START (R571, R602 steps 4 and 5): `sigOk0` and `sigOk1` say whether the signature of each bank holds. The card read
begins with AFE and REFLEX on; without a bank the ROM enters Porch mode. -/
def execFirmwareStart (t : Nat) (sigOk0 sigOk1 : Bool) (s : State) : Host.Outcome State Fault Refusal :=
  s.doesPair fun m =>
    let m := m.start t
    if m.power.boot ≠ .rom then m
    else
      let cands := m.upd.candidates
      let (u, r) := (m.upd.endTries).tryBanks m.savis.hwRev (fun k => if k = 0 then sigOk0 else sigOk1) cands
      match r with
      | none => ({ m with upd := u }).enterPorch false
      | some k =>
        let u := ({ u with runBank := k == 1, fallback := cands.head? != some k }).blow
        let a := m.attic.scan
        { m with
          upd := u, attic := a
          pair := { m.pair with epochAttic := a.found.map Commit.epoch }
          savis := { m.savis with fwVer := u.running.fwVer }
          power := { m.power with boot := .cardRead, handedOver := m.now, on := m.power.on ||| domBit 12 ||| domBit 14 } }

/-- TRIAL_GOOD (R573): 10 s of line time as SHADOW and READY, OWNER or ALONE. -/
def execTrialGood (t : Nat) (s : State) : Host.Outcome State Fault Refusal :=
  s.does fun m =>
    let m := m.start t
    match m.upd.trialFrom with
    | some f =>
      let b := m.upd.running
      if b.st = .trial && decide (f + 10000000000 ≤ m.ltNs) then
        { m with upd := (m.upd.setBank (if m.upd.runBank then 1 else 0) { b with st := .good }).blow }
      else m
    | none => m

/-! ### Scan (R618, R619) -/

/-- SCAN_TEST_ENTRY (R618): the key store, the lane memories, the Pantry and the delay registers are cleared before scan is
enabled. -/
def execScanTestEntry (t : Nat) (s : State) : Host.Outcome State Fault Refusal :=
  s.does fun m =>
    let m := (m.start t).allLane fun l => { l with inst := [], ctxs := [], gates := [], dr := [], ops := [], lsu := Lsu.zero }
    { m with pantry := Pantry.zero, upd := { m.upd with project := none }
             savis := { m.savis with net := {}, anchors := [] }, test := { m.test with scan := true } }

/-- Update-IR of the boundary-scan port (R619). -/
def Mod.updateIr (m : Mod) (i : ScanIr) : Mod := { m with test := { m.test with ir := i } }

/-- BYPASS (R619). -/
def execBypass (t : Nat) (s : State) : Host.Outcome State Fault Refusal :=
  s.does fun m => (m.start t).updateIr .bypass

/-- IDCODE (R619): 0xv482_0C4D with the low bits of the hardware revision. -/
def execIdcode (t : Nat) (s : State) : Host.Outcome State Fault Refusal :=
  s.does fun m =>
    let m := (m.start t).updateIr .idcode
    m.emit (.tdo (BitVec.ofNat 32 (m.savis.hwRev % 16 * 2 ^ 28 + 0x4820C4D)))

/-- SAMPLE_PRELOAD (R619). -/
def execSamplePreload (t : Nat) (s : State) : Host.Outcome State Fault Refusal :=
  s.does fun m => (m.start t).updateIr .sample

/-- EXTEST, CLAMP and HIGHZ at Update-IR (R619): the permit clears, OWN falls, the role is OUT with cause RESET. -/
def Mod.pinsTaken (m : Mod) (i : ScanIr) : Mod := ((m.updateIr i).clearPermit).goOut 0x0E

/-- EXTEST (R619). -/
def execExtest (t : Nat) (s : State) : Host.Outcome State Fault Refusal :=
  s.doesPair fun m => (m.start t).pinsTaken .extest

/-- CLAMP (R619). -/
def execClamp (t : Nat) (s : State) : Host.Outcome State Fault Refusal :=
  s.doesPair fun m => (m.start t).pinsTaken .clamp

/-- HIGHZ (R619). -/
def execHighz (t : Nat) (s : State) : Host.Outcome State Fault Refusal :=
  s.doesPair fun m => (m.start t).pinsTaken .highz

end Sys2Proof.Machine
end

