-- ==== Sys2Proof/Machine/Card.lean ====
section
/-! DEFINITION. The configuration card at work: the read at start-up, appends, compactions, loads and rewrites, the slot lock
(R524, R530-R541, R554, R665). -/
namespace Sys2Proof.Machine

/-! ### The read at start-up (R530, R531, R602 step 5) -/

/-- The result of a card read, with the image that it gives. -/
def cardResult (project : Option Nat) (c : Card) : CardRead × Option Image :=
  if !c.usable then (.unusable, none)
  else
    match cardSuper c with
    | none => (.noSuper, none)
    | some (sb, _) =>
      if sb.layout < 1 ∨ 2 < sb.layout then (.layout, none)
      else
        let b := if sb.base = 1 then c.base1 else c.base0
        match b.crcOk, (cardScan c none).bind CardScan.image with
        | true, some i => if imageCheck project i = 0 then (.ok, some i) else (.image, none)
        | _, _ => (.baseCrc, none)

/-- The trim of this module's serial number for a channel or port; zero where there is none (R530). -/
def ownTrim (serial : Nat) (ts : List Trim) (latency : Bool) (k : Nat) : Int × Int :=
  match ts.find? fun t => t.latency == latency && t.serial == serial && t.index == k with
  | some t => (t.v0, t.v1)
  | none => (0, 0)

/-- The trims of the card take effect (R397, R438). -/
def Mod.takeTrims (m : Mod) (ts : List Trim) : Mod :=
  let m := (List.range 8).foldl (fun m c =>
    let (z, p) := ownTrim m.savis.serial ts false c
    m.setLoop c fun l => { l with zeroTrim := z, spanTrim := p }) m
  (List.range 4).foldl (fun m p =>
    let (a, b) := ownTrim m.savis.serial ts true p
    m.setPortTime p fun x => { x with txTrim := a, rxTrim := b }) m

/-- A configured port is switched on (R593, R602 step 6): which optic its SFP is, the result of its loopback and its latencies
are not in the manual (R437, log entry 8). -/
def Mod.portStarts (m : Mod) (p : Nat) : Mod :=
  if m.portRole p = .unused then m
  else
    let (k, m) := (m.portOn p).open_
    let (tx, m) := m.open_
    let (rx, m) := m.open_
    m.setPortTime p fun x => { x with opticOk := k.testBit 0, loopOk := k.testBit 1, txLat := Int.ofNat tx, rxLat := Int.ofNat rx }

/-- The journal is above 75 % of its region: compaction starts (R536, R538). -/
def Mod.compactIfFull (m : Mod) : Mod :=
  match m.card.card with
  | some c => if 3 * journalSize < 4 * journalBytes c then m.compact .compact m.card.layout none else m
  | none => m

/-- CARD_READ_DONE (R530, R602 steps 5 and 6): the effective image becomes the program, the trims and the reflex table take
effect, configured ports go on. -/
def execCardReadDone (t : Nat) (s : State) : Host.Outcome State Fault Refusal :=
  s.does fun m =>
    let m := m.start t
    if m.power.boot ≠ .cardRead then m
    else
      let m := { m with power := { m.power with boot := .ready } }
      match m.card.card with
      | none => { m with card := { m.card with read := .noCard } }
      | some c =>
        let (r, img) := cardResult m.upd.project c
        let scan := cardScan c none
        let next := match scan with | some x => x.next | none => 0
        let (layout, base, first) := match cardSuper c with
          | some (sb, _) => (if sb.layout ≤ 2 then sb.layout else 0, sb.base == 1, sb.jSeq)
          | none => (0, false, 0)
        let known := r = .ok || r = .image
        let c' := { c with journal := c.journal.filter fun j => decide (first ≤ j.jseq) && decide (j.jseq < next) }
        let m := { m with
          card := { m.card with card := some (if known then c' else c), read := r, layout := layout, base := base
                                writable := r ≠ .unusable, effImage := img, nextSeq := next
                                lastSb := (cardSuper c).map Prod.fst }
          prog := { m.prog with image := img, run := if img.isSome then .starting else .noImage } }
        let m := if known then m.takeTrims (match scan with | some x => x.trims | none => []) else m
        match img with
        | some i =>
          let m := { m with reflex := m.reflex.load i.reflex m.now }
          ((List.range 4).foldl Mod.portStarts m).compactIfFull
        | none => if r = .image then m.stayOut 0x10 else m

/-! ### Appends (R528, R532-R534) -/

/-- The record in writing: the first one, while a change waits for its commit only its CANCEL (R533), and no trim during the
upload of a change (R649). -/
def Mod.writing (m : Mod) : Option Append :=
  let uploads : Bool := match m.savis.upload with | some u => !u.load | none => false
  if m.card.blocked.isSome then m.card.queue.find? fun a => match a.body with | .cancel _ _ => true | _ => false
  else m.card.queue.find? fun a => match a.body with | .trim _ => !uploads | _ => true

/-- The queue without its first entry equal to a record. -/
def dropFirst (a : Append) : List Append → List Append
  | [] => []
  | x :: xs => if x = a then xs else x :: dropFirst a xs

/-- A record stands in the journal, after a SKIP where it would wrap (R528). -/
def Mod.journalPut (m : Mod) (b : JBody) : Mod :=
  match m.card.card with
  | none => m
  | some c =>
    let gen := m.sbGen
    let start := match cardSuper c with | some (sb, _) => sb.jStart | none => 0
    let room := journalSize - (start + journalBytes c) % journalSize
    let n := m.card.nextSeq
    let (js, n) := if room < recSize b then (c.journal ++ [⟨n, gen, room, true, .skip⟩], n + 1) else (c.journal, n)
    { m with card := { m.card with
        card := some { c with journal := js ++ [⟨n, gen, recSize b, true, b⟩] }
        nextSeq := n + 1, appends := inc32 m.card.appends } }

/-- What follows when a record has been read back (R532, R533, R398, R196). -/
def Mod.appended (m : Mod) (a : Append) : Mod :=
  match a.body with
  | .change _ new _ _ =>
    let m := { m with card := { m.card with blocked := some new } }
    let mine : Bool := match m.prog.staged with | some i => i.digest == new | none => false
    if m.prog.chgState = .checking && mine then ({ m with prog := { m.prog with cardStaged := true } }).advanceChange
    else m.cardAppend (.cancel (m.card.nextSeq - 1) m.prog.chgReason) none none
  | .cancel _ _ => { m with card := { m.card with blocked := none } }
  | .trim _ =>
    let m := if a.delayed then { m with test := { m.test with reqDelayed := inc32 m.test.reqDelayed } } else m
    m.finish? a.key (if a.delayed then .delayed else .done) 0 []
  | .skip => m

/-- A trim takes its old values back (R534). -/
def Mod.undoTrim (m : Mod) : Option Trim → Mod
  | some t =>
    if t.latency then m.setPortTime t.index fun x => { x with txTrim := t.v0, rxTrim := t.v1 }
    else m.setLoop t.index fun l => { l with zeroTrim := t.v0, spanTrim := t.v1 }
  | none => m

/-- The third failure of an append, or one while the lock is open (R534, R665). -/
def Mod.appendFails (m : Mod) (a : Append) : Mod :=
  let m := { m with card := { m.card with writable := false, tries := 0, queue := dropFirst a m.card.queue } }
  match a.body with
  | .change _ _ _ _ => m.dropChange .discarded .failedTimeout 0x10
  | .trim _ => (m.undoTrim a.undo).finish? a.key .failedTimeout 0 []
  | _ => m

/-- CARD_APPEND_DONE (R532, R534, R536): the append in writing and its read-back end. Without the controller's domain the write
fails (R595). -/
def execCardAppendDone (t : Nat) (ok : Bool) (s : State) : Host.Outcome State Fault Refusal :=
  s.does fun m =>
    let m := m.start t
    match m.writing with
    | none => m
    | some a =>
      if ok && m.card.usable && m.powered 13 then
        let m := { m with card := { m.card with queue := dropFirst a m.card.queue, tries := 0 } }
        ((m.journalPut a.body).appended a).compactIfFull
      else if m.card.tries < 2 && m.card.locked then
        { m with card := { m.card with tries := m.card.tries + 1, retries := inc32 m.card.retries } }
      else m.appendFails a

/-! ### Compaction, loads and rewrites (R190, R537-R541) -/

/-- A MAPPED load in every lane (R190, R550): instance data by the mapping of R197, the task clocks kept. -/
def Mod.mappedLoad (m : Mod) (img : Image) : Mod :=
  match m.prog.image, m.leader with
  | some old, some x =>
    match remap old img (m.lane x).inst with
    | .ok r =>
      let runs := tabMap (fun _ (q : ClsRun) => { ClsRun.zero with clk := q.clk }) m.sched.runs
      let m := { (m.begin_ img r.inst runs) with prog := m.prog.begin_ img 2 2 0 false }
      m.atticRefill (retained img r.inst)
    | .error _ => m.coldRestart img 2 3
  | _, _ => m.coldRestart img 2 3

/-- A whole-image load replaces the program at the flip (R190, R539); a join in progress ends (R515). A module that was OUT in
CONFIG_CONFLICT compares anew (R485). -/
def Mod.loadNow (m : Mod) (img : Image) (key : Option (Nat × Nat)) : Mod :=
  let mapped := m.prog.loadMapped
  let m := if m.hall.join ≠ .none then m.endJoin 6 true else m
  let m := if mapped then m.mappedLoad img else m.coldRestart img 2 3
  let m := { m with prog := { m.prog with load := none, loadMapped := false, restartKey := none, chgState := .applied
                                          partnerStale := m.pair.role = Role.owner && m.pair.partner = some Role.shadow }
                    attic := { m.attic with loadKey := key } }
  let m := if m.attic.fault then m.loadEnds else m
  if m.pair.role = .out && m.pair.outCause = 0x0C then
    let m := { m with pair := { m.pair with outCause := 0 } }
    if m.hall.link = .up then m.enterHello else m
  else m

/-- A rewrite that was pending starts when the slot and the controller are free (R540). -/
def Mod.pendingRewrite (m : Mod) : Mod := if m.card.rewriteDue && m.card.comp.isNone then m.rewriteCard else m

/-- The flip of a base (R537): the new superblock is in force. -/
def Mod.flip (m : Mod) (c : Card) (x : Comp) : Mod :=
  let c := cardFlip (if m.card.unread then { c with journal := [] } else c) x m.savis.serial
  let base := match cardSuper c with | some (sb, _) => sb.base == 1 | none => false
  let next := if m.card.layout = 0 || m.card.unread then x.cutSeq else m.card.nextSeq
  let m := { m with card := { m.card with
    card := some c, comp := none, retryAt := none, base := base, layout := x.layout, nextSeq := next
    lastSb := (cardSuper c).map Prod.fst, compactions := inc32 m.card.compactions } }
  let gen := leBytes m.sbGen 8
  match x.kind with
  | .compact => m.pendingRewrite
  | .command => (m.finish? x.key .done 0 gen).pendingRewrite
  | .load => ({ m with card := { m.card with effImage := some x.image } }).loadNow x.image x.key
  | .rewrite =>
    let m := { m with card := { m.card with effImage := some x.image, rewriteDue := false, unread := false, writable := true } }
    m.finish? x.key .done 0 gen

/-- COMPACTION_STEP_DONE (R537): a step was written and read back; a failed one is abandoned, and tried again 10 s later. -/
def execCompactionStepDone (t : Nat) (ok : Bool) (s : State) : Host.Outcome State Fault Refusal :=
  s.doesPair fun m =>
    let m := m.start t
    match m.card.comp, m.card.card with
    | some x, some c =>
      if x.step = 0 then m
      else if !ok || !m.card.usable || !m.powered 13 then
        { m with card := { m.card with comp := some { x with step := 0 }, retryAt := some (m.now + 10000000000) } }
      else if x.step = 1 then { m with card := { m.card with comp := some { x with step := 2 } } }
      else m.flip c x
    | _, _ => m

/-- COMPACTION_RETRY (R537): the base as of the new cut. -/
def execCompactionRetry (t : Nat) (s : State) : Host.Outcome State Fault Refusal :=
  s.does fun m =>
    let m := m.start t
    match m.card.comp, m.card.retryAt with
    | some x, some u =>
      if x.step ≠ 0 || decide (m.now < u) || !m.card.usable then m
      else
        let z := { m with card := { m.card with comp := none, retryAt := none } }
        match x.kind with
        | .compact | .command => z.compact x.kind x.layout x.key
        | .load | .rewrite => z.writeBase x.kind x.image x.key
    | _, _ => m

/-! ### The slot (R541, R555, R665) -/

/-- CARD_LOCK_OPEN (R665): no new write starts. -/
def execCardLockOpen (t : Nat) (s : State) : Host.Outcome State Fault Refusal :=
  s.does fun m =>
    let m := m.start t
    { m with card := { m.card with locked := false } }

/-- CARD_LOCK_CLOSE (R555, R665). -/
def execCardLockClose (t : Nat) (s : State) : Host.Outcome State Fault Refusal :=
  s.does fun m =>
    let m := m.start t
    ({ m with card := { m.card with locked := true } }).pendingRewrite

/-- CARD_REMOVED (R555): with the card go its lock and what was being written. -/
def execCardRemoved (t : Nat) (s : State) : Host.Outcome State Fault Refusal :=
  s.does fun m =>
    let m := m.start t
    { m with card := { m.card with card := none, locked := false, unread := false, layout := 0, base := false } }

/-- CARD_INSERT (R541): its lock is still open. A card inserted while the module runs is not read; one whose superblock is not the one written last is not
writable until a REWRITE. Before the card read of a start it is simply the card. -/
def execCardInsert (t : Nat) (card : Card) (s : State) : Host.Outcome State Fault Refusal :=
  s.does fun m =>
    let m := m.start t
    let runs : Bool := match m.power.boot with | .ready | .started => true | _ => false
    let other := (cardSuper card).map Prod.fst ≠ m.card.lastSb || m.card.lastSb.isNone
    let (layout, base) := match cardSuper card with
      | some (sb, _) => if runs && !other then (sb.layout, sb.base == 1) else (m.card.layout, m.card.base)
      | none => (m.card.layout, m.card.base)
    { m with card := { m.card with card := some card, locked := false, unread := runs && other, layout := layout, base := base } }

end Sys2Proof.Machine
end

