-- ==== Sys2Proof/Machine/Compare.lean ====
section
/-! DEFINITION. CMP/SEL (R152). -/
namespace Sys2Proof.Machine

/-- The signed minimum. -/
def sMin (x y : W64) : W64 := if y.slt x then y else x

/-- The signed maximum. -/
def sMax (x y : W64) : W64 := if x.slt y then y else x

/-- CEQ (R152). -/
def execCeq (e : EngRef) (d s1 : Reg) (s : State) : Host.Outcome State Fault Refusal :=
  s.opReg e (opWord 0x40 d s1 0) 1 d fun v => boolWord (v.r d == v.r s1)

/-- CNE (R152). -/
def execCne (e : EngRef) (d s1 : Reg) (s : State) : Host.Outcome State Fault Refusal :=
  s.opReg e (opWord 0x41 d s1 0) 1 d fun v => boolWord (v.r d != v.r s1)

/-- CLT (R152). -/
def execClt (e : EngRef) (d s1 : Reg) (s : State) : Host.Outcome State Fault Refusal :=
  s.opReg e (opWord 0x42 d s1 0) 1 d fun v => boolWord ((v.r d).slt (v.r s1))

/-- CLE (R152). -/
def execCle (e : EngRef) (d s1 : Reg) (s : State) : Host.Outcome State Fault Refusal :=
  s.opReg e (opWord 0x43 d s1 0) 1 d fun v => boolWord ((v.r d).sle (v.r s1))

/-- CLTU (R152). -/
def execCltu (e : EngRef) (d s1 : Reg) (s : State) : Host.Outcome State Fault Refusal :=
  s.opReg e (opWord 0x44 d s1 0) 1 d fun v => boolWord ((v.r d).ult (v.r s1))

/-- CLEU (R152). -/
def execCleu (e : EngRef) (d s1 : Reg) (s : State) : Host.Outcome State Fault Refusal :=
  s.opReg e (opWord 0x45 d s1 0) 1 d fun v => boolWord ((v.r d).ule (v.r s1))

/-- CEQI (R152): Wd := 1 if Ws = si. -/
def execCeqi (e : EngRef) (d s1 : Reg) (i : Imm) (s : State) : Host.Outcome State Fault Refusal :=
  s.opReg e (opWord 0x46 d s1 i) 1 d fun v => boolWord (v.r s1 == signImm i)

/-- CLTI (R152): Wd := 1 if signed Ws < si. -/
def execClti (e : EngRef) (d s1 : Reg) (i : Imm) (s : State) : Host.Outcome State Fault Refusal :=
  s.opReg e (opWord 0x47 d s1 i) 1 d fun v => boolWord ((v.r s1).slt (signImm i))

/-- SEL (R152): Wd := Ws if W[i[4:0]] ≠ 0, else Wd unchanged. -/
def execSel (e : EngRef) (d s1 : Reg) (i : Imm) (s : State) : Host.Outcome State Fault Refusal :=
  s.opReg e (opWord 0x48 d s1 i) 1 d fun v => if v.eng.reg (i.toNat % 32) = 0 then v.r d else v.r s1

/-- MIN (R152): signed minimum. -/
def execMin (e : EngRef) (d s1 : Reg) (s : State) : Host.Outcome State Fault Refusal :=
  s.opReg e (opWord 0x49 d s1 0) 1 d fun v => sMin (v.r d) (v.r s1)

/-- MAX (R152): signed maximum. -/
def execMax (e : EngRef) (d s1 : Reg) (s : State) : Host.Outcome State Fault Refusal :=
  s.opReg e (opWord 0x4A d s1 0) 1 d fun v => sMax (v.r d) (v.r s1)

/-- LIM (R152): Wd := min(max(Wd, Ws), W[i[4:0]]). -/
def execLim (e : EngRef) (d s1 : Reg) (i : Imm) (s : State) : Host.Outcome State Fault Refusal :=
  s.opReg e (opWord 0x4B d s1 i) 2 d fun v => sMin (sMax (v.r d) (v.r s1)) (v.eng.reg (i.toNat % 32))

end Sys2Proof.Machine
end

