-- ==== Sys2Proof/Machine/Control.lean ====
section
/-! DEFINITION. CALL/RET, BRANCH and loops (R143, R152, R162, R163). -/
namespace Sys2Proof.Machine

/-- Enters a routine on an instance (R143): the call stack holds 16 entries (R133). -/
def View.enter (v : View) (addr h : Nat) : Res :=
  if 16 ≤ v.eng.calls.length then .error (exc xStackOver)
  else .ok { v with
    eng := { v.eng with pc := addr, ib := h, calls := (v.eng.pc, v.eng.ib) :: v.eng.calls }
    ctx := { v.ctx with called := if v.ctx.called.contains h then v.ctx.called else h :: v.ctx.called } }

/-- Ends the share of the engine (R132, R143). -/
def View.finish (v : View) : View := { v with eng := { v.eng with st := .ended } }

/-- A taken branch: i counts from the address of the branch word (R152). -/
def View.jump (v : View) (i : Imm) : View :=
  { v with eng := { v.eng with pc := (v.eng.pc + (2 ^ 24 - 1) + i.toNat) % 2 ^ 24 } }

/-- Cycles beyond those of the row. -/
def View.cycle (v : View) (n : Nat) : View := { v with eng := { v.eng with cyc := v.eng.cyc + n } }

/-- LOOP (R163): PC stands at the second code word. -/
def View.loopStart (v : View) (d : Reg) (count bound len : Nat) : Res :=
  let body := (v.eng.pc + 1) % 2 ^ 24
  let lend := (v.eng.pc + (2 ^ 24 - 1) + len) % 2 ^ 24
  if bound < count then .error (exc xLoopBound)
  else if count = 0 then .ok { v with eng := { v.eng with pc := (lend + 1) % 2 ^ 24 } }
  else if 8 ≤ v.eng.loops.length then .error (exc xStackOver)
  else
    let v := v.w d 0
    .ok { v with eng := { v.eng with pc := body, loops := ⟨body, lend, bound, count, d, 0⟩ :: v.eng.loops } }

/-- LEND (R163). -/
def View.loopEnd (v : View) : View :=
  match v.eng.loops with
  | [] => v
  | l :: rest =>
    if l.idx + 1 < l.count then
      let v := v.w l.reg (BitVec.ofNat 64 (l.idx + 1))
      { v with eng := { v.eng with pc := l.start, loops := { l with idx := l.idx + 1 } :: rest } }
    else { v with eng := { v.eng with loops := rest } }

/-- CALL (R143): routine i on the instance whose handle is in Ws. -/
def execCall (e : EngRef) (s1 : Reg) (i : Imm) (s : State) : Host.Outcome State Fault Refusal :=
  s.op e (opWord 0x90 0 s1 i) 4 fun v =>
    let h := (v.r s1).toNat
    match v.img.routines[i.toNat]? with
    | some r =>
      if v.instOk h && instType v.inst h == r.typeId then v.enter r.addr h
      else .error ⟨xBadInstance, false, some (instAddr h 0)⟩
    | none => .error ⟨xBadInstance, false, some (instAddr h 0)⟩

/-- RET (R143): returns, or ends the share of an entry routine. -/
def execRet (e : EngRef) (s : State) : Host.Outcome State Fault Refusal :=
  s.op e (opWord 0x91 0 0 0) 3 fun v =>
    match v.eng.calls with
    | [] => .ok v.finish
    | (pc, ib) :: rest => .ok { v with eng := { v.eng with pc := pc, ib := ib, calls := rest } }

/-- CALLS (R143): routine i on the current instance. -/
def execCalls (e : EngRef) (i : Imm) (s : State) : Host.Outcome State Fault Refusal :=
  s.op e (opWord 0x92 0 0 i) 3 fun v =>
    match v.img.routines[i.toNat]? with
    | some r =>
      if r.typeId = 0 || r.typeId = instType v.inst v.eng.ib then v.enter r.addr v.eng.ib
      else .error ⟨xBadInstance, false, some (instAddr v.eng.ib 0)⟩
    | none => .error ⟨xBadInstance, false, some (instAddr v.eng.ib 0)⟩

/-- END (R132): ends the share of this engine. -/
def execEndShare (e : EngRef) (s : State) : Host.Outcome State Fault Refusal :=
  s.op e (opWord 0x93 0 0 0) 2 fun v => .ok v.finish

/-- BR (R152): PC := PC + i. -/
def execBr (e : EngRef) (i : Imm) (s : State) : Host.Outcome State Fault Refusal :=
  s.op e (opWord 0xA0 0 0 i) 2 fun v => .ok (v.jump i)

/-- BZ (R152): branch by i when Ws = 0; one more cycle when taken. -/
def execBz (e : EngRef) (s1 : Reg) (i : Imm) (s : State) : Host.Outcome State Fault Refusal :=
  s.op e (opWord 0xA1 0 s1 i) 1 fun v => .ok (if v.r s1 = 0 then (v.jump i).cycle 1 else v)

/-- BNZ (R152): branch by i when Ws ≠ 0; one more cycle when taken. -/
def execBnz (e : EngRef) (s1 : Reg) (i : Imm) (s : State) : Host.Outcome State Fault Refusal :=
  s.op e (opWord 0xA2 0 s1 i) 1 fun v => .ok (if v.r s1 = 0 then v else (v.jump i).cycle 1)

/-- LOOP (R163): the second code word gives the distance to LEND. -/
def execLoop (e : EngRef) (d s1 : Reg) (i : Imm) (len : BitVec 16) (s : State) : Host.Outcome State Fault Refusal :=
  s.does fun m =>
    match m.fetch e (opWord 0xA3 d s1 i) with
    | some v =>
      if v.img.code[v.eng.pc + 1]? = some (len.zeroExtend 32) then
        m.quiet.engOp e (opWord 0xA3 d s1 i) 3 fun v => v.loopStart d (v.r s1).toNat i.toNat len.toNat
      else m.quiet
    | none => m.quiet

/-- LEND (R163): the next pass, or the end of the loop. -/
def execLend (e : EngRef) (s : State) : Host.Outcome State Fault Refusal :=
  s.op e (opWord 0xA4 0 0 0) 1 fun v => .ok v.loopEnd

/-- LBRK (R163): leaves the innermost loop. -/
def execLbrk (e : EngRef) (s : State) : Host.Outcome State Fault Refusal :=
  s.op e (opWord 0xA5 0 0 0) 2 fun v =>
    match v.eng.loops with
    | [] => .ok v
    | l :: rest => .ok { v with eng := { v.eng with pc := (l.stop + 1) % 2 ^ 24, loops := rest } }

end Sys2Proof.Machine
end

