-- ==== Sys2Proof/Machine/Savis.lean ====
section
/-! DEFINITION. Sessions of the Savis link and the checks that every request passes (R184, R585, R633-R643, R647). -/
namespace Sys2Proof

/-- The code of a Savis role, which is also its rank (R634, R636). -/
def Machine.SRole.code : Machine.SRole → Nat
  | .viewer => 0 | .operator => 1 | .engineer => 2

end Sys2Proof

namespace Sys2Proof.Machine

/-- REASON codes of R643. -/
def rsRole : Nat := 1
def rsMode : Nat := 2
def rsNotOwner : Nat := 3
def rsModuleRole : Nat := 4
def rsRange : Nat := 5
def rsReadOnly : Nat := 6
def rsVersion : Nat := 7
def rsUnknown : Nat := 8
def rsFull : Nat := 9

/-- A request that runs: its key and session, the role of its session, and whether its body has the form of its method. -/
structure Ask where
  client : Nat
  id : Nat
  session : Nat
  role : SRole
  bodyOk : Bool
  deriving DecidableEq, Repr

/-- The key of a request (R641). -/
def Ask.key (a : Ask) : Nat × Nat := (a.client, a.id)

/-- Refuses a running request with a reason (R643). -/
def Mod.reject (m : Mod) (a : Ask) (reason : Nat) : Mod := m.finish a.key .rejectedAccess reason []

/-- A single-use resource is taken (R643). -/
def Mod.rejectFull (m : Mod) (a : Ask) : Mod := m.finish a.key .refusedFull rsFull []

/-- A running request is DONE. -/
def Mod.doneReq (m : Mod) (a : Ask) (data : List Byte) : Mod := m.finish a.key .done 0 data

/-- A running request is one for a block under test, or for a second service action (R611, R617, R620). -/
def Mod.busyReq (m : Mod) (a : Ask) : Mod :=
  ({ m with test := { m.test with reqBusy := inc32 m.test.reqBusy } }).finish a.key .busyTest 0 []

/-- Which requests a module without trust anchors serves, and one in Porch mode (R585, R633). -/
structure Serves where
  noAnchor : Bool := false
  porch : Bool := false
  deriving DecidableEq, Repr

/-- The checks that do not depend on the method's own conditions (R585, R633, R635, R647): none when they hold, else the
reason. -/
def Mod.gateReq (m : Mod) (a : Ask) (need : SRole) (domain : Bool) (v : Serves) : Option Nat :=
  if a.role.code < need.code then some rsRole
  else if m.savis.anchors.isEmpty && !v.noAnchor then some rsRole
  else if m.upd.porch && (!v.porch || a.role ≠ .engineer) then some (if a.role = .engineer then rsModuleRole else rsRole)
  else if domain && !m.controls then some rsNotOwner
  else if !a.bodyOk then some rsRange
  else none

/-- Runs a request whose general checks hold. -/
def Mod.allow (m : Mod) (a : Ask) (need : SRole) (domain : Bool) (v : Serves) (f : Mod → Mod) : Mod :=
  match m.gateReq a need domain v with
  | some r => m.reject a r
  | none => f m

/-- The pair mode is one of a list (R184). -/
def Mod.modeIn (m : Mod) (l : List KeyPos) : Bool := l.contains m.prog.pairKey

/-- Changes a session. -/
def Mod.setSess (m : Mod) (k : Nat) (f : Sess → Sess) : Mod :=
  match tabFind m.savis.sess k with
  | some x => { m with savis := { m.savis with sess := tabSet m.savis.sess k (f x) } }
  | none => m

/-- What the state of a request looks like to its client (R641, R642): PENDING with its position, or its outcome. -/
def Mod.tellState (m : Mod) (session : Nat) (r : SReq) : Mod :=
  match r.outcome with
  | some o => m.reply session r.id o.code r.reason 0 true r.data
  | none => m.reply session r.id 1 0 (m.queuePos r) false []

/-- A request has started and neither ended nor come from the owner (R640). -/
def SReq.runs (r : SReq) : Bool := r.outcome.isNone && r.cmd.isNone && !r.foreign

/-- A request that has not ended, or whose outcome is retained: for 60 s (R641, R642). -/
def SReq.held (now : Nat) (r : SReq) : Bool := r.outcome.isNone || decide (now < r.ended + 60000000000)

/-- The requests but those of a key. -/
def Mod.otherReqs (m : Mod) (client id : Nat) : List SReq := m.savis.reqs.filter fun r => !(r.client = client && r.id = id)

/-- The requests of this module that have not ended. -/
def Mod.ownReqs (m : Mod) : List SReq := m.savis.reqs.filter fun r => r.outcome.isNone && !r.foreign

/-- The engineering queue, and the mirror while the pair is redundant, has no room for a request of a session (R70). -/
def Mod.queueFull (m : Mod) (session client : Nat) : Bool :=
  let own := m.ownReqs
  decide (32 ≤ (own.filter fun r => r.session = session && r.client = client).length) || decide (256 ≤ own.length)
    || (m.redundant && decide (1024 ≤ m.itemCount + m.openReqs))

/-- A request that is refused before the queue takes it (R637, R69): it leaves no trace but the count. -/
def Mod.turnAway (m : Mod) (session id : Nat) (o : Outc) (reason : Nat) : Mod :=
  let sv := m.savis
  let m := { m with savis :=
    { sv with refused := if o = Outc.refusedFull then inc32 sv.refused else sv.refused
              rejected := if o = Outc.rejectedAccess then inc32 sv.rejected else sv.rejected } }
  m.reply session id o.code reason 0 true []

/-- What the queue needs to know of a request: its method code, or its TYPE for a message that is no INVOKE; the lowest
version that has it (R637); whether it is a station item, whose own path mirrors it; whether its station's queue is full. -/
structure Entry where
  method : Nat
  ver : Nat := 1
  item : Bool := false
  full : Bool := false
  deriving DecidableEq, Repr

/-- A request at the module (R637-R642, R70, R71): a known one is answered with its state; else the queue takes it or it is
refused at once. -/
def Mod.admitReq (m : Mod) (r : Req) (e : Entry) (c : Call) : Mod :=
  match tabFind m.savis.sess r.session with
  | none => m
  | some x =>
    let m := m.setSess r.session fun y => { y with last := m.now }
    if r.id = 0 then m.closeSession r.session
    else
      match m.savis.reqs.find? fun q => q.client = x.client && q.id = r.id && q.held m.now with
      | some q => m.tellState r.session q
      | none =>
        if x.ver < e.ver then m.turnAway r.session r.id .rejectedAccess rsVersion
        else if e.full || m.queueFull r.session x.client then m.turnAway r.session r.id .refusedFull rsFull
        else
          let mirrored := m.redundant && m.controls && decide (3 ≤ m.pair.pfl) && !e.item && e.method ≠ 0x14
            && !(decide (0x0601 ≤ e.method) && decide (e.method ≤ 0x0604))
          let q : SReq := { client := x.client, id := r.id, session := r.session, role := x.role, method := e.method
                            bodyOk := r.bodyOk, cmd := some c, mirrored := mirrored }
          let m := { m with savis := { m.savis with reqs := m.otherReqs x.client r.id ++ [q], requests := inc32 m.savis.requests } }
          if mirrored then m.hallSend 2 fun h => .mMirror h 1 false true 0 r.id x.client .issued 0 (leBytes e.method 2) else m

end Sys2Proof.Machine
end

