-- ==== Sys2Proof/Machine/SelfTest.lean ====
section
/-! DEFINITION. Trims by the buttons as commands, the lane rotation test, the port loopback tests (R399, R400, R438,
R611-R617). -/
namespace Sys2Proof.Machine

/-! ### Buttons (R399, R400, R484) -/

/-- ZERO (R399). -/
def execZero (t : Nat) (s : State) : Host.Outcome State Fault Refusal :=
  s.doesPair fun m => (m.start t).buttonTrim false

/-- SPAN (R399). -/
def execSpan (t : Nat) (s : State) : Host.Outcome State Fault Refusal :=
  s.doesPair fun m => (m.start t).buttonTrim true

/-- SELECT (R399, R400): a short press steps the display through L0 to L7 and blank, and ends a trim. -/
def execSelect (t : Nat) (s : State) : Host.Outcome State Fault Refusal :=
  s.doesPair fun m =>
    let m := m.start t
    if m.upd.porch then m
    else { m with conv := { m.conv with display := (m.conv.display + 1) % 9, trim := none } }

/-- BUTTON_TRIM_DONE (R399): taken and journaled, or refused out of range. -/
def execButtonTrimDone (t : Nat) (meanNa : Int) (s : State) : Host.Outcome State Fault Refusal :=
  s.doesPair fun m =>
    let m := m.start t
    match m.conv.trim with
    | none => m
    | some r =>
      let l := m.loop r.ch
      let (z, p) := trimResult (m.chan r.ch).mode r.span l.zeroTrim l.spanTrim meanNa
        (if r.span then 20000000 else 4000000)
      let m := { m with conv := { m.conv with trim := none } }
      if trimInRange z p then (m.takeTrim r.ch z p none false).panel 1 else m.panel 2

/-! ### The lane rotation test (R611-R614) -/

/-- READY as it counts for a request for a service action (R484, R611). -/
def Mod.judgedReady (m : Mod) : Bool := if m.serviceBusy then m.pair.readyBefore else m.pair.ready

/-- All three lanes are SERVING, as they stood before a service action that halts or tests them (R611, R617). -/
def Mod.judgedLanes (m : Mod) : Bool :=
  allLanes.all fun x =>
    (m.lane x).mode = .serving || (m.lane x).mode = .halted || (m.rotating && m.test.rotLane = x)

/-- ROT_TEST (R611): accepted with PENDING; the first lane leaves the vote at the next tick edge. -/
def Mod.runRotTest (m : Mod) (a : Ask) (lane : Option LaneId) : Mod :=
  m.allow a .engineer false {} fun m =>
    if !m.modeIn [.service] then m.reject a rsMode
    else if m.pair.role ≠ .shadow || !m.judgedReady || !m.redundant || !m.judgedLanes then m.reject a rsModuleRole
    else if m.serviceBusy then m.busyReq a
    else
      { m with test := { m.test with
          rot := .waitEdge, rotLane := lane.getD .A, rotAll := lane.isNone
          rotLeft := if lane.isNone then [.B, .C] else [], rotKey := some a.key, rotMsOf := [0, 0, 0] } }

/-- ROT_POWER_ON (R612): 1 ms after the take-out the lane's domain goes on again and its BIST begins. -/
def execRotPowerOn (t : Nat) (s : State) : Host.Outcome State Fault Refusal :=
  s.doesPair fun m =>
    let m := m.start t
    if m.test.rot = .power && decide (m.test.rotAt + 1000000 ≤ m.now) then
      let x := m.test.rotLane
      let m := (m.setPower (laneDomain x) true).setLane x fun l => { l with power := true }
      { m with test := { m.test with rot := .bist, rotRuns := inc32 m.test.rotRuns } }
    else m

/-- A lane that failed its rotation BIST is retired and ends the test (R613). -/
def Mod.rotFailed (m : Mod) (x : LaneId) : Mod :=
  let m := m.setLane x fun l => { l with bistOk := false }
  let m := (m.retire x .rotation).raiseLane x 2 .rotation 0 7 m.sched.tick 0xFFFFFFFF true
  let key := m.test.rotKey
  ({ m with test := { m.test with rot := .failed, rotLeft := [], rotKey := none
                                  rotFails := inc32 m.test.rotFails } }).finish? key .failedStation 0 []

/-- A lane that passed its rotation BIST is resynchronised (R612). -/
def Mod.rotPassed (m : Mod) (x : LaneId) : Mod :=
  let m := m.setLane x fun l =>
    { l with mode := .resync, phase := .reset, donor := m.donorFor x, bistOk := true, marked := 0, copiedKib := 0 }
  { m with test := { m.test with rot := .resync } }

/-- ROT_BIST_DONE (R612, R613): the LBIST and MBIST of the lane end. -/
def execRotBistDone (t : Nat) (pass : Bool) (ms : Nat) (s : State) : Host.Outcome State Fault Refusal :=
  s.doesPair fun m =>
    let m := m.start t
    if m.test.rot = .bist then
      let x := m.test.rotLane
      let m := { m with test := { m.test with rotMs := ms, rotMsOf := m.test.rotMsOf.set x.num ms } }
      if pass then m.rotPassed x else m.rotFailed x
    else m

/-! ### Port loopback tests and latency trims (R437, R438, R616, R617) -/

/-- A test of the port runs. -/
def Mod.portTested (m : Mod) (p : Nat) : Bool := m.test.portJobs.any fun j => j.port = p

/-- Queues a request of a port. -/
def Mod.addJob (m : Mod) (j : PortJob) : Mod := { m with test := { m.test with portJobs := m.test.portJobs ++ [j] } }

/-- PORT_TEST (R616, R617): in every pair mode, on a port that is on and whose link is down. -/
def Mod.runPortTest (m : Mod) (a : Ask) (port : Nat) (pcs : Bool) : Mod :=
  m.allow a .engineer false {} fun m =>
    if 4 ≤ port then m.reject a rsRange
    else if !m.powered (7 + port) || (m.port port).link then m.reject a 0
    else m.addJob ⟨port, pcs, none, a.key, m.portTested port⟩

/-- Takes a latency trim: it takes effect at the next stamp and is journaled under the module's serial number (R438). -/
def Mod.takeLatTrim (m : Mod) (port : Nat) (tx rx : Int) (key : Option (Nat × Nat)) (delayed : Bool) : Mod :=
  let old := tabGet m.time.ports PortTime.zero port
  (m.setPortTime port fun x => { x with txTrim := tx, rxTrim := rx }).cardQueue
    ⟨.trim ⟨true, m.savis.serial, port, tx, rx⟩, key, some ⟨true, m.savis.serial, port, old.txTrim, old.rxTrim⟩, delayed⟩

/-- The jobs of a port that follow the end of a test: the latency trims that stand before the next test. -/
def jobsAfter (p : Nat) : List PortJob → List PortJob × List PortJob
  | [] => ([], [])
  | j :: js =>
    if j.port ≠ p then
      let (now, later) := jobsAfter p js
      (now, j :: later)
    else if j.trim.isSome then
      let (now, later) := jobsAfter p js
      (j :: now, later)
    else ([], j :: js)

/-- The first job of a port, and the others. -/
def firstJob (p : Nat) : List PortJob → Option (PortJob × List PortJob)
  | [] => none
  | j :: js => if j.port = p then some (j, js) else (firstJob p js).map fun x => (x.1, j :: x.2)

/-- The end of the first test of a port (R437, R616): the round trip against the factory value, both in ps. -/
def Mod.portTestEnds (m : Mod) (j : PortJob) (roundTrip factory : Nat) : Mod :=
  let ok := decide (((roundTrip : Int) - (factory : Int)).natAbs ≤ 2000)
  let m := m.setPortTime j.port fun x => { x with loopOk := ok }
  let m := { m with test := { m.test with portTests := inc32 m.test.portTests
                                          reqDelayed := if j.delayed then inc32 m.test.reqDelayed else m.test.reqDelayed } }
  m.finish j.key (if j.delayed then .delayed else .done) 0
    ([if ok then 0 else 1, 0, 0, 0] ++ leBytes roundTrip 4 ++ leBytes factory 4)

/-- PORT_TEST_DONE (R616, R617): requests that waited for the test are carried out. -/
def execPortTestDone (t : Nat) (port : Nat) (roundTrip factory : Nat) (s : State) : Host.Outcome State Fault Refusal :=
  s.does fun m =>
    let m := m.start t
    match firstJob port m.test.portJobs with
    | some (j, rest) =>
      let (trims, later) := jobsAfter port rest
      let m := ({ m with test := { m.test with portJobs := later } }).portTestEnds j roundTrip factory
      trims.foldl (fun m x =>
        match x.trim with
        | some (tx, rx) => m.takeLatTrim port tx rx (some x.key) true
        | none => m) m
    | none => m

end Sys2Proof.Machine
end

