-- ==== Sys2Proof/Machine/Debug.lean ====
section
/-! DEFINITION. The debug session: halts, steps, breakpoints, memory (R119-R125, R225, R229, R620-R622). -/
namespace Sys2Proof.Machine

/-! ### The session (R620, R621) -/

/-- DBG_OPEN (R620): CLOCK_REAL counts on an ALONE module only (R622). -/
def Mod.runDbgOpen (m : Mod) (a : Ask) (clockReal : Bool) : Mod :=
  m.allow a .engineer false {} fun m =>
    if !m.modeIn [.service] then m.reject a rsMode
    else if m.pair.role ≠ .shadow && m.pair.role ≠ .alone then m.reject a rsModuleRole
    else if m.serviceBusy then m.busyReq a
    else
      let m := { m with test := { m.test with dbgOpen := some a.session, breaks := []
                                              clockReal := clockReal && decide (m.pair.role = Role.alone) } }
      m.doneReq a []

/-- Runs a request that needs the debug session of its own Savis session (R647). -/
def Mod.inDebug (m : Mod) (a : Ask) (f : Mod → Mod) : Mod :=
  m.allow a .engineer false {} fun m => if m.test.dbgOpen = some a.session then f m else m.reject a 0

/-- DBG_CLOSE (R621). -/
def Mod.runDbgClose (m : Mod) (a : Ask) : Mod := m.inDebug a fun m => (m.doneReq a []).quitDebug

/-! ### Halts (R119-R124) -/

/-- An engine of a lane has work in the execution that the lane runs. -/
def Lane.engWorks (l : Lane) (e : Nat) : Bool := l.ctxs.any fun p => (tabGet p.2.engs Eng.idle e).st.live

/-- The operation counts at which the engines of the leading lane halt (R120). -/
def Mod.haltTargets (m : Mod) (n : Nat) : Tab Nat :=
  match m.leader with
  | some x =>
    let l := m.lane x
    (List.range 16).map fun e => (e, l.retired e + (if l.engWorks e then n else 0))
  | none => []

/-- A halt is requested, or a step while halted (R120). A shadow compares no digests from now on (R124). -/
def Mod.startHalt (m : Mod) (n : Nat) (key : Option (Nat × Nat)) : Mod :=
  let m := m.allLane fun l => { l with mode := if l.mode = LaneMode.halted then LaneMode.serving else l.mode }
  { m with test := { m.test with halted := false, halting := true, targets := m.haltTargets n, haltKey := key } }

/-- A HALT or STEP request (R119, R120): one at a time. -/
def Mod.askHalt (m : Mod) (a : Ask) (n : Nat) : Mod :=
  if n = 0 ∨ 2 ^ 32 ≤ n then m.reject a rsRange
  else if !m.serviceOk then m.reject a rsMode
  else if m.test.halting then m.rejectFull a
  else m.startHalt n (some a.key)

/-- DBG_HALT (R120). -/
def Mod.runDbgHalt (m : Mod) (a : Ask) (n : Nat) : Mod := m.inDebug a fun m => m.askHalt a n

/-- DBG_STEP (R120): a halt request given while the module is halted. -/
def Mod.runDbgStep (m : Mod) (a : Ask) (n : Nat) : Mod :=
  m.inDebug a fun m => if m.test.halted || m.test.halting then m.askHalt a n else m.reject a 0

/-- A resume (R123); a shadow joins again (R124). -/
def Mod.resumeNow (m : Mod) : Mod :=
  let was := m.test.halted || m.test.halting
  let m := m.resumeHalt
  if was && m.pair.role = .shadow then m.rejoin else m

/-- DBG_RESUME (R123). -/
def Mod.runDbgResume (m : Mod) (a : Ask) : Mod := m.inDebug a fun m => (m.doneReq a []).resumeNow

/-- Every engine of every lane in service has halted (R120): the leading lane's at its target or without work, the others'
at its counts. -/
def Mod.haltReached (m : Mod) : Bool :=
  match m.leader with
  | some x =>
    let l := m.lane x
    ((List.range 16).all fun e => !l.engWorks e || decide (tabGet m.test.targets 0 e ≤ l.retired e)) &&
      (m.working.all fun y => (List.range 16).all fun e => (m.lane y).retired e = l.retired e)
  | none => true

/-- HALT_COMPLETE (R120, R626): the request ends with the counts of the leading lane (R648). -/
def execHaltComplete (t : Nat) (s : State) : Host.Outcome State Fault Refusal :=
  s.doesPair fun m =>
    let m := m.start t
    if m.test.halting && m.haltReached then
      let counts := match m.leader with
        | some x => (List.range 16).flatMap fun e => leBytes ((m.lane x).retired e) 8
        | none => List.replicate 128 0
      let key := m.test.haltKey
      let m := m.allLane fun l => { l with mode := if l.mode = LaneMode.serving then LaneMode.halted else l.mode }
      let m := { m with test := { m.test with halted := true, halting := false, haltKey := none }
                        prog := { m.prog with run := .haltedDebug } }
      m.finish? key .done 0 counts
    else m

/-- DBG_BREAK (R620): sets or clears a breakpoint. -/
def Mod.runDbgBreak (m : Mod) (a : Ask) (sel eng pc : Nat) (set : Bool) : Mod :=
  m.inDebug a fun m =>
    if 8 ≤ sel || 16 ≤ eng || 2 ^ 24 ≤ pc then m.reject a rsRange
    else
      let bs := if set then tabSet m.test.breaks sel ⟨eng, pc⟩ else tabDel m.test.breaks sel
      ({ m with test := { m.test with breaks := bs } }).doneReq a []

/-- The engine of the leading lane stands at a program counter. -/
def Mod.leadsAt (m : Mod) (eng pc : Nat) : Bool :=
  match m.leader with
  | some x =>
    let l := m.lane x
    match l.runCls with
    | some c =>
      let e := tabGet (tabGet l.ctxs default c).engs Eng.idle eng
      decide (e.st = .run) && decide (e.pc = pc)
    | none => false
  | none => false

/-- BREAKPOINT_HIT (R620): the engine of the leading lane fetches the breakpoint's PC: a halt with N = 1 is requested. -/
def execBreakpointHit (t : Nat) (b : Nat) (s : State) : Host.Outcome State Fault Refusal :=
  s.doesPair fun m =>
    let m := m.start t
    match m.test.dbgOpen, tabFind m.test.breaks b with
    | some _, some k =>
      if m.test.halting || m.test.halted || !m.leadsAt k.eng k.pc then m else m.startHalt 1 none
    | _, _ => m

/-! ### Memory (R122, R217-R219, R225, R229) -/

/-- The pieces of an access that do not cross a 64-byte boundary (R216), at most `n`. -/
def pieces (addr len : Nat) : Nat → List (Nat × Nat)
  | 0 => []
  | n + 1 =>
    if len = 0 then []
    else
      let k := min len (64 - addr % 64)
      (addr, k) :: pieces (addr + k) (len - k) n

/-- Bytes of a memory of words, from a byte offset. -/
def wordBytes (w : Mem 64) (ofs len : Nat) : List Byte :=
  (List.range len).map fun i => (memGet w ((ofs + i) / 8)).extractLsb' (8 * ((ofs + i) % 8)) 8

/-- UPDATE.SECURITY (R588). -/
def Update.security (u : Update) : Nat := u.svnFused * 2 ^ 23 + u.revoked.toNat * 2 ^ 20 + bit u.project.isSome * 2 ^ 19

/-- What the machine holds at an address that a debug read may see (R138, R217, R247, R542): the instance area of the leading
lane, the process image, the master tables, the home of the Attic, UPDATE.SECURITY (R564); none for bytes whose contents the manual does not lay out. -/
def Mod.debugBytes (m : Mod) (a len : Nat) : Option (List Byte) :=
  let area (x : Mem 8) (base : Nat) : Option (List Byte) := some (memRead x (a - base) len)
  match windowOf a with
  | some (.lane x, o) => if o + len ≤ 0x1400000 then some (wordBytes (m.lane x).inst o len) else none
  | some _ => none
  | none =>
    let p := m.pantry
    if a < 0x20800000 then none
    else if a < 0x20900000 then area p.buf0.imgIn 0x20800000
    else if a < 0x20A00000 then area p.buf1.imgIn 0x20900000
    else if a < 0x20B00000 then area p.buf2.imgIn 0x20A00000
    else if a < 0x20C00000 then area p.out0.imgOut 0x20B00000
    else if a < 0x20D00000 then area p.out1.imgOut 0x20C00000
    else if a < 0x20D10000 then area p.buf0.axIn 0x20D00000
    else if a < 0x20D20000 then area p.buf1.axIn 0x20D10000
    else if a < 0x20D30000 then area p.buf2.axIn 0x20D20000
    else if a < 0x20D40000 then area p.out0.axOut 0x20D30000
    else if a < 0x20D50000 then area p.out1.axOut 0x20D40000
    else if 0x20D50000 ≤ a && a < 0x20D50400 then area p.mt0 0x20D50000
    else if 0x20D50400 ≤ a && a < 0x20D50800 then area p.mt1 0x20D50400
    else if 0x500A0100 ≤ a && a + len ≤ 0x500A0104 then
      some (((leBytes m.upd.security 4).drop (a - 0x500A0100)).take len)
    else if 0x30100000 ≤ a && a < 0x31500000 then some (wordBytes m.attic.home (a - 0x30100000) len)
    else none

/-- One debug read (R229): zeros for a refused one; open bytes where the manual lays out no contents (log entry 8). -/
def Mod.debugRead (m : Mod) (a len : Nat) : List Byte × Mod :=
  match m.checkAccess 0x45 .r a len with
  | some cause => (List.replicate len 0, m.recordViolation 0x45 .r cause a)
  | none =>
    match m.debugBytes a len with
    | some bs => (bs, m)
    | none =>
      let (k, m) := m.open_
      (leBytes k len, m)

/-- A list of debug reads, in order. -/
def Mod.debugReads (m : Mod) : List (Nat × Nat) → List Byte × Mod
  | [] => ([], m)
  | (a, len) :: rest =>
    let (bs, m) := m.debugRead a len
    let (cs, m) := m.debugReads rest
    (bs ++ cs, m)

/-- An address and length that DBG_OP may carry (R648). -/
def debugRange (addr len : Nat) : Bool := decide (addr + len ≤ 2 ^ 32) && decide (len ≤ 32768) && decide (len % 4 = 0)

/-- DBG_READ (R122, R620): at any time, from the leading lane in service. -/
def Mod.runDbgRead (m : Mod) (a : Ask) (addr len : Nat) : Mod :=
  m.inDebug a fun m =>
    if !debugRange addr len then m.reject a rsRange
    else
      let (bs, m) := m.debugReads (pieces addr len 514)
      m.doneReq a bs

/-- Bytes over a memory of words, from a byte offset. -/
def wordPut (w : Mem 64) (ofs : Nat) : List Byte → Mem 64
  | [] => w
  | b :: bs =>
    let k := ofs / 8
    let sh := 8 * (ofs % 8)
    let v := (memGet w k &&& ~~~(0xFF#64 <<< sh)) ||| (b.zeroExtend 64 <<< sh)
    wordPut (memSet w k v) (ofs + 1) bs

/-- One debug write (R122, R219, R229): through the broadcast window into every lane in service; a refused one changes
nothing. Bytes past the instance area have no layout in the manual (log entry 24). -/
def Mod.debugWrite (m : Mod) (a : Nat) (bs : List Byte) : Mod :=
  match m.checkAccess 0x45 .w a bs.length with
  | some cause => m.recordViolation 0x45 .w cause a
  | none =>
    match windowOf a with
    | some (.bcast, o) =>
      if o + bs.length ≤ 0x1400000 then
        m.allLane fun l => if l.inService then { l with inst := wordPut l.inst o bs } else l
      else m
    | _ => m

/-- DBG_WRITE (R122, R620): only while halted. -/
def Mod.runDbgWrite (m : Mod) (a : Ask) (addr : Nat) (bytes : List Byte) : Mod :=
  m.inDebug a fun m =>
    if !debugRange addr bytes.length then m.reject a rsRange
    else if !m.test.halted then m.reject a 0
    else
      let m := (pieces addr bytes.length 514).foldl (fun m p => m.debugWrite p.1 ((bytes.drop (p.1 - addr)).take p.2)) m
      m.doneReq a []

end Sys2Proof.Machine
end

