-- ==== Sys2Proof/Machine/Float.lean ====
section
/-! DEFINITION. ARITH-FLOAT (R152-R156). -/
namespace Sys2Proof.Machine

/-- The other format. -/
def fpOther : FWidth → FWidth
  | .b64 => .b32 | .b32 => .b64

/-- The low bits of a format, the others cleared. -/
def fpCut (w : FWidth) (x : W64) : W64 := BitVec.ofNat 64 (x.toNat % 2 ^ FWidth.bits w)

/-- A floating-point operation: opcode 0x20 + x or 0x30 + x, its cycles in the two formats, its result and
the sticky flags it sets (R152, R156). -/
def State.fp (s : State) (e : EngRef) (w : FWidth) (x : BitVec 8) (d r : Reg) (i : Imm) (c64 c32 : Nat)
    (f : View → W64 × BitVec 5) : Host.Outcome State Fault Refusal :=
  let base : BitVec 8 := match w with | .b64 => 0x20 | .b32 => 0x30
  s.op e (opWord (base + x) d r i) (match w with | .b64 => c64 | .b32 => c32) fun v =>
    let y := f v
    .ok ((v.w d y.1).flags y.2)

/-- FADD (R153). -/
def execFadd (e : EngRef) (w : FWidth) (d s1 : Reg) (s : State) : Host.Outcome State Fault Refusal :=
  s.fp e w 0x0 d s1 0 4 3 fun v => fpAdd w (fpOf w (v.r d)) (fpOf w (v.r s1))

/-- FSUB (R153). -/
def execFsub (e : EngRef) (w : FWidth) (d s1 : Reg) (s : State) : Host.Outcome State Fault Refusal :=
  s.fp e w 0x1 d s1 0 4 3 fun v => fpAdd w (fpOf w (v.r d)) (fpOf w (v.r s1)).negate

/-- FMUL (R153). -/
def execFmul (e : EngRef) (w : FWidth) (d s1 : Reg) (s : State) : Host.Outcome State Fault Refusal :=
  s.fp e w 0x2 d s1 0 4 3 fun v => fpMul w (fpOf w (v.r d)) (fpOf w (v.r s1))

/-- FDIV (R153). -/
def execFdiv (e : EngRef) (w : FWidth) (d s1 : Reg) (s : State) : Host.Outcome State Fault Refusal :=
  s.fp e w 0x3 d s1 0 14 10 fun v => fpDiv w (fpOf w (v.r d)) (fpOf w (v.r s1))

/-- FSQRT (R153). -/
def execFsqrt (e : EngRef) (w : FWidth) (d s1 : Reg) (s : State) : Host.Outcome State Fault Refusal :=
  s.fp e w 0x4 d s1 0 16 12 fun v => fpSqrt w (fpOf w (v.r s1))

/-- FMA (R155): Wd := Ws × W[i[4:0]] + Wd, rounded once. -/
def execFma (e : EngRef) (w : FWidth) (d s1 : Reg) (i : Imm) (s : State) : Host.Outcome State Fault Refusal :=
  s.fp e w 0x5 d s1 i 5 4 fun v =>
    let y := v.eng.reg (i.toNat % 32)
    fpFma w (Config.fmaInvalid w (v.r s1) y (v.r d)) (fpOf w (v.r s1)) (fpOf w y) (fpOf w (v.r d))

/-- FMIN (R154): −0 below +0. -/
def execFmin (e : EngRef) (w : FWidth) (d s1 : Reg) (s : State) : Host.Outcome State Fault Refusal :=
  s.fp e w 0x6 d s1 0 2 2 fun v => fpMinMax w false (v.r d) (v.r s1)

/-- FMAX (R154). -/
def execFmax (e : EngRef) (w : FWidth) (d s1 : Reg) (s : State) : Host.Outcome State Fault Refusal :=
  s.fp e w 0x7 d s1 0 2 2 fun v => fpMinMax w true (v.r d) (v.r s1)

/-- FNEG (R154): the sign bit inverted, the payload kept. -/
def execFneg (e : EngRef) (w : FWidth) (d s1 : Reg) (s : State) : Host.Outcome State Fault Refusal :=
  s.fp e w 0x8 d s1 0 1 1 fun v => (fpCut w (v.r s1 ^^^ BitVec.ofNat 64 (signBits w true)), 0)

/-- FABS (R154): the sign bit cleared. -/
def execFabs (e : EngRef) (w : FWidth) (d s1 : Reg) (s : State) : Host.Outcome State Fault Refusal :=
  s.fp e w 0x9 d s1 0 1 1 fun v => (fpCut w (v.r s1 &&& ~~~BitVec.ofNat 64 (signBits w true)), 0)

/-- FCVTI (R152, R153): to a signed 64-bit integer. -/
def execFcvti (e : EngRef) (w : FWidth) (d s1 : Reg) (s : State) : Host.Outcome State Fault Refusal :=
  s.fp e w 0xA d s1 0 3 3 fun v => fpToInt (fpOf w (v.r s1))

/-- FCVTF (R152): from a signed 64-bit integer. -/
def execFcvtf (e : EngRef) (w : FWidth) (d s1 : Reg) (s : State) : Host.Outcome State Fault Refusal :=
  s.fp e w 0xB d s1 0 3 3 fun v => fpOfInt w (v.r s1).toInt

/-- FCVTW (R152): to the other format. -/
def execFcvtw (e : EngRef) (w : FWidth) (d s1 : Reg) (s : State) : Host.Outcome State Fault Refusal :=
  s.fp e w 0xC d s1 0 2 2 fun v => fpConv (fpOther w) (fpOf w (v.r s1))

/-- FEQ (R154): quiet. -/
def execFeq (e : EngRef) (w : FWidth) (d s1 : Reg) (s : State) : Host.Outcome State Fault Refusal :=
  s.fp e w 0xD d s1 0 2 2 fun v => fpEq (fpOf w (v.r d)) (fpOf w (v.r s1))

/-- FLT (R154): signalling. -/
def execFlt (e : EngRef) (w : FWidth) (d s1 : Reg) (s : State) : Host.Outcome State Fault Refusal :=
  s.fp e w 0xE d s1 0 2 2 fun v => fpCmp false (fpOf w (v.r d)) (fpOf w (v.r s1))

/-- FLE (R154): signalling. -/
def execFle (e : EngRef) (w : FWidth) (d s1 : Reg) (s : State) : Host.Outcome State Fault Refusal :=
  s.fp e w 0xF d s1 0 2 2 fun v => fpCmp true (fpOf w (v.r d)) (fpOf w (v.r s1))

end Sys2Proof.Machine
end

