-- ==== Sys2Proof/Machine/Join.lean ====
section
/-! DEFINITION. Joining: ROLE and what follows from the partner's role, ADMIT, the passes, the cut and the end of a state
handover (R459, R500, R510-R519), and the partner's part of an online change (R195). -/
namespace Sys2Proof.Machine

/-! ### What the owner sends (R510-R514, R518) -/

/-- The passes of a join are in progress at the owner. -/
def Mod.joinSends (m : Mod) : Bool :=
  m.hall.sender && (m.hall.join = .first || m.hall.join = .converge || m.hall.join = .wait)

/-- The words of a page of the INST slot. -/
def pageWords : Nat := 512

/-- The pages in use of the INST slot: those that instances of the image reach. -/
def instPages (i : Image) : List Nat :=
  (i.insts.foldl (fun (t : Tab Unit) e =>
    let a := e.handle / 8 / pageWords
    let b := (e.handle / 8 + 1 + entState e + entScratch e) / pageWords
    (List.range (b + 1 - a)).foldl (fun t k => tabSet t (a + k) ()) t) []).map Prod.fst

/-- The bytes of an OUTBUF page: IMG_OUT fills pages 0 to 255, AXOUT pages 256 to 271 (log entry 22). -/
def outPlace (page : Nat) : Area × Nat := if page < 256 then (.imgOut, page * 4096) else (.axOut, (page - 256) * 4096)

/-- The pages in use of the OUTBUF slot: those that writers of the image reach. -/
def outPages (i : Image) : List Nat :=
  (i.writers.foldl (fun (t : Tab Unit) w =>
    let base := if w.range.area = .axOut then 256 else 0
    let a := base + w.range.start / 4096
    let b := base + (w.range.start + w.range.len - 1) / 4096
    (List.range (b + 1 - a)).foldl (fun t k => tabSet t (a + k) ()) t) []).map Prod.fst

/-- The class output buffers: the published images with what votes hold back for the next tick (R48, R148). -/
def Mod.outBuffers (m : Mod) (i : Image) : Areas :=
  m.sched.runs.foldl (fun a p =>
    match p.2.held with
    | some h => a.paste h (i.outRanges p.1)
    | none => a) m.outs

/-- Sends every page in use of the donor (R510, R511): the marks are not kept by page, so a pass sends them all (log entry
22). -/
def Mod.sendPages (m : Mod) (i : Image) (pass : Nat) : Mod :=
  let inst := (m.lane m.hall.donor).inst
  let m := (instPages i).foldl (fun m p => m.hallSend 3 fun h => .mPage h 1 p pass (memRead inst (p * pageWords) pageWords)) m
  let out := m.outBuffers i
  (outPages i).foldl (fun m p =>
    let (a, o) := outPlace p
    m.hallSend 3 fun h => .mPage h 3 p pass (wordsOf (memRead (out.get a) o 4096) pageWords)) m

/-- The held bytes of every HOLD station under substitute, and of the peer ranges (R512). -/
def Mod.sendAllHeld (m : Mod) (i : Image) : Mod :=
  let n := m.sched.tick + 1
  let m := (i.stations.filter fun r => (m.stn r.station).subst).foldl (fun m r => m.sendHeld n r) m
  match i.peer with
  | some c =>
    c.srcs.foldl (fun m s =>
      match tabFind m.pantry.peers s.domain with
      | some p => if p.valid then m.hallSend 3 fun h => .mHeld h (0x2000 + s.domain) n p.block else m
      | none => m) m
  | none => m

/-- The handover record of a station (R518). -/
def Stn.record (k : Nat) (s : Stn) : HoStn :=
  { station := k
    state := match s.state with
      | .absent => 0 | .announced => 1 | .starting => 2 | .run => 3 | .revalidating => 4 | .refused => 5
    ver := s.ver
    path := match s.path with | .none => 0 | .own => 1 | .relay => 2
    missRun := s.missRun, goodRun := s.goodRun, subst := s.subst, dropped := s.dropped, seq := s.lastSeq }

/-- The sections of a format in ascending type (R518). -/
def Mod.sections (m : Mod) (i : Image) (fmt : Nat) : List Section :=
  let runs := tabMap (fun _ (r : ClsRun) => { r with running := false, held := none }) m.sched.runs
  let l := { (m.lane m.hall.donor).lsu with refused := 0, feEvents := 0, regAcc := 0, regRej := 0, merged := 0, skips := 0 }
  let q := [m.reflex.q0, m.reflex.q1, m.reflex.q2]
  [.program i.generation i.digest runs m.prog.pairKey m.prog.events m.prog.evSeq,
   .station (i.stations.map fun r => Stn.record r.station (m.stn r.station)) m.pantry.segSeq m.pair.epoch,
   .lsu l m.reflex.edges,
   .reflex m.reflex.arm (vote3 (q.getD 0 0) (q.getD 1 0) (q.getD 2 0)) m.reflex.capSeq,
   .time m.pair.epoch m.time.calSt.code m.time.calValid m.time.refused m.time.lineM m.time.extM m.time.lastGm,
   .queue (m.prog.reqTab.filter fun p => !p.2.final)]
  ++ (if 2 ≤ fmt then [.analogue m.wins m.loops m.conv.urg] else [])
  ++ (if 3 ≤ fmt then [.engq (m.savis.reqs.map fun r => (r.client, r.id, r.outcome.getD .pending))] else [])

/-- The bytes of the sections (R518). -/
def Mod.sectionBytes (m : Mod) (i : Image) (fmt : Nat) : Nat :=
  let (nax, ncmp, nreg) := match i.axis with | some c => (c.axes.length, c.cmps.length, c.regs.length) | none => (0, 0, 0)
  1040 + 64 * m.prog.events.length + 16 + 32 * i.stations.length + 4112 + 128 * (nax + ncmp) + 64 * nreg + 80 + 144
    + 272 + 16 * (m.prog.reqTab.filter fun p => !p.2.final).length
    + (if 2 ≤ fmt then 272 else 0) + (if 3 ≤ fmt then 16 + 64 * m.savis.reqs.length else 0)

/-- The final pass of a number of marked pages ends 1 µs before tick n when it starts 0.5 µs after `tEnd`, in ns after t0
(R513). -/
def Mod.finalFits (m : Mod) (i : Image) (marked tEnd : Nat) : Bool :=
  let bytes := marked * 4112 + m.sectionBytes i m.hall.fmt
  let rate := if m.hall.hl0 && m.hall.hl1 then 10 else 5
  decide (rate * (tEnd + 500) + 2 * bytes ≤ rate * (i.tickNs - 1000))

/-- The owner tells a joiner the project key digest, the pair values of the network record and the trust anchors (R582, R630,
R633); session and request 0 (log entry 23). -/
def Mod.sendAdmit (m : Mod) : Mod :=
  let m := match m.upd.project with
    | some d => m.hallSend 2 fun h => .mCmd h 0 0 0x0606 [(d : Int)]
    | none => m
  let n := m.savis.net
  let m := m.hallSend 2 fun h => .mCmd h 0 0 0x0901 [(0xFF : Int), 0, n.tcp, n.psa1, n.psaPfx1, 0]
  let m := m.hallSend 2 fun h => .mCmd h 0 0 0x0901 [(0xFF : Int), 1, n.tcp, n.psa2, n.psaPfx2, 0]
  m.hallSend 2 fun h => .mCmd h 0 0 0x0902 (m.savis.anchors.map Int.ofNat)

/-- ADMIT (R510): a joiner whose image differs from the running one is sent it. -/
def Mod.admitJoin (m : Mod) : Mod :=
  match m.prog.image, m.hall.partner with
  | some i, some h =>
    if m.hall.join = .none && m.hall.hofNow ≠ 0 && h.digest ≠ i.digest && m.hall.verdict.isNone then
      let m := { m with hall := { m.hall with join := .admitting, sender := true } }
      (m.sendAdmit).hallSend 3 fun x => .mImage x false (some i)
    else m
  | _, _ => m

/-- OPEN and the start of FIRST_PASS (R510, R512). -/
def Mod.openJoin (m : Mod) : Mod :=
  match m.prog.image with
  | some i =>
    let donor := m.leading.getD .A
    let pages := (instPages i).length + (outPages i).length
    let m := if m.hall.join = .admitting then m else m.sendAdmit
    let m := { m with hall := { m.hall with
      join := .first, sender := true, openAt := some m.now, endedAt := none, donor := donor, fmt := m.hall.hofNow
      cut := none, compared := [], joinPages := 0, marked := 0, verdict := none } }
    (m.hallSend 0 fun h => .mHoOpen h m.hall.fmt donor pages m.sched.tick).sendAllHeld i
  | none => m

/-! ### ROLE (R459, R483, R489, R500) -/

/-- What the partner's role means for this module (R459): a partner that joins makes an ALONE module OWNER, and one that
leaves SHADOW and JOINING makes an OWNER ALONE. -/
def Mod.partnerRole (m : Mod) (old : Option Role) (ready0 : Bool) (role : Role) (ready : Bool) : Mod :=
  match m.pair.role, role with
  | .alone, .joining => (m.toRole .owner 3).openJoin
  | .alone, .out => m.admitJoin
  | .owner, .joining => if old = some .joining && m.hall.join ≠ .none then m else m.openJoin
  | .owner, .shadow => if ready && !(old = some .shadow && ready0) then m.raisePair 3 0 else m
  | .owner, _ => if old = some .shadow || old = some .joining then (m.partnerGone).unmirror else m
  | _, _ => m

/-- ROLE (R500). -/
def execMRole (x : Msg) (role : Role) (ready _armed : Bool) (key : KeyPos) (failCause : W32) (epoch : BitVec 16) (s : State) :
    Host.Outcome State Fault Refusal :=
  s.hears x 0 fun m =>
    let old := m.pair.partner
    let was := m.pair.partnerReady
    let m := { m with pair := { m.pair with partner := some role, partnerReady := ready, partnerKey := key
                                            partnerFail := failCause } }
    let takes := (m.pair.role = .shadow || m.pair.role = .joining) && (role = .owner || role = .alone)
    let m := if takes then m.holdEpoch epoch else m
    (m.keyDiffer).partnerRole old was role ready

/-! ### IMAGE and VERDICT (R195, R488, R510, R582) -/

/-- A shadow checks the image of an online change as its owner did (R195). -/
def Mod.takeChange (m : Mod) (image : Option Image) : Mod :=
  match image with
  | some i =>
    let (r, inst, field) := m.changeCheck i
    let m := { m with prog := { m.prog with
      chgState := if r = 0 then .checking else .refused, chgReason := r, chgInst := inst, chgField := field
      staged := if r = 0 then some i else none, partnerVerdict := some 0, lanesStaged := false
      cardStaged := false, remapped := false, chgKey := none, chgSince := m.now } }
    let m := if r = 0 then m.stageRecord else m
    m.hallSend 2 fun h => .mVerdict h true r
  | none => m.hallSend 2 fun h => .mVerdict h true 1

/-- A joiner checks the owner's image (R488, R510): its program from now on, or it stays OUT. -/
def Mod.takeJoinImage (m : Mod) (image : Option Image) : Mod :=
  let r := match image with | some i => imageCheck m.upd.project i | none => 1
  let m := m.hallSend 2 fun h => .mVerdict h false r
  match image with
  | some i =>
    if r = 0 then
      if m.mayStart then ({ m with prog := { m.prog with image := some i } }).enterJoining else m
    else m.stayOut 0x0F
  | none => m.stayOut 0x0F

/-- IMAGE (R195, R510). -/
def execMImage (x : Msg) (change : Bool) (image : Option Image) (s : State) : Host.Outcome State Fault Refusal :=
  s.hears x 3 fun m =>
    if change then (if m.pair.role = .shadow then m.takeChange image else m.badMsg)
    else if m.pair.role = .out then m.takeJoinImage image
    else m.badMsg

/-- VERDICT (R195, R488): a refusal of either module refuses the change whole; a joiner that refuses the image leaves the
owner ALONE. -/
def execMVerdict (x : Msg) (change : Bool) (reason : Nat) (s : State) : Host.Outcome State Fault Refusal :=
  s.hears x 2 fun m =>
    if change then
      if m.prog.chgState = .checking && m.controls then
        let m := { m with prog := { m.prog with partnerVerdict := some reason } }
        if reason = 0 then m.stageRecord else m.dropChange .refused .rejectedAccess 0x0E
      else m
    else if m.hall.join = .admitting && m.hall.sender then
      { m with hall := { m.hall with verdict := some reason, join := if reason = 0 then .admitting else .none } }
    else m

/-! ### The joiner (R510-R519) -/

/-- A join is open in the joiner. -/
def Mod.joins (m : Mod) : Bool := m.pair.role = .joining && !m.hall.sender && m.hall.join = .first

/-- HO_OPEN (R510, R519): the joiner begins from the image alone. -/
def execMHoOpen (x : Msg) (fmt : Nat) (donor : LaneId) (_pages _openTick : Nat) (s : State) : Host.Outcome State Fault Refusal :=
  s.hears x 0 fun m =>
    match m.pair.role, m.prog.image with
    | .joining, some i =>
      let m := { (m.begin_ i [] []) with prog := { (m.prog.begin_ i 3 0 0 false) with run := .joining, awaitFirst := false } }
      { m with
        sched := { m.sched with running := false }
        hall := { m.hall with join := .first, sender := false, fmt := fmt, donor := donor, openAt := some m.now, joinPages := 0
                              marked := 0, cut := none, compared := [], ownerDigs := [], ownDigs := [], live := []
                              samples := [] } }
    | _, _ => m

/-- PAGE (R511): into all three lanes; a page of output buffers is written at the ranges of its classes (R514). -/
def execMPage (x : Msg) (area page _pass : Nat) (words : List W64) (s : State) : Host.Outcome State Fault Refusal :=
  s.hears x 3 fun m =>
    if !m.joins then m
    else
      let m := { m with hall := { m.hall with joinPages := inc32 m.hall.joinPages } }
      if area = 1 then m.allLane fun l => { l with inst := memWrite l.inst (page * pageWords) (words.take pageWords) }
      else
        match m.prog.image with
        | some i =>
          let (a, o) := outPlace page
          let bytes := (words.take pageWords).flatMap fun w => leBytes w.toNat 8
          let src := Areas.put .zero a (memWrite [] o bytes)
          let rs := (i.writers.map Writer.range).filterMap fun r =>
            let lo := max r.start o
            let hi := min (r.start + r.len) (o + 4096)
            if r.area = a ∧ lo < hi then some ⟨a, lo, hi - lo⟩ else none
          { m with pantry := { m.pantry with out0 := m.pantry.out0.paste src rs, out1 := m.pantry.out1.paste src rs } }
        | none => m

/-- HELD (R512): into all three buffers. -/
def execMHeld (x : Msg) (stn gen : Nat) (bytes : List Byte) (s : State) : Host.Outcome State Fault Refusal :=
  s.hears x 3 fun m =>
    if !m.joins then m
    else if stn < 0x2000 then ((m.enter gen stn bytes).enter (gen + 1) stn bytes).enter (gen + 2) stn bytes
    else
      match (m.prog.image.bind Image.peer).bind fun c => c.srcs.find? fun p => p.domain = stn - 0x2000 with
      | some src =>
        let put (a : Areas) : Areas := { a with imgIn := memWrite a.imgIn src.start (padTo src.len bytes) }
        { m with pantry := { m.pantry with
            buf0 := put m.pantry.buf0, buf1 := put m.pantry.buf1, buf2 := put m.pantry.buf2
            peers := tabSet m.pantry.peers src.domain ⟨true, 0, gen, padTo src.len bytes, none⟩ } }
      | none => m

/-- Calendar states by their code (R442). -/
def calOf : Nat → CalState
  | 1 => .acquiring | 2 => .locked | 3 => .holdover | 4 => .refused | 5 => .tracking | _ => .unset

/-- Takes a section (R514, R518). -/
def Mod.takeSection (m : Mod) (i : Image) (sec : Section) : Mod :=
  match sec with
  | .program _ _ runs key events evSeq =>
    { m with sched := { m.sched with runs := runs }, prog := { m.prog with pairKey := key, events := events, evSeq := evSeq } }
  | .station recs segSeq epoch =>
    let m := recs.foldl (fun m r => m.setStn r.station fun s =>
      { s with
        state := tspOf r.state, ver := r.ver, path := match r.path with | 1 => .own | 2 => .relay | _ => .none
        missRun := r.missRun, goodRun := r.goodRun, subst := r.subst, dropped := r.dropped, lastSeq := r.seq
        started := r.ver ≠ 0 }) m
    { m.holdEpoch epoch with pantry := { m.pantry with segSeq := segSeq } }
  | .lsu l edges =>
    let data := (lsuOut l).foldl (fun (a : Areas) p => { a with axOut := memWrite a.axOut (64 * p.1) p.2 }) Areas.zero
    let m := m.publish data ((lsuOut l).map fun p => ⟨.axOut, 64 * p.1, 32⟩)
    { (m.allLane fun x => { x with lsu := l }) with
      pantry := { m.pantry with mt0 := masterTable l, mt1 := masterTable l }, reflex := { m.reflex with edges := edges } }
  | .reflex arm q counts =>
    let keep : W64 := match i.reflex with
      | some t => BitVec.ofNat 64 (levels (fun c => match t.cells[c]? with | some y => y.mode = 2 && q.getLsbD c | none => false) 64)
      | none => 0
    { m with reflex := { m.reflex with arm := arm, q0 := keep, q1 := keep, q2 := keep, capSeq := counts } }
  | .time epoch st valid refused lineM extM lastGm =>
    { m.holdEpoch epoch with time := { m.time with
      calOwner := calOf st, calSt := .tracking, calValid := valid, refused := refused, lineM := lineM, extM := extM
      lastGm := lastGm } }
  | .queue reqs => { m with prog := { m.prog with reqTab := reqs } }
  | .analogue wins loops urg =>
    let one (c : Nat) (l : Loop) : Loop :=
      let o := tabGet loops Loop.zero c
      { l with deviation := o.deviation, devRun := o.devRun, goodRun := o.goodRun, neLow := o.neLow, neHigh := o.neHigh
               range := o.range, neSide := o.neSide, neSince := o.neSince, okSince := o.okSince }
    { m with wins := wins, loops := (List.range 8).foldl (fun t c => tabSet t c (one c (tabGet m.loops Loop.zero c))) m.loops
             conv := { m.conv with urg := urg } }
  | .engq reqs =>
    let rs := reqs.map fun r =>
      ({ client := r.1, id := r.2.1, outcome := if r.2.2.final then some r.2.2 else none, ended := m.now } : SReq)
    { m with savis := { m.savis with reqs := (m.savis.reqs.filter fun r =>
      !reqs.any fun q => q.1 = r.client && q.2.1 = r.id) ++ rs } }
  | .unreadable => m

/-- SECTION (R515, R518): one that the joiner cannot read at the agreed format ends the join. -/
def execMSection (x : Msg) (ver : Nat) (crcOk : Bool) (sec : Section) (s : State) : Host.Outcome State Fault Refusal :=
  s.hears x 3 fun m =>
    if !m.joins then m
    else
      match m.prog.image, sec with
      | _, .unreadable => m.endJoin 4 true
      | some i, _ => if !crcOk || ver ≠ m.hall.fmt then m.endJoin 4 true else m.takeSection i sec
      | none, _ => m.endJoin 4 true

/-- HO_CUT (R510, R514, R552): the joiner starts at tick n on shadow timing. -/
def execMHoCut (x : Msg) (tick _sections _pages : Nat) (s : State) : Host.Outcome State Fault Refusal :=
  s.hears x 0 fun m =>
    match m.prog.image with
    | some i =>
      if !m.joins then m
      else
        let m := m.allLane fun l => { l with ctxs := [], gates := [], dr := [], ops := [] }
        let m := { m with
          sched := { m.sched with tick := tick - 1, running := true, built := true, buildEnd := true }
          pantry := { m.pantry with payloads := m.pantry.payloads.filter fun p => decide (tick ≤ p.1)
                                    closes := m.pantry.closes.filter fun c => decide (tick ≤ c.1) }
          hall := { m.hall with join := .compare, cut := some tick, compared := []
                                samples := m.hall.samples.filter fun f => decide (tick ≤ f.tick) } }
        (m.atticRefill (retained i m.lanes.a.inst)).tryTick
    | none => m

/-- HO_END (R515): from the joiner DONE, or from either side the early end of a join; a shadow whose owner has restarted joins
again (R189, log entry 27). -/
def execMHoEnd (x : Msg) (result : Nat) (s : State) : Host.Outcome State Fault Refusal :=
  s.hears x 0 fun m =>
    if result = 6 && m.pair.role = .shadow then m.lostStep
    else if result ≠ 0 then m.endJoin result false
    else if m.hall.sender && m.hall.join ≠ .none then
      let us := match m.hall.openAt with | some t => (m.now - t) / 1000 | none => 0
      { m with hall := { m.hall with join := .none, last := 0, marked := 0, openAt := none, joinUs := us } }
    else m

/-! ### The passes at the owner (R510-R513, R515) -/

/-- The LSU of the tick has run and is voted, and no error task is queued: every cyclic class has reached its checkpoint
(R513). -/
def Mod.tickWorkDone (m : Mod) : Bool :=
  m.cyclicDone && !m.sched.lsuDue && m.prog.events.isEmpty && allLanes.all fun x => !((m.lane x).inService && (m.lane x).lsu.done)

/-- JOIN_PASS_DONE (R510, R511): no pages go while a lane is under resync. -/
def execJoinPassDone (t : Nat) (pages marked : Nat) (s : State) : Host.Outcome State Fault Refusal :=
  s.does fun m =>
    let m := m.start t
    match m.prog.image with
    | some i =>
      if !m.joinSends || (allLanes.any fun x => (m.lane x).mode = .resync) then m
      else
        let m := if m.hall.join = .first then m.sendPages i 1 else m
        let could := m.finalFits i marked ((cyclicEnd i [0] + 5) / 6)
        { m with hall := { m.hall with marked := marked, joinPages := add32 m.hall.joinPages pages
                                       join := if m.hall.join = .wait || could then .wait else .converge } }
    | none => m

/-- JOIN_FINAL (R513): in tick n−1 with n a multiple of k_max, all cyclic work of the tick ended at `tEnd` ns after t0. The
marked pages, the sections and HO_CUT go out. -/
def execJoinFinal (t : Nat) (tEnd : Nat) (s : State) : Host.Outcome State Fault Refusal :=
  s.does fun m =>
    let m := m.start t
    match m.prog.image with
    | some i =>
      let n := m.sched.tick + 1
      let quiet := allLanes.all fun x => (m.lane x).mode ≠ .resync
      if m.hall.sender && m.hall.join = .wait && quiet && n % i.kmax = 0 && m.tickWorkDone
          && decide (m.sched.tick * i.tickNs + tEnd ≤ m.ltNs) && m.finalFits i m.hall.marked tEnd then
        let secs := m.sections i m.hall.fmt
        let fmt := m.hall.fmt
        let marked := m.hall.marked
        let m := m.sendPages i 2
        let m := secs.foldl (fun m sec => m.hallSend 3 fun h => .mSection h fmt true sec) m
        let m := m.hallSend 0 fun h => .mHoCut h n secs.length marked
        { m with hall := { m.hall with join := .compare, cut := some n, marked := 0
                                       joinPages := add32 m.hall.joinPages marked } }
      else m
    | none => m

/-- JOIN_TIMEOUT (R515): no COMPARE within 60 s of HO_OPEN. -/
def execJoinTimeout (t : Nat) (s : State) : Host.Outcome State Fault Refusal :=
  s.doesPair fun m =>
    let m := m.start t
    match m.hall.openAt with
    | some u =>
      if m.hall.join ≠ .none && m.hall.join ≠ .compare && decide (u + 60000000000 ≤ m.now) then m.endJoin 1 true else m
    | none => m

end Sys2Proof.Machine
end

