-- ==== Sys2Proof/Machine/Lanes.lean ====
section
/-! DEFINITION. Resync of a lane, its stops, the sampler's second samples and the known-answer tests (R86, R91,
R105-R107, R115). -/
namespace Sys2Proof.Machine

/-- The phase after a copy pass (R105): the first pass and the passes after it go on until at most 128 pages are
marked. -/
def RPhase.afterPass (p : RPhase) (marked : Nat) : RPhase :=
  match p with
  | .reset | .first | .converge => if marked ≤ 128 then .waitEdge else .converge
  | p => p

/-- RESYNC_PASS_DONE (R105): a copy pass into the odd lane ends, with the KiB it copied and the pages marked. -/
def execResyncPassDone (t : Nat) (l : LaneId) (kib marked : Nat) (s : State) : Host.Outcome State Fault Refusal :=
  s.does fun m =>
    let m := m.start t
    let x := m.lane l
    if x.mode = .resync && x.power && x.phase ≠ .none && x.phase ≠ .final then
      m.setLane l fun x => { x with phase := x.phase.afterPass marked, marked := marked, copiedKib := add32 x.copiedKib kib }
    else m

/-- The duration of lane cycles in ns at the lane clock in force, rounded up (R76, R598). -/
def Mod.cyclesNs (m : Mod) (n : Nat) : Nat := if m.power.sag then (n * 10 + 11) / 12 else (n * 10 + 15) / 16

/-- RESYNC_FINAL_PASS (R105): in tick n−1, after all cyclic work, when it ends 1 µs before tick n. A rejoin never
falls on a change tick (R198). -/
def execResyncFinalPass (t : Nat) (l : LaneId) (s : State) : Host.Outcome State Fault Refusal :=
  s.does fun m =>
    let m := m.start t
    match m.prog.image with
    | none => m
    | some i =>
      let x := m.lane l
      let n := m.sched.tick + 1
      let inTime := m.ltNs + m.cyclesNs (x.marked * 128) + 1000 ≤ n * i.tickNs + (if m.pair.shadowTiming then 8000 else 0)
      if x.mode = .resync && x.phase = .waitEdge && n % i.kmax = 0 && m.cyclicDone && inTime && m.prog.go ≠ some n then
        m.setLane l fun x => { x with phase := .final, copiedKib := add32 x.copiedKib (4 * x.marked) }
      else m

/-- RESYNC_TIMEOUT (R106): no rejoin within 30 s of the take-out: the lane is retired. A rotation test of the lane
ends with it. -/
def execResyncTimeout (t : Nat) (l : LaneId) (s : State) : Host.Outcome State Fault Refusal :=
  s.doesPair fun m =>
    let m := m.start t
    let x := m.lane l
    if x.mode = .resync && decide (x.outAt + 30000000000 ≤ m.now) then
      let m := (m.retire l .resyncTimeout).raiseLane l 2 .resyncTimeout 0 7 m.sched.tick 0xFFFFFFFF true
      if m.rotating && m.test.rotLane = l then
        let key := m.test.rotKey
        ({ m with test := { m.test with rot := .failed, rotLeft := [], rotKey := none
                                        rotFails := inc32 m.test.rotFails } }).finish? key .failedTimeout 0 []
      else m
    else m

/-- LANE_STOP (R107): a fault signalled by an engine or supervisor, or an uncorrectable memory error, stops a lane;
its records carry POISON from then on. -/
def execLaneStop (t : Nat) (l : LaneId) (mem : Bool) (s : State) : Host.Outcome State Fault Refusal :=
  s.does fun m =>
    (m.start t).setLane l fun x =>
      { x with stopped := if x.inService then some (match x.stopped with | some b => b | none => mem) else x.stopped
               poisoned := if mem then inc32 x.poisoned else x.poisoned }

/-- SAMPLE_RETRY (R86): the second pair of samples agrees and is used, or the module fails. -/
def execSampleRetry (t : Nat) (agree : Bool) (s : State) : Host.Outcome State Fault Refusal :=
  s.doesPair fun m =>
    let m := m.start t
    if agree then { m with newel := { m.newel with resamples := inc32 m.newel.resamples } }
    else m.failModule .samplerSplit 7

/-- The lane after another in the order A, B, C, A (R115). -/
def LaneId.after : LaneId → LaneId
  | .A => .B | .B => .C | .C => .A

/-- KAT_TEST (R115): both comparator copies must find the named lane at the planted word; the test lasts 0.12 µs. -/
def execKatTest (t : Nat) (v0 v1 : Option (LaneId × Nat)) (planted : Nat) (s : State) : Host.Outcome State Fault Refusal :=
  s.doesPair fun m =>
    let m := m.start t
    let x := m.newel.katLane
    let m := { m with newel := { m.newel with katLane := LaneId.after x, katBusy := m.now + 120 } }
    if v0 = some (x, planted) ∧ v1 = some (x, planted) then
      { m with newel := { m.newel with katRuns := inc32 m.newel.katRuns } }
    else m.failModule .katFail 7

/-- SHADOW_STALL_TIMEOUT (R91): the shadow's leading lane waited more than 20 µs for a forwarded value. -/
def execShadowStallTimeout (t : Nat) (s : State) : Host.Outcome State Fault Refusal :=
  s.doesPair fun m => (m.start t).lostStep

end Sys2Proof.Machine
end

