-- ==== Sys2Proof/Machine/Motion.lean ====
section
/-! DEFINITION. The commands of masters and axes, and the loss of a master (R328-R331, R334, R338-R344). A command stands
for the words that class M publishes for it, taken by the LSU in every lane in service (log entry 15). -/
namespace Sys2Proof.Machine

/-- An LSU as its next run finds it: m(n−1) of every master is its newest shaft point (R327). -/
def Lsu.ahead (l : Lsu) : Lsu :=
  { l with masters := tabMap (fun _ (s : MasterSt) => { s with pts := ptPush s.pts (ptAt s.pts 0) }) l.masters }

/-- Carries a command out in the LSU of every lane in service and raises the events of the leading one (R329). -/
def Mod.lsuCmd (m : Mod) (i : Image) (f : Lsu → Lsu × List LsuEv) : Mod :=
  let evs := match m.leading with | some x => (f (m.lane x).lsu).2 | none => []
  let m := m.allLane fun l =>
    if l.inService then
      let r := f l.lsu
      { l with lsu := { r.1 with refused := r.1.refused + (r.2.filter fun e => e.code = 6).length } }
    else l
  m.raiseAxis i evs

/-! ### Commands of virtual masters (R328, R330) -/

/-- A master takes a command (R329). -/
def Lsu.takeM (inp : LsuIn) (k : Nat) (c : MCmd) (l : Lsu) : Lsu × List LsuEv :=
  let r := inp.master k
  let s := tabGet l.masters (MasterSt.init (match r with | some r => r.kind | none => .unused)) k
  let (s', ev) := mTake l r k s c
  ({ l with masters := tabSet l.masters k s' }, ev)

/-- The words of a master command (R328). -/
def MCmd.bytes (c : MCmd) : List Byte :=
  leBytes (c.op * 2 ^ 56 + c.cseq * 2 ^ 48) 8 ++ leBytes (BitVec.ofInt 64 c.vTgt).toNat 8 ++ leBytes c.accW 8
    ++ leBytes (BitVec.ofInt 64 c.dec).toNat 8

/-- A command of master `k`: its words stand in the command block, and the LSU takes it (R328, R329). -/
def Mod.masterCmd (m : Mod) (k : Nat) (c : MCmd) : Mod :=
  match m.prog.image, m.lsuIn with
  | some i, some inp =>
    if 16 ≤ k then m
    else
      let at_ := inp.cfg.cmdOfs + 32 * k
      let data : Areas := { Areas.zero with imgOut := memWrite [] at_ c.bytes }
      (m.publish data [⟨.imgOut, at_, 32⟩]).lsuCmd i (Lsu.takeM inp k c)
  | _, _ => m

/-- VELOCITY (R330): target velocity with its limits. -/
def execVelocity (k cseq : Nat) (vTgt acc dec : Int) (s : State) : Host.Outcome State Fault Refusal :=
  s.does fun m => m.quiet.masterCmd k ⟨1, cseq % 256, vTgt, (BitVec.ofInt 64 acc).toNat, dec⟩

/-- STOP (R330): target 0 at DEC. -/
def execStop (k cseq : Nat) (dec : Int) (s : State) : Host.Outcome State Fault Refusal :=
  s.does fun m => m.quiet.masterCmd k ⟨2, cseq % 256, 0, 0, dec⟩

/-- QUICK_STOP (R330): target 0 at HALT_DEC. -/
def execQuickStop (k cseq : Nat) (s : State) : Host.Outcome State Fault Refusal :=
  s.does fun m => m.quiet.masterCmd k ⟨3, cseq % 256, 0, 0, 0⟩

/-- SETPOS (R330): the position of a master at rest without followers. -/
def execSetpos (k cseq : Nat) (count : Int) (frac : Nat) (s : State) : Host.Outcome State Fault Refusal :=
  s.does fun m => m.quiet.masterCmd k ⟨4, cseq % 256, count, frac % 2 ^ 32, 0⟩

/-! ### Commands of axes (R338, R339) -/

/-- An axis takes a command (R329, R339). -/
def Lsu.takeA (inp : LsuIn) (r : AxisRec) (c : ACmd) (l : Lsu) : Lsu × List LsuEv :=
  let (x, ev) := aTake inp l.ahead r (tabGet l.axes AxisSt.init r.axis) c
  ({ l with axes := tabSet l.axes r.axis x }, ev)

/-- Words 6 and 7 of an AXOUT record (R338). -/
def ACmd.bytes (c : ACmd) : List Byte :=
  leBytes (c.op * 2 ^ 56 + c.cseq * 2 ^ 48 + c.master * 2 ^ 40 + bit c.atAngle * 2 ^ 32 + c.param) 8 ++ leBytes c.arg.toNat 8

/-- A command of axis `a`: its words stand in the AXOUT record, and the LSU takes it (R338, R329). -/
def Mod.axisCmd (m : Mod) (a : Nat) (c : ACmd) : Mod :=
  match m.prog.image, m.lsuIn with
  | some i, some inp =>
    match tabFind (axisTab inp.cfg) a with
    | some r =>
      let at_ := 64 * a + 48
      let data : Areas := { Areas.zero with axOut := memWrite [] at_ c.bytes }
      (m.publish data [⟨.axOut, at_, 16⟩]).lsuCmd i (Lsu.takeA inp r c)
    | none => m
  | _, _ => m

/-- GEAR (R340): engages a ratio or changes it over ENG_DIST. -/
def execGear (axis cseq master : Nat) (atAngle : Bool) (angle : Nat) (num : Int) (den : Nat) (s : State) :
    Host.Outcome State Fault Refusal :=
  s.does fun m => m.quiet.axisCmd axis
    ⟨1, cseq % 256, master % 256, atAngle, angle % 2 ^ 32, BitVec.ofInt 32 num ++ BitVec.ofNat 32 den⟩

/-- CAM (R341): engages a cam table or switches to it at the next cycle boundary. -/
def execCam (axis cseq master : Nat) (atAngle : Bool) (angle camId : Nat) (s : State) : Host.Outcome State Fault Refusal :=
  s.does fun m => m.quiet.axisCmd axis
    ⟨2, cseq % 256, master % 256, atAngle, angle % 2 ^ 32, BitVec.ofNat 64 (camId % 2 ^ 16)⟩

/-- PHASE (R343): a phase change over ramp ticks. -/
def execPhase (axis cseq rampTicks : Nat) (delta : Int) (s : State) : Host.Outcome State Fault Refusal :=
  s.does fun m => m.quiet.axisCmd axis ⟨3, cseq % 256, 0, false, rampTicks % 2 ^ 32, BitVec.ofInt 64 delta⟩

/-- DISENGAGE (R339): over ENG_DIST, at the next cycle boundary, or of a waiting engagement. -/
def execDisengage (axis cseq : Nat) (s : State) : Host.Outcome State Fault Refusal :=
  s.does fun m => m.quiet.axisCmd axis ⟨4, cseq % 256, 0, false, 0, 0⟩

/-- REG_ON (R339). -/
def execRegOn (axis cseq : Nat) (s : State) : Host.Outcome State Fault Refusal :=
  s.does fun m => m.quiet.axisCmd axis ⟨5, cseq % 256, 0, false, 0, 0⟩

/-- REG_OFF (R339). -/
def execRegOff (axis cseq : Nat) (s : State) : Host.Outcome State Fault Refusal :=
  s.does fun m => m.quiet.axisCmd axis ⟨6, cseq % 256, 0, false, 0, 0⟩

/-! ### The loss of a master (R334) -/

/-- An external master whose source gives no sample and whose HOLD_TICKS are used up becomes LOST; it then ramps to 0
at HALT_DEC. -/
def Lsu.loseMaster (inp : LsuIn) (k : Nat) (l : Lsu) : Lsu × List LsuEv :=
  match inp.master k, tabFind l.masters k with
  | some r, some s =>
    let n := match r.srcType with | .turn96 => 12 | .int32 => 4 | .int64 => 8
    let heard : Bool := match sourceStation inp.slots (pointArea r.src) (pointOfs r.src) n with
      | some st => tabGet inp.valid false st
      | none => false
    if r.kind = .external && s.seen && s.state ≠ .lost && !heard && decide (r.holdTicks ≤ s.hold) then
      ({ l with masters := tabSet l.masters k { s with state := .lost } },
       [lsuEv (.master k) 4 (fdiv s.v (2 ^ 16)) s.p])
    else (l, [])
  | _, _ => (l, [])

/-- MASTER_LOST (R334). -/
def execMasterLost (t : Nat) (k : Nat) (s : State) : Host.Outcome State Fault Refusal :=
  s.does fun m =>
    let m := m.start t
    match m.prog.image, m.lsuIn with
    | some i, some inp => m.lsuCmd i (Lsu.loseMaster inp k)
    | _, _ => m

end Sys2Proof.Machine
end

