-- ==== Sys2Proof/Machine/Move.lean ====
section
/-! DEFINITION. MOVE: registers, constants, fields, image points and link words (R152). -/
namespace Sys2Proof.Machine

/-- A written link word and the engines that waited for it (R151): its cycle count is its writer's at the
end of the operation (R78). -/
def View.linkWrite (v : View) (n : Nat) (x : W64) : View :=
  let wake (_ : Nat) (e : Eng) : Eng := if e.st = .wait n then { e with st := .run } else e
  { v with
    ctx := { v.ctx with
      links := tabSet v.ctx.links n ⟨x, v.eng.cyc + 1⟩
      engs := tabMap wake v.ctx.engs } }

/-- LKR: reads a written link word, no earlier than it was written; else the engine waits and the
operation is not retired (R151, R78). -/
def Mod.linkRead (m : Mod) (e : EngRef) (word : W32) (d : Reg) (n : Nat) : Mod :=
  match m.fetch e word with
  | none => m
  | some v =>
    match tabFind v.ctx.links n with
    | some l =>
      let v := (v.next 1).w d l.value
      m.putView e { v with eng := { v.eng with cyc := max v.eng.cyc l.cyc } } 2 true
    | none => m.putView e { v with eng := { v.eng with st := .wait n } } 0 false

/-- NOP (R152): none. -/
def execNop (e : EngRef) (s : State) : Host.Outcome State Fault Refusal :=
  s.op e (opWord 0x00 0 0 0) 1 fun v => .ok v

/-- MOV (R152): Wd := Ws. -/
def execMov (e : EngRef) (d s1 : Reg) (s : State) : Host.Outcome State Fault Refusal :=
  s.opReg e (opWord 0x01 d s1 0) 1 d fun v => v.r s1

/-- MOVI (R152): Wd := si. -/
def execMovi (e : EngRef) (d : Reg) (i : Imm) (s : State) : Host.Outcome State Fault Refusal :=
  s.opReg e (opWord 0x02 d 0 i) 1 d fun _ => signImm i

/-- LDC (R152): Wd := constant i of the constant pool. -/
def execLdc (e : EngRef) (d : Reg) (i : Imm) (s : State) : Host.Outcome State Fault Refusal :=
  s.opReg e (opWord 0x03 d 0 i) 2 d fun v => v.img.consts.getD i.toNat 0

/-- LD (R152): Wd := F[i]. -/
def execLd (e : EngRef) (d : Reg) (i : Imm) (s : State) : Host.Outcome State Fault Refusal :=
  s.op e (opWord 0x04 d 0 i) 2 fun v => (v.field v.eng.ib i.toNat).map (v.w d)

/-- ST (R152): F[i] := Wd. -/
def execSt (e : EngRef) (d : Reg) (i : Imm) (s : State) : Host.Outcome State Fault Refusal :=
  s.op e (opWord 0x05 d 0 i) 1 fun v => v.store v.eng.ib i.toNat (v.r d)

/-- LDX (R152): Wd := F[i + Ws], the sum unsigned over 64 bits. -/
def execLdx (e : EngRef) (d s1 : Reg) (i : Imm) (s : State) : Host.Outcome State Fault Refusal :=
  s.op e (opWord 0x06 d s1 i) 3 fun v => (v.field v.eng.ib (i.zeroExtend 64 + v.r s1).toNat).map (v.w d)

/-- STX (R152): F[i + Ws] := Wd, the sum unsigned over 64 bits. -/
def execStx (e : EngRef) (d s1 : Reg) (i : Imm) (s : State) : Host.Outcome State Fault Refusal :=
  s.op e (opWord 0x07 d s1 i) 2 fun v => v.store v.eng.ib (i.zeroExtend 64 + v.r s1).toNat (v.r d)

/-- LDR (R146): Wd := word i of the instance at handle Ws. -/
def execLdr (e : EngRef) (d s1 : Reg) (i : Imm) (s : State) : Host.Outcome State Fault Refusal :=
  s.op e (opWord 0x08 d s1 i) 3 fun v => 
    let h := (v.r s1).toNat
    if v.instOk h then (v.field h i.toNat).map (v.w d)
    else .error ⟨xBadInstance, false, some (instAddr h 0)⟩

/-- STR (R146): word i of the instance at handle Ws := Wd. -/
def execStr (e : EngRef) (d s1 : Reg) (i : Imm) (s : State) : Host.Outcome State Fault Refusal :=
  s.op e (opWord 0x09 d s1 i) 2 fun v => 
    let h := (v.r s1).toNat
    if v.instOk h then v.store h i.toNat (v.r d)
    else .error ⟨xBadInstance, true, some (instAddr h 0)⟩

/-- IRD (R149): Wd := image point Ws[31:0]. -/
def execIrd (e : EngRef) (d s1 : Reg) (s : State) : Host.Outcome State Fault Refusal :=
  s.op e (opWord 0x0A d s1 0) 4 fun v => v.readPoint ((v.r s1).extractLsb' 0 32) d

/-- IWR (R148, R149): image point Ws[31:0] := Wd. -/
def execIwr (e : EngRef) (d s1 : Reg) (s : State) : Host.Outcome State Fault Refusal :=
  s.op e (opWord 0x0B d s1 0) 3 fun v => v.writePoint ((v.r s1).extractLsb' 0 32) d

/-- LKR (R151): Wd := link word i; the engine waits while the word is unwritten. -/
def execLkr (e : EngRef) (d : Reg) (i : Imm) (s : State) : Host.Outcome State Fault Refusal :=
  s.does fun m => m.quiet.linkRead e (opWord 0x0C d 0 i) d i.toNat

/-- LKW (R151): link word i := Wd; a second write in one execution raises LINK_TWICE. -/
def execLkw (e : EngRef) (d : Reg) (i : Imm) (s : State) : Host.Outcome State Fault Refusal :=
  s.op e (opWord 0x0D d 0 i) 1 fun v => 
    if (tabFind v.ctx.links i.toNat).isSome then .error (exc xLinkTwice)
    else .ok (v.linkWrite i.toNat (v.r d))

/-- MOVH (R152): Wd := (Wd << 14) OR i. -/
def execMovh (e : EngRef) (d : Reg) (i : Imm) (s : State) : Host.Outcome State Fault Refusal :=
  s.opReg e (opWord 0x0E d 0 i) 1 d fun v => (v.r d <<< 14) ||| i.zeroExtend 64

end Sys2Proof.Machine
end

