-- ==== Sys2Proof/Machine/Update.lean ====
section
/-! DEFINITION. Firmware downloads and activation, the project key, Porch mode (R563-R569, R574, R575, R580-R585, R601). -/
namespace Sys2Proof.Machine

/-! ### Downloads (R565-R569) -/

/-- A download is open (R565). -/
def Update.open_ (u : Update) : Bool := u.dl = .receiving || u.dl = .verifying

/-- The bank that a download goes to: the inactive one, in Porch mode an EMPTY or FAILED one, else the one with the lower
BANK_SEQ (R566, R585). -/
def Update.target (u : Update) : Nat :=
  if !u.porch then (if u.runBank then 0 else 1)
  else
    let spare (k : Nat) : Bool := (u.bank k).st = .empty || (u.bank k).st = .failed
    if spare 0 then 0 else if spare 1 then 1 else if u.bank1.seq < u.bank0.seq then 1 else 0

/-- The bank of the open download. -/
def Update.dlNum (u : Update) : Nat := if u.dlBank then 1 else 0

/-- Refuses a step of a download with its DL_REASON (R566-R568). -/
def Mod.dlReject (m : Mod) (a : Ask) (reason : Nat) : Mod :=
  ({ m with upd := { m.upd with dlReason := reason } }).reject a 0

/-- Ends the open download: its requests that have not ended end with it (R567, R569). -/
def Mod.endDownload (m : Mod) (reason : Nat) (o : Outc) : Mod :=
  let u := m.upd
  let m := { m with upd := { u with dl := .failed, dlReason := reason, dlQueue := [], dlTry := 0, dlKey := none } }
  (u.dlQueue.foldl (fun m q => m.finish q.2 o 0 []) m).finish? u.dlKey o 0 []

/-- FW_OPEN (R565, R566): a header equal to the open one resumes its download. -/
def Mod.runFwOpen (m : Mod) (a : Ask) (h : PkgHdr) : Mod :=
  m.allow a .engineer false { porch := true } fun m =>
    let u := m.upd
    if u.open_ then
      if u.dlPkg = some h then ({ m with upd := { u with dlLast := m.now } }).doneReq a [] else m.rejectFull a
    else
      let r := headerCheck u m.savis.hwRev h
      let r := if r = 0 && !u.porch && decide (u.running.st = BankSt.trial) then 0x0B else r
      if r ≠ 0 then m.dlReject a r
      else
        let k := u.target
        let b : Bank := { u.bank k with st := .writing, tries := 0, fwVer := h.fwVer, svn := h.svn, reason := 0, pkg := some h }
        let u := { u.setBank k b with dl := .receiving, dlReason := 0, dlPkg := some h, dlBank := k == 1, dlDone := []
                                      dlLast := m.now, dlQueue := [], dlTry := 0, dlKey := none }
        ({ m with upd := u }).doneReq a []

/-- FW_BLOCK (R567): a block of the open download, `crc` its CRC-32C; it is written in its turn. -/
def Mod.runFwBlock (m : Mod) (a : Ask) (i : Nat) (crc : W32) : Mod :=
  m.allow a .engineer false { porch := true } fun m =>
    match m.upd.dlPkg with
    | some h =>
      if m.upd.dl ≠ .receiving then m.reject a rsRange
      else
        let m := { m with upd := { m.upd with dlLast := m.now } }
        if h.nblk ≤ i || h.blkCrc[i]? ≠ some crc then
          ({ m with upd := { m.upd with blkRejected := inc32 m.upd.blkRejected } }).dlReject a 8
        else if m.upd.dlDone.contains i then m.doneReq a []
        else { m with upd := { m.upd with dlQueue := m.upd.dlQueue ++ [(i, a.key)] } }
    | none => m.reject a rsRange

/-- FW_BLOCK_WRITTEN (R567): the block in writing was read back; a third difference ends the download. -/
def execFwBlockWritten (t : Nat) (ok : Bool) (s : State) : Host.Outcome State Fault Refusal :=
  s.does fun m =>
    let m := m.start t
    match m.upd.dlQueue with
    | (i, _) :: _ =>
      if ok then
        let (same, rest) := m.upd.dlQueue.partition fun q => q.1 == i
        let m := { m with upd := { m.upd with dlQueue := rest, dlTry := 0, dlDone := m.upd.dlDone ++ [i] } }
        same.foldl (fun m q => m.finish q.2 .done 0 []) m
      else if m.upd.dlTry < 2 then { m with upd := { m.upd with dlTry := m.upd.dlTry + 1 } }
      else
        let k := m.upd.dlNum
        let m := { m with upd := m.upd.setBank k { m.upd.bank k with st := .failed, reason := 9 } }
        m.endDownload 9 .failedTimeout
    | [] => m

/-- Every block of the open download has ended DONE (R568). -/
def Update.complete (u : Update) : Bool :=
  match u.dlPkg with
  | some h => (List.range h.nblk).all fun i => u.dlDone.contains i
  | none => false

/-- FW_SIGN (R568): the signature check begins. -/
def Mod.runFwSign (m : Mod) (a : Ask) : Mod :=
  m.allow a .engineer false { porch := true } fun m =>
    if m.upd.dl = .verifying then m.rejectFull a
    else if m.upd.dl ≠ .receiving then m.reject a rsRange
    else
      let m := { m with upd := { m.upd with dlLast := m.now } }
      if !m.upd.complete then m.dlReject a 7
      else { m with upd := { m.upd with dl := .verifying, dlKey := some a.key } }

/-- FW_SIGN_VERIFIED (R568): whether SIG holds over header and blocks as read back. -/
def execFwSignVerified (t : Nat) (holds : Bool) (s : State) : Host.Outcome State Fault Refusal :=
  s.does fun m =>
    let m := m.start t
    if m.upd.dl ≠ .verifying then m
    else
      let k := m.upd.dlNum
      let b := m.upd.bank k
      let key := m.upd.dlKey
      if holds then
        let u := m.upd.setBank k { b with st := .staged }
        ({ m with upd := { u with dl := .staged, dlKey := none, stagedCount := inc32 u.stagedCount } }).finish? key .done 0 []
      else
        let u := m.upd.setBank k { b with st := .failed, reason := 0x0A }
        ({ m with upd := { u with dl := .failed, dlReason := 0x0A, dlKey := none } }).finish? key .rejectedAccess 0 []

/-- FW_ABANDON (R569). -/
def Mod.runFwAbandon (m : Mod) (a : Ask) : Mod :=
  m.allow a .engineer false { porch := true } fun m =>
    if m.upd.open_ then (m.endDownload 0x0C .rejectedAccess).doneReq a [] else m.reject a rsRange

/-- DL_IDLE_TIMEOUT (R569): no request for 10 min. -/
def execDlIdleTimeout (t : Nat) (s : State) : Host.Outcome State Fault Refusal :=
  s.does fun m =>
    let m := m.start t
    if m.upd.open_ && decide (m.upd.dlLast + 600000000000 ≤ m.now) then m.endDownload 0x0C .failedTimeout else m

/-! ### Activation (R574, R575) -/

/-- The pair feature level and handover format that the partner and the firmware of a bank would agree (R502, R575); 0 both
on an ALONE module (R648). -/
def Mod.expectedLevels (m : Mod) (b : Bank) : Nat × Nat :=
  match m.pair.role, m.hall.partner with
  | .shadow, some p =>
    let (p0, p1, h0, h1) := b.levels
    let g := agreement { m.hello with pflMin := p0, pflMax := p1, hofMin := h0, hofMax := h1 } p
    (g.pfl, g.hof)
  | _, _ => (0, 0)

/-- FW_ACTIVATE (R574, R575, R585): the reply, a TRIAL entry, a Hearth reset. -/
def Mod.runFwActivate (m : Mod) (a : Ask) (bank minPfl : Nat) : Mod :=
  m.allow a .engineer false { porch := true } fun m =>
    let porch := m.upd.porch
    if 1 < bank || 3 < minPfl then m.reject a rsRange
    else if !porch && !m.modeIn [.service] then m.reject a rsMode
    else if !porch && m.pair.role ≠ .shadow && m.pair.role ≠ .alone then m.reject a rsModuleRole
    else if !porch && m.serviceBusy then m.busyReq a
    else
      let b := m.upd.bank bank
      let may := b.st = .staged || (b.st = .good && decide (m.upd.svnFused ≤ b.svn))
      let (pfl, hof) := m.expectedLevels b
      if !may then m.reject a 0
      else if m.pair.role = .shadow && decide (pfl < minPfl) then m.reject a 0
      else
        let m := m.doneReq a ([BitVec.ofNat 8 pfl, BitVec.ofNat 8 hof] ++ padTo 6 [])
        let seq := 1 + max m.upd.bank0.seq m.upd.bank1.seq
        let m := { m with upd := m.upd.setBank bank { b with st := .trial, tries := 0, seq := seq } }
        m.hearthReset (if porch then 6 else 5)

/-! ### The project key (R580-R582, R585) -/

/-- The running image carries a SIGN that holds under a key (R581). -/
def Mod.imageSigned (m : Mod) (pubDigest : Nat) : Bool :=
  match m.prog.image.bind Image.sign with
  | some g => g.pubDigest = pubDigest && g.sigOk
  | none => false

/-- The module has a partner that a CMD reaches (R500). -/
def Mod.cmdPartner (m : Mod) : Bool :=
  m.hall.link = .up && (match m.pair.partner with
    | some .owner | some .shadow | some .joining => true
    | _ => false)

/-- Passes a request to the partner as a CMD (R500, R647); its session field carries the CLIENT_ID (log entry 26). -/
def Mod.passOn (m : Mod) (a : Ask) (method : Nat) (args : List Int) : Mod :=
  let m := { m with savis := { m.savis with cmdOut := m.savis.cmdOut ++ [a.key] } }
  m.hallSend 2 fun h => .mCmd h a.client a.id method args

/-- PROJ_ENROLL (R581): the partner enrols first. -/
def Mod.runProjEnroll (m : Mod) (a : Ask) (pubDigest : Nat) (imageHolds endorsed : Bool) : Mod :=
  m.allow a .engineer true {} fun m =>
    if !m.modeIn [.halt] then m.reject a rsMode
    else if !imageHolds || !m.imageSigned pubDigest || (m.upd.project.isSome && !endorsed) then m.reject a 0
    else if m.pair.role = .owner && m.cmdPartner then
      if m.savis.projPend.isSome then m.rejectFull a
      else ({ m with savis := { m.savis with projPend := some (pubDigest, a.key) } }).passOn a 0x0606 [(pubDigest : Int)]
    else ({ m with upd := { m.upd with project := some pubDigest } }).doneReq a []

/-- PROJ_CLEAR (R585): only in Porch mode entered by the key. -/
def Mod.runProjClear (m : Mod) (a : Ask) : Mod :=
  m.allow a .engineer false { porch := true } fun m =>
    if m.upd.porch && m.upd.porchByKey then ({ m with upd := { m.upd with project := none } }).doneReq a []
    else m.reject a rsModuleRole

/-! ### Resets by command (R585, R601, R647) -/

/-- RESET of Porch mode (R585). -/
def Mod.runPorchReset (m : Mod) (a : Ask) : Mod :=
  m.allow a .engineer false { porch := true } fun m =>
    if m.upd.porch then (m.doneReq a []).hearthReset 6 else m.reject a rsModuleRole

/-- HEARTH_RESET (R601, R647): in any mode on a module in role OUT or in Porch mode, else a module service action. -/
def Mod.runHearthReset (m : Mod) (a : Ask) : Mod :=
  m.allow a .engineer false { porch := true } fun m =>
    if m.upd.porch then (m.doneReq a []).hearthReset 6
    else if m.pair.role = .out then (m.doneReq a []).hearthReset 3
    else if !m.modeIn [.service] then m.reject a rsMode
    else if m.pair.role ≠ .shadow && m.pair.role ≠ .alone then m.reject a rsModuleRole
    else if m.serviceBusy then m.busyReq a
    else (m.doneReq a []).hearthReset 3

end Sys2Proof.Machine
end

