-- ==== Sys2Proof/Machine/Objects.lean ====
section
/-! DEFINITION. The status objects as the Savis link reads them, byte by byte (R30-R34, R644, R645, and the object
tables of each chapter). -/
namespace Sys2Proof.Machine

/-- Words, little-endian (R11). -/
def words (l : List Nat) : List Byte := l.flatMap fun w => leBytes w 4

/-- A signed value, saturating at 32 bits. -/
def sat32 (x : Int) : Nat := u32 (satInt 32 x)

/-- A place header (R31) and the words that follow it. -/
def objBytes (pl : W32 × W32 × W32 × W32) (l : List Nat) : List Byte :=
  words ([pl.1.toNat, pl.2.1.toNat, pl.2.2.1.toNat, pl.2.2.2.toNat] ++ l)

/-- The low and high words of a 64-bit value. -/
def lohi (n : Nat) : List Nat := [n % 2 ^ 32, n / 2 ^ 32]

/-- The place of a segment's port (R30). -/
def Mod.placeSeg (m : Mod) (p : Nat) : W32 × W32 × W32 × W32 := (placeD m.domain 2 p 0 0, placeM 2 m.side 3 7, 0, 0)

/-- A value of the running image, 0 without one. -/
def Mod.img (m : Mod) (f : Image → Nat) : Nat := match m.prog.image with | some i => f i | none => 0

/-! ### Module and sessions (R653-R657) -/

/-- The own address of an engineering port in force (R628). -/
def Mod.ownIp (m : Mod) (eng2 : Bool) : Nat :=
  let held := if eng2 then m.savis.net.own2 else m.savis.net.own1
  if held = 0 then 0xA9FE3014 + (if eng2 then 0x100 else 0) + m.side else held

/-- The module answers on the pair service address of a port (R629). -/
def Mod.answersPsa (m : Mod) (eng2 : Bool) : Bool := m.controls && decide (m.psaIp eng2 ≠ 0)

/-- Both modules are in service and the shadow is READY: PAIR.ROLE.REDUNDANT (R491). -/
def Mod.redundantReady (m : Mod) : Bool :=
  m.redundant && (if m.pair.role = .shadow then m.pair.ready else m.pair.partnerReady)

/-- MODULE (R653-R655). -/
def Mod.objModule (m : Mod) : List Byte :=
  let s := m.savis
  objBytes m.placeMod ([s.hwRev * 2 ^ 16 + s.order * 2 ^ 8 + m.side * 2 ^ 7] ++ lohi s.serial ++ [s.fwVer,
    m.pair.role.code * 2 ^ 29 + bit m.upd.porch * 2 ^ 28 + bit m.newel.failed * 2 ^ 27 + bit m.redundantReady * 2 ^ 26
      + m.prog.pairKey.code * 2 ^ 24 + bit s.eng1 * 2 ^ 23 + bit s.eng2 * 2 ^ 22
      + bit (m.answersPsa false || m.answersPsa true) * 2 ^ 21 + bit s.anchors.isEmpty * 2 ^ 20,
    m.ownIp false, m.ownIp true, s.net.psa1, s.net.psa2, s.net.tcp])

/-- The subscriptions of the module. -/
def Savis.subs (s : Savis) : Nat := s.sess.foldl (fun n p => n + p.2.subs.length) 0

/-- SAVIS (R656). -/
def Mod.objSavis (m : Mod) : List Byte :=
  let s := m.savis
  objBytes m.placeMod [s.sess.length * 2 ^ 28 + s.subs * 2 ^ 20, s.opens, s.tlsFails, s.requests, s.refused, s.rejected,
    (s.reqs.filter fun r => r.outcome.isSome).length, s.skipped]

/-- SAVIS.SESSION (R657). -/
def Mod.objSession (m : Mod) (k : Nat) : List Byte :=
  match tabFind m.savis.sess k with
  | none => objBytes m.placeMod [0, 0, 0, 0]
  | some x =>
    let queued := (m.ownReqs.filter fun r => r.session = k && r.client = x.client).length
    objBytes m.placeMod [2 ^ 31 + x.role.code * 2 ^ 29 + x.ver * 2 ^ 26 + bit x.eng2 * 2 ^ 25 + bit x.psa * 2 ^ 24
      + queued * 2 ^ 18 + x.subs.length * 2 ^ 13, x.client, x.openTick, 0]

/-! ### Timing, lanes, program (R74-R78, R126-R130, R175, R176, R211-R214) -/

/-- SCHED (R74-R76). -/
def Mod.objSched (m : Mod) : List Byte :=
  let ovr := (List.range 5).foldl (fun n c => n + bit (m.run c).ovr * 2 ^ c) 0
  objBytes m.placeMod (lohi m.sched.tick ++ [m.img fun i => i.tickCode * 2 ^ 24 + i.delta * 2 ^ 13 + i.proof.buildPt,
    bit m.power.sag * 2 ^ 31 + bit (decide (0 < ovr)) * 2 ^ 30 + ovr * 2 ^ 16, m.sched.sagEvents, m.sched.lateDropped])

/-- SCHED.CLASS (R77, R78). -/
def Mod.objClass (m : Mod) (c : Nat) : List Byte :=
  let r := m.run c
  let en : Bool := c = 0 || (match m.prog.image with | some i => (i.cls c).en | none => false)
  let k := if c = 0 then 1 else if c = 5 then 0 else m.img fun i => (i.cls c).k
  let budget := m.img fun i => if c = 0 then i.proof.cM else if c = 5 then 0 else i.proof.cF.getD (c - 1) 0
  objBytes (m.placeCls c) [bit en * 2 ^ 31 + k, budget, r.last, r.max, r.releases, if c = 5 then 0 else r.overruns,
    if c = 5 then 0 else r.skipped, r.lastRel]

/-- LANE (R126, R127); the enumerations stand in the order of their codes. -/
def Mod.objLane (m : Mod) (k : Nat) : List Byte :=
  let x : LaneId := match k with | 0 => .A | 1 => .B | _ => .C
  let l := m.lane x
  let needs := (l.moments.filter fun t => decide (m.ltNs < t + dayNs)).length
  let st := l.mode.ctorIdx * 2 ^ 28 + l.cause.code * 2 ^ 24 + l.phase.ctorIdx * 2 ^ 20 + min needs 3 * 2 ^ 18 + l.donor.num * 2 ^ 16
    + bit l.power * 2 ^ 15 + bit l.bistOk * 2 ^ 14
  objBytes (m.placeLane x) [st, l.resyncs, l.upsets, l.resyncUs, l.drCorr, l.memCorr, l.poisoned, l.copiedKib, l.outTick,
    0, 0, 0]

/-- NEWEL (R128-R130); a checkpoint is in flight from the end of its execution in a lane to its vote. -/
def Mod.objNewel (m : Mod) : List Byte :=
  let n := m.newel
  let ins (x : LaneId) : Nat := bit (m.lane x).inService
  let mode := match m.serving.length with | 2 => 2 | 3 => 3 | _ => 0
  let flight := (List.range 14).filter fun c => (m.run c).running && !(m.endedLanes c).isEmpty
  objBytes m.placeMod [mode * 2 ^ 30 + ins .A * 2 ^ 29 + ins .B * 2 ^ 28 + ins .C * 2 ^ 27 + bit n.failed * 2 ^ 26
    + bit m.test.halted * 2 ^ 25 + bit (decide (m.now < n.katBusy)) * 2 ^ 24 + min flight.length 4 * 2 ^ 8,
    n.counts, n.unanimous, n.majority, n.resamples, n.katRuns, n.mismatch, n.failWord]

/-- ENGINE (R175, R176). -/
def Mod.objEngine (m : Mod) : List Byte :=
  let p := m.prog
  objBytes m.placeMod [p.excCount, p.excCode * 2 ^ 16 + p.excEng * 2 ^ 12 + p.excCls * 2 ^ 9, p.excInst, p.excTick]

/-- PROGRAM (R211-R214); the first 4 bytes of a digest are its low ones (log entry 13). -/
def Mod.objProgram (m : Mod) : List Byte :=
  let p := m.prog
  let keys := p.ownKey.code * 2 ^ 30 + m.pair.partnerKey.code * 2 ^ 28 + bit m.partnerKeyed * 2 ^ 27 + p.pairKey.code * 2 ^ 25
    + bit m.serviceOk * 2 ^ 24
  objBytes m.placeMod ([p.run.ctorIdx * 2 ^ 28 + p.restart * 2 ^ 26 + p.by_ * 2 ^ 24 + p.coldWhy * 2 ^ 21
      + bit p.mapped * 2 ^ 20 + m.img (fun i => i.fmt) * 2 ^ 18,
    keys, p.chgState.ctorIdx * 2 ^ 28 + p.chgReason * 2 ^ 20 + p.chgField] ++ lohi m.generation
    ++ [m.digest, p.chgTick, p.chgInst, p.changes, p.evQueued, p.evLost, p.evUnhandled])

/-! ### Access units (R238-R242) -/

/-- ACCESS (R238-R240). -/
def Mod.objAccess (m : Mod) : List Byte :=
  let a := m.access
  objBytes m.placeMod [bit a.bank * 2 ^ 31 + bit a.sealed * 2 ^ 30 + bit (!a.tableErr.isEmpty) * 2 ^ 29, a.viol.toNat,
    a.violAddr, a.violTick, a.violInst, a.violCount, a.swaps]

/-- The active permissions of a user class at a slot, ANDed over its masters (R241). -/
def Mod.classPerm (m : Mod) (cls slot : Nat) : Nat :=
  ((List.range 0x3C).foldl (fun p n => if masterClass n = cls then p &&& m.permission n slot else p) 0b111#3).toNat

/-- ACCESS.SLOT (R241). -/
def Mod.objSlot (m : Mod) (s : Nat) : List Byte :=
  objBytes m.placeMod [0, (List.range 8).foldl (fun v c => v + m.classPerm c s * 2 ^ (3 * c)) 0, 0, 0]

/-- ACCESS.PRIV (R242). -/
def Mod.objPriv (m : Mod) (p : Nat) : List Byte :=
  objBytes m.placeMod ((List.range 16).flatMap fun r =>
    let g := tabGet m.access.active.regions {} (16 * p + r)
    [g.start, g.stop, bit g.en * 2 ^ 31 + g.rwx.toNat * 2 ^ 28, 0])

/-! ### Pantry, stations, ports (R274-R277, R319-R323) -/

/-- PANTRY (R274, R275); a module that follows takes its generations from the owner. -/
def Mod.objPantry (m : Mod) : List Byte :=
  let p := m.pantry
  let high := (List.range 4).foldl (fun n k => n + bit (decide (448 ≤ (m.port k).ring.length)) * 2 ^ k) 0
  objBytes m.placeMod [m.sched.tick % 3 * 2 ^ 30 + bit p.lastBuild * 2 ^ 29 + bit m.follows * 2 ^ 28 + high * 2 ^ 24,
    m.substNow.length, (m.stations.filter fun r => (m.stn r.station).dropped).length, p.misses, p.lateIn, p.duplicates,
    p.rxFull, p.replayMax]

/-- IMGSTN (R276, R277). -/
def Mod.objImgstn (m : Mod) (k : Nat) : List Byte :=
  let s := m.stn k
  let cfg := match m.stnRec k with
    | some r => r.mode.ctorIdx * 2 ^ 30 + 2 ^ 27 + r.ks * 2 ^ 18 + r.limit * 2 ^ 10
    | none => 0
  objBytes (m.placeStn k) [cfg + bit s.subst * 2 ^ 29 + bit s.dropped * 2 ^ 28, s.missRun, s.goodRun, s.lastTick]

/-- SEGPORT (R319, R320). -/
def Mod.objSegport (m : Mod) (p : Nat) : List Byte :=
  let x := m.port p
  let rate : Bool := match m.prog.image with | some i => i.portRate.getD p false | none => false
  let stns := m.pantry.stns.filter fun s => s.1 / 512 = p
  let run := (stns.filter fun s => s.2.state = .run).length
  objBytes (m.placeSeg p) [bit x.link * 2 ^ 31 + bit rate * 2 ^ 30 + (m.portRole p).ctorIdx * 2 ^ 28
    + bit (stns.any fun s => s.2.path = .relay) * 2 ^ 27 + bit (x.txq.any fun e => e.2.relay) * 2 ^ 26 + run * 2 ^ 16
    + x.lastRej * 2 ^ 12, x.txFrames, x.rxFrames, x.fcsErr, x.rejected, x.e2eErr, x.relayed, x.lateDropped]

/-- STATION (R321, R322). -/
def Mod.objStation (m : Mod) (k : Nat) : List Byte :=
  let s := m.stn k
  objBytes (m.placeStn k) [s.state.ctorIdx * 2 ^ 28 + s.ver * 2 ^ 26 + bit s.relayed * 2 ^ 25 + s.reported % 4 * 2 ^ 23
    + min s.items.length 8 * 2 ^ 19 + bit s.flight.isSome * 2 ^ 18 + s.reason % 256 * 2 ^ 8, s.hops0 * 2 ^ 16 + s.hops1,
    s.devType, s.cycSeq, s.notAcked, s.acyDone, s.acyFailed, s.starts]

/-- PEER (R323). -/
def Mod.objPeer (m : Mod) (d : Nat) : List Byte :=
  let x := tabGet m.pantry.peers Peer.zero d
  objBytes (placeD d 1 0 0 0, placeM 2 m.side 3 7, 0, 0) [bit x.valid * 2 ^ 31 + min x.age (2 ^ 31 - 1), x.tick, 0, 0]

/-! ### Line Shaft Unit and reflex plane (R361-R363, R380, R381) -/

/-- The voted copy of the LSU: that of the leading lane. -/
def Mod.lsu (m : Mod) : Lsu := match m.leading with | some x => (m.lane x).lsu | none => Lsu.zero

/-- LSU (R361, R362). -/
def Mod.objLsu (m : Mod) : List Byte :=
  let l := m.lsu
  let axis (f : AxisCfg → Nat) : Nat := m.img fun i => match i.axis with | some c => f c | none => 0
  objBytes m.placeMod [bit l.runs * 2 ^ 31 + bit l.haltRamp * 2 ^ 30 + bit m.test.halted * 2 ^ 29
      + axis (fun c => c.axes.length) * 2 ^ 16 + axis (fun c => c.cmps.length),
    (l.axes.filter fun x => x.2.engaged).length, l.refused, l.feEvents, l.regAcc, l.regRej, m.reflex.cmpEdges,
    m.reflex.cmpLate, l.merged, l.skips]

/-- MASTER (R363): the entry of the master table of the last LSU vote, and HOFS. -/
def Mod.objMaster (m : Mod) (k : Nat) : List Byte :=
  let pl := match m.prog.image with | some i => (m.axisPlace i (.master k)).1 | none => m.placeMod
  let tab := if m.pantry.mtLast then m.pantry.mt1 else m.pantry.mt0
  let hofs : Int := match tabFind m.lsu.masters k with | some x => x.hofs | none => 0
  objBytes pl [] ++ memRead tab (32 * k) 24 ++ words [sat32 (fdiv hofs (2 ^ 16)), 0]

/-- REFLEX (R380, R381). -/
def Mod.objReflex (m : Mod) : List Byte :=
  let r := m.reflexNow.reflex
  let used := match r.table with
    | some t => (List.range 16).foldl (fun n o => n + bit (decide ((t.outmap.getD o (0xFF, false)).1 ≠ 0xFF)) * 2 ^ o) 0
    | none => 0
  objBytes m.placeMod ([bit m.gate * 2 ^ 31 + bit r.table.isSome * 2 ^ 30 + bit r.copyDiff * 2 ^ 29 + used,
    r.pinsOut.toNat * 2 ^ 16 + r.pinsIn.toNat] ++ lohi r.cells.toNat ++ lohi r.arm.toNat ++ [r.mismatch, r.capLost, r.capStamps])

/-! ### Loops, converter, windows (R409-R415) -/

/-- LOOP (R409-R411). -/
def Mod.objLoop (m : Mod) (c : Nat) : List Byte :=
  let l := m.loop c
  let g := m.chan c
  let cfg := match m.ana with
    | some _ => g.mode.ctorIdx * 2 ^ 30 + g.devN * 2 ^ 22 + g.neFilt * 2 ^ 12 + g.devUa
    | none => 0
  objBytes m.placeMod [cfg, m.loopStatus c, u32 l.cmdNa, u32 l.measNa, u32 l.rbNa,
    if g.mode = .output then u32 l.headroom else 0, u32 l.zeroTrim, u32 l.spanTrim, l.devEvents, l.complEvents, l.rbErrors, 0]

/-- The converter slots of a tick (R402). -/
def convSlots (tickNs : Nat) : Nat := (tickNs - 1000) / 500

/-- The slots per tick left after the reserve (R402). -/
def Mod.convFree (m : Mod) : Nat :=
  match m.ana with
  | some a => convSlots m.tickNs - a.entries.foldl (fun n e => n + 2 ^ e.2) 0 - 2 * a.urgMax - 4
  | none => 0

/-- CONV (R412, R413): passes run every tick while the program ticks, the front end is on and the sequence has an entry. The
age of a calibration that never ran is open (log entry 8). -/
def Mod.objConv (m : Mod) : List Byte :=
  let c := m.conv
  let nseq := match m.ana with | some a => a.entries.length | none => 0
  let age := if c.calRuns = 0 then Config.freeNat m.free else (m.ltNs - c.lastCal) / 1000000
  objBytes m.placeMod ([bit (m.sched.running && m.afeOn && decide (0 < nseq)) * 2 ^ 31 + bit c.calBusy * 2 ^ 30
      + bit c.calValid * 2 ^ 29 + bit c.calStarved * 2 ^ 28 + nseq * 2 ^ 22
      + (match m.ana with | some a => a.urgMax | none => 0) * 2 ^ 18 + min c.urgPend.length 32 * 2 ^ 10 + m.convFree,
    c.passes, c.urgents, c.urgAborts, c.calRuns, c.calRestarts, min age 0xFFFFFFFF, 0]
    ++ (List.range 32).map fun e => (tabGet c.results 0 e).toNat)

/-- WIN (R414, R415). -/
def Mod.objWin (m : Mod) (w : Nat) : List Byte :=
  let x := tabGet m.wins ⟨.unknown, 0⟩ w
  let cfg := match m.ana.bind fun a => a.wins[w]? with
    | some g => [bit g.en * 2 ^ 31 + bit g.ret * 2 ^ 30 + g.entry * 2 ^ 25, u32 g.low, u32 g.high, g.hyst]
    | none => [0, 0, 0, 0]
  objBytes m.placeMod (cfg ++ [x.state.code * 2 ^ 28, x.events, 0, 0])

/-! ### Time, pair, Hallway (R441-R446, R490-R493, R520-R522) -/

/-- TIME (R441-R444): line and calendar time of one instant. -/
def Mod.objTime (m : Mod) : List Byte :=
  let t := m.time
  let l := timeVal m.lt
  let c := timeVal m.cal
  let cfg := match m.timeRec with
    | some r => bit r.follower * 2 ^ 31 + r.extSrc.ctorIdx * 2 ^ 29 + r.ltPtpDom * 2 ^ 22 + r.xPtpDom * 2 ^ 15 + r.ltWaitS * 2 ^ 5
    | none => 0
  objBytes m.placeMod ([m.timeStatus, cfg, match m.timeRec with | some r => r.jumpLimUs | none => 0] ++ lohi l.sec ++ [l.ns]
    ++ lohi c.sec ++ [c.ns, u32 t.line.rate, u32 t.cal.rate, sat32 t.ltOffset, sat32 t.calOffset,
      bit t.utcValid * 2 ^ 31 + u32 t.utcOffset % 2 ^ 16, t.refChanges, t.refLosses, t.jumpsRefused, t.resteps])

/-- PORTTIME (R445, R446); the instances that run on the port are those of R431. -/
def Mod.objPorttime (m : Mod) (p : Nat) : List Byte :=
  let x := tabGet m.time.ports PortTime.zero p
  let peer := m.portRole p = .peer
  let ext : Bool := match m.timeRec with | some r => r.extSrc = .peer | none => false
  let st := bit x.opticOk * 2 ^ 31 + bit x.loopOk * 2 ^ 30 + bit (m.controls && m.portRole p = .segment) * 2 ^ 29
    + bit (m.controls && peer) * 2 ^ 28 + bit (m.controls && peer && ext) * 2 ^ 27
    + bit (x.txTrim ≠ 0 || x.rxTrim ≠ 0) * 2 ^ 26
  objBytes (if m.portRole p = .segment then m.placeSeg p else m.placeMod)
    [st, u32 (x.txLat + x.txTrim), u32 (x.rxLat + x.rxTrim), u32 x.txTrim, u32 x.rxTrim, x.syncTx, x.syncRx, x.delayRx]

/-- PAIR (R490-R493). -/
def Mod.objPair (m : Mod) : List Byte :=
  let p := m.pair
  let b := m.bolt
  let partner := match p.partner with | some r => r.code | none => 7
  let role := p.role.code * 2 ^ 29 + partner * 2 ^ 26 + m.side * 2 ^ 25 + bit (p.role = .shadow && p.ready) * 2 ^ 24
    + bit m.redundantReady * 2 ^ 23 + p.pfl * 2 ^ 21 + bit (m.hall.link = .up) * 2 ^ 20 + p.plan.st.ctorIdx * 2 ^ 16
  let bolt := bit b.ownSelf * 2 ^ 31 + bit b.ownPartner * 2 ^ 30 + bit b.liveSelf * 2 ^ 29 + bit b.livePartner * 2 ^ 28
    + bit m.gate * 2 ^ 27 + bit (!b.ownSelf && b.ownPartner) * 2 ^ 26 + bit b.armed * 2 ^ 25 + bit b.bistLatch * 2 ^ 24
    + bit b.ownStuck * 2 ^ 23 + bit b.contention * 2 ^ 22 + bit b.wdExpired * 2 ^ 21
  objBytes m.placeMod [role, bolt, p.epoch.toNat, p.lastFrom * 2 ^ 28 + p.lastTo * 2 ^ 24 + p.lastCause * 2 ^ 16,
    p.changeTick, p.takeovers, p.planned, p.joins, p.gapNs, p.reissued, p.itemsFailed, p.lateSw]

/-- HALL (R520-R522). -/
def Mod.objHall (m : Mod) : List Byte :=
  let h := m.hall
  objBytes m.placeMod [h.link.ctorIdx * 2 ^ 29 + bit h.hl0 * 2 ^ 28 + bit h.hl1 * 2 ^ 27 + h.pflNow * 2 ^ 25
      + h.hofNow * 2 ^ 23 + h.result * 2 ^ 20,
    h.join.ctorIdx * 2 ^ 28 + bit h.sender * 2 ^ 27 + h.last * 2 ^ 24 + min h.marked 4095, h.txMsgs, h.rxMsgs, h.replays,
    h.chkErr, h.linkDowns, h.joinPages, h.joinUs, h.partnerFw, h.partnerHw * 2 ^ 16 + h.partnerOrder * 2 ^ 8, 0]

/-! ### Card, Attic, firmware, power, self-test (R554-R557, R586-R589, R605-R607, R623-R626) -/

/-- CARD (R554, R555). -/
def Mod.objCard (m : Mod) : List Byte :=
  let c := m.card
  let (kib, mib) := match c.card with | some x => (journalBytes x / 1024, x.capacityMib) | none => (0, 0)
  objBytes m.placeMod [bit c.card.isSome * 2 ^ 31 + bit c.locked * 2 ^ 30 + bit m.cardWritable * 2 ^ 29
    + bit c.comp.isSome * 2 ^ 28 + c.layout * 2 ^ 26 + c.read.ctorIdx * 2 ^ 22 + bit c.base * 2 ^ 21
    + bit c.rewriteDue * 2 ^ 20, m.sbGen, kib, mib, c.appends, c.retries, c.compactions, 0]

/-- ATTIC (R556, R557). -/
def Mod.objAttic (m : Mod) : List Byte :=
  let a := m.attic
  let gen := match a.header with | some (h, _) => h.aGen | none => 0
  objBytes m.placeMod [a.state.ctorIdx * 2 ^ 30 + bit a.fault * 2 ^ 29 + bit a.found.isSome * 2 ^ 28 + bit a.mapped * 2 ^ 27,
    gen, a.commitTick, a.commits, a.retWords, a.corrected, a.lagUs, 0]

/-- UPDATE.BANK0 and BANK1 (R589). -/
def Bank.word (b : Bank) : Nat :=
  b.st.ctorIdx * 2 ^ 28 + b.tries * 2 ^ 26 + b.svn * 2 ^ 17 + b.reason * 2 ^ 12 + b.seq % 2 ^ 12

/-- UPDATE (R586-R589). -/
def Mod.objUpdate (m : Mod) : List Byte :=
  let u := m.upd
  let nblk := match u.dlPkg with | some h => h.nblk | none => 0
  objBytes m.placeMod [bit u.runBank * 2 ^ 31 + bit u.fallback * 2 ^ 30 + u.dl.ctorIdx * 2 ^ 27 + u.dlReason * 2 ^ 22
    + bit (u.running.st = .trial) * 2 ^ 21, u.security, u.bank0.word, u.bank0.fwVer, u.bank1.word, u.bank1.fwVer,
    nblk * 2 ^ 16 + u.dlDone.length, u.blkRejected, u.stagedCount]

/-- POWER (R605-R607). -/
def Mod.objPower (m : Mod) : List Byte :=
  let p := m.power
  objBytes m.placeMod [bit (decide (18000 ≤ p.feed1)) * 2 ^ 31 + bit (decide (18000 ≤ p.feed2)) * 2 ^ 30 + bit p.sag * 2 ^ 29
      + bit p.l1Lost * 2 ^ 28 + bit p.railLow * 2 ^ 27,
    p.tripped.toNat * 2 ^ 16 + p.on.toNat, p.resetCause * 2 ^ 28, p.feed1, p.feed2,
    min ((m.now - p.startedAt) / 1000000000) 0xFFFFFFFF, p.feedDrops, p.trips]

/-- SELFTEST (R623-R626). -/
def Mod.objSelftest (m : Mod) : List Byte :=
  let t := m.test
  let pub := match t.bist with
    | some r =>
      let b (l : List Bool) (k : Nat) : Nat := bit (l.getD k false)
      2 ^ 31 + bit t.bistPass * 2 ^ 30 + b r.lbist 0 * 2 ^ 29 + b r.lbist 1 * 2 ^ 28 + b r.lbist 2 * 2 ^ 27
        + b r.mbist 0 * 2 ^ 26 + b r.mbist 1 * 2 ^ 25 + b r.mbist 2 * 2 ^ 24 + bit r.voteL * 2 ^ 23 + bit r.pantryL * 2 ^ 22
        + bit r.pantryM * 2 ^ 21 + bit r.rulesM * 2 ^ 20 + r.ms % 256
    | none => 0
  objBytes m.placeMod [pub, t.rot.ctorIdx * 2 ^ 28 + t.rotLane.num * 2 ^ 26 + bit t.rotAll * 2 ^ 25,
    bit t.dbgOpen.isSome * 2 ^ 31 + bit t.halted * 2 ^ 30 + bit t.clockReal * 2 ^ 29 + t.breaks.length * 2 ^ 25,
    t.rotRuns, t.rotFails, t.rotMs, t.reqDelayed, t.reqBusy, t.portTests]

/-! ### Objects by number (R644) -/

/-- The elements of a status object and their size in bytes: the stride of an array, or the end of the last field. -/
def objShape : Nat → Option (Nat × Nat)
  | 0x01 => some (1, 0x38) | 0x02 => some (1, 0x30) | 0x03 => some (8, 0x20)
  | 0x10 => some (1, 0x28) | 0x11 => some (6, 0x30) | 0x12 => some (3, 0x40) | 0x13 => some (1, 0x30)
  | 0x14 => some (1, 0x20) | 0x15 => some (1, 0x40)
  | 0x18 => some (1, 0x2C) | 0x19 => some (25, 0x20) | 0x1A => some (6, 0x110)
  | 0x20 => some (1, 0x30) | 0x21 => some (2048, 0x20) | 0x22 => some (4, 0x30) | 0x23 => some (2048, 0x30)
  | 0x24 => some (8, 0x20)
  | 0x28 => some (1, 0x38) | 0x29 => some (32, 0x30) | 0x2A => some (1, 0x34) | 0x2B => some (8, 0x40)
  | 0x2C => some (1, 0xB0) | 0x2D => some (8, 0x30)
  | 0x30 => some (1, 0x58) | 0x31 => some (4, 0x30) | 0x32 => some (1, 0x40) | 0x33 => some (1, 0x40)
  | 0x38 => some (1, 0x30) | 0x39 => some (1, 0x30) | 0x3A => some (1, 0x34) | 0x3B => some (1, 0x30)
  | 0x3C => some (1, 0x34)
  | _ => none

/-- The bytes of element `k` of a status object. -/
def Mod.element (m : Mod) (obj k : Nat) : List Byte :=
  match obj with
  | 0x01 => m.objModule | 0x02 => m.objSavis | 0x03 => m.objSession k
  | 0x10 => m.objSched | 0x11 => m.objClass k | 0x12 => m.objLane k | 0x13 => m.objNewel
  | 0x14 => m.objEngine | 0x15 => m.objProgram
  | 0x18 => m.objAccess | 0x19 => m.objSlot k | 0x1A => m.objPriv k
  | 0x20 => m.objPantry | 0x21 => m.objImgstn k | 0x22 => m.objSegport k | 0x23 => m.objStation k
  | 0x24 => m.objPeer k
  | 0x28 => m.objLsu | 0x29 => m.objMaster k | 0x2A => m.objReflex | 0x2B => m.objLoop k
  | 0x2C => m.objConv | 0x2D => m.objWin k
  | 0x30 => m.objTime | 0x31 => m.objPorttime k | 0x32 => m.objPair | 0x33 => m.objHall
  | 0x38 => m.objCard | 0x39 => m.objAttic | 0x3A => m.objUpdate | 0x3B => m.objPower
  | 0x3C => m.objSelftest
  | _ => []

/-- The image area of an object number, and whether it holds outputs (R644, R645). -/
def objImage : Nat → Option (Area × Bool)
  | 0xF0 => some (.imgIn, false) | 0xF1 => some (.imgOut, true) | 0xF2 => some (.axIn, false) | 0xF3 => some (.axOut, true)
  | _ => none

/-- The images that Savis reads: the previous generation, and the outputs of the last completed build (R645). -/
def Mod.readImage (m : Mod) (out : Bool) : Areas :=
  if out then (if m.pantry.lastBuild then m.pantry.out1 else m.pantry.out0) else m.previous

/-- The bytes of a READ body, or the reason that refuses it (R645). -/
def Mod.readBody (m : Mod) (b : ReadBody) : Except Nat (List Byte) :=
  match objShape b.obj, objImage b.obj with
  | some (n, size), _ =>
    if b.count = 0 || n < b.first + b.count || b.ofs % 4 ≠ 0 || b.len % 4 ≠ 0 || size < b.ofs + b.len || 32768 < b.count * b.len then
      .error rsRange
    else .ok ((List.range b.count).flatMap fun k => ((m.element b.obj (b.first + k)).drop b.ofs).take b.len)
  | none, some (a, out) =>
    if b.count ≠ 0 || b.ofs ≠ 0 || 32768 < b.len || areaSize a < b.first + b.len then .error rsRange
    else .ok (memRead ((m.readImage out).get a) b.first b.len)
  | none, none => .error rsUnknown

end Sys2Proof.Machine
end

