-- ==== Sys2Proof/Machine/Requests.lean ====
section
/-! DEFINITION. Requests of the Savis link: reads and writes, subscriptions, station items, block images, restarts and the
planned switchover (R189, R190, R194, R195, R236, R308-R310, R477, R585, R642-R651). -/
namespace Sys2Proof.Machine

/-! ### Reads and writes (R236, R585, R645, R646) -/

/-- READ (R645). -/
def Mod.runRead (m : Mod) (a : Ask) (b : ReadBody) : Mod :=
  m.allow a .viewer false { noAnchor := true } fun m =>
    match m.readBody b with
    | .ok bs => m.doneReq a bs
    | .error r => m.reject a r

/-- The bytes of several READ bodies, one after the other. -/
def Mod.readAll (m : Mod) : List ReadBody → Except Nat (List Byte)
  | [] => .ok []
  | b :: bs =>
    match m.readBody b, m.readAll bs with
    | .ok x, .ok y => .ok (x ++ y)
    | .error r, _ => .error r
    | _, .error r => .error r

/-- READ_MULTI (R645): at most 16 bodies and 32 KiB. -/
def Mod.runReadMulti (m : Mod) (a : Ask) (bs : List ReadBody) : Mod :=
  m.allow a .viewer false {} fun m =>
    if 16 < bs.length then m.reject a rsRange
    else
      match m.readAll bs with
      | .ok x => if 32768 < x.length then m.reject a rsRange else m.doneReq a x
      | .error r => m.reject a r

/-- A write of ACCESS.VIOL (R236, R240): a 1 in VALID clears the capture and the counter. -/
def Mod.writeViol (m : Mod) (value : W32) : Mod :=
  if value.getLsbD 31 then
    { m with access := { m.access with viol := 0, violAddr := 0, violTick := 0, violInst := 0, violCount := 0 } }
  else m

/-- VIOL_VALID_CLEAR (R236): in every pair mode. -/
def Mod.runViolValidClear (m : Mod) (a : Ask) (value : W32) : Mod :=
  m.allow a .engineer false {} fun m => (m.writeViol value).doneReq a []

/-- WRITE (R646): the one field that may be written is ACCESS.VIOL.VALID. -/
def Mod.runWrite (m : Mod) (a : Ask) (obj first ofs : Nat) (value : W32) : Mod :=
  m.allow a .engineer false {} fun m =>
    if obj = 0x18 && first = 0 && ofs = 0x14 then (m.writeViol value).doneReq a []
    else
      match objShape obj, objImage obj with
      | some (n, size), _ => m.reject a (if n ≤ first || ofs % 4 ≠ 0 || size < ofs + 4 then rsRange else rsReadOnly)
      | none, some _ => m.reject a rsReadOnly
      | none, none => m.reject a rsUnknown

/-- STATUS (R585): the UPDATE object, in Porch mode alone. -/
def Mod.runStatus (m : Mod) (a : Ask) : Mod :=
  m.allow a .viewer false { porch := true } fun m =>
    if m.upd.porch then m.doneReq a m.objUpdate else m.reject a rsModuleRole

/-! ### Outcomes (R642) -/

/-- Takes a request that has not ended out of the queue without an outcome of its own. -/
def Mod.dropReq (m : Mod) (key : Nat × Nat) : Mod :=
  { m with savis := { m.savis with reqs := m.savis.reqs.filter fun r =>
      !(r.client = key.1 && r.id = key.2 && r.outcome.isNone) } }

/-- What OUTCOME tells of a request id of a client: code, reason and data; 0xFF for an unknown one or one that ended 60 s ago. -/
def Mod.outcomeOf (m : Mod) (client id : Nat) : Nat × Nat × List Byte :=
  match m.savis.reqs.find? fun r => r.client = client && r.id = id && r.held m.now with
  | some r =>
    match r.outcome with
    | some o => (o.code, r.reason, r.data)
    | none => (1, 0, [])
  | none => (0xFF, 0, [])

/-- OUTCOME (R642): its reply carries the state of the request it names, and it leaves no outcome of its own. -/
def Mod.runOutcome (m : Mod) (a : Ask) (id : Nat) : Mod :=
  m.allow a .viewer false { noAnchor := true } fun m =>
    match m.openReq a.key with
    | some r =>
      let m := m.dropReq a.key
      let (code, reason, data) := m.outcomeOf a.client id
      if m.sessOpen r then m.reply r.session r.id code reason 0 true data else m
    | none => m

/-! ### Subscriptions (R650, R651) -/

/-- SUBSCRIBE (R650). -/
def Mod.runSubscribe (m : Mod) (a : Ask) (no : Nat) (b : ReadBody) (change : Bool) (periodMs : Nat) : Mod :=
  m.allow a .viewer false {} fun m =>
    match m.readBody b with
    | .error r => m.reject a r
    | .ok bs =>
      if 16 ≤ no || 1024 < bs.length || (!change && (periodMs < 10 || 60000 < periodMs)) then m.reject a rsRange
      else
        match tabFind m.savis.sess a.session with
        | none => m.doneReq a []
        | some x =>
          if (tabFind x.subs no).isNone && decide (64 ≤ m.savis.subs) then m.rejectFull a
          else
            let ms := if change then 10 else periodMs
            let sub : Sub := { reqId := a.id, body := b, change := change, period := ms, due := m.now + ms * 1000000, last := bs }
            (m.setSess a.session fun y => { y with subs := tabSet y.subs no sub }).doneReq a []

/-! ### Station items (R308-R310, R648) -/

/-- A Savis item for a station; `kind` as in R308. -/
def itemOf (a : Ask) (kind : Nat) (idem : Bool) (timeoutMs index sub : Nat) (data : List Byte) : Item :=
  { reqId := a.id, client := a.client, kind := kind, idem := idem, timeoutMs := if timeoutMs = 0 then 100 else timeoutMs
    index := index, sub := sub, data := data }

/-- The arguments of ITEM lie in their ranges (R648); PREAD and DIAG carry no data (R309). -/
def itemArgs (kind stn timeoutMs index sub : Nat) (data : List Byte) : Bool :=
  decide (stn < 2048) && decide (timeoutMs ≤ 60000) && decide (index < 65536) && decide (sub < 256)
    && (data.isEmpty || decide (kind = 2) || decide (kind = 3))

/-- ITEM (R308-R310): the request goes on as an item of its station. A station that is not configured never runs. -/
def Mod.runItem (m : Mod) (a : Ask) (kind stn : Nat) (idem : Bool) (timeoutMs index sub : Nat) (data : List Byte) : Mod :=
  m.allow a .operator true {} fun m =>
    if !itemArgs kind stn timeoutMs index sub data then m.reject a rsRange
    else if (m.stnRec stn).isNone then m.finish a.key .failedStation 0 []
    else
      let i := itemOf a kind idem timeoutMs index sub data
      match m.itemVerdict stn i with
      | .pending => m.putItem stn i
      | .refusedFull => m.rejectFull a
      | _ => m.reject a rsRange

/-! ### Block images (R190, R194, R195, R534, R649) -/

/-- The moment of the last request of an upload. -/
def Mod.touchUpload (m : Mod) : Mod :=
  { m with savis := { m.savis with upload := m.savis.upload.map fun u => { u with last := m.now } } }

/-- Uploads fall on the domain (R647), but for a load on a module that is OUT in CONFIG_CONFLICT, which ends the conflict (R485). -/
def Mod.uploadDomain (m : Mod) : Bool := !(m.pair.role = .out && m.pair.outCause = 0x0C)

/-- IMG_OPEN (R649). -/
def Mod.runImgOpen (m : Mod) (a : Ask) (load : Bool) (length : Nat) : Mod :=
  m.allow a .engineer (!load || m.uploadDomain) {} fun m =>
    if !m.modeIn (if load then [.halt] else [.edit, .service]) then m.reject a rsMode
    else if length = 0 || 67043264 < length then m.reject a rsRange
    else if m.savis.upload.isSome || (load && m.card.comp.isSome) then m.rejectFull a
    else if !m.cardWritable then m.reject a 0
    else ({ m with savis := { m.savis with upload := some ⟨load, length, 0, m.now⟩ } }).doneReq a []

/-- IMG_BLOCK (R649): `writeOk` says that the block was written and read back. A write that fails ends the upload (R534). -/
def Mod.runImgBlock (m : Mod) (a : Ask) (ofs len : Nat) (writeOk : Bool) : Mod :=
  m.allow a .engineer m.uploadDomain {} fun m =>
    match m.savis.upload with
    | none => m.reject a rsRange
    | some u =>
      if ofs ≠ u.next || len = 0 || 65536 < len || u.length < ofs + len then m.touchUpload.reject a rsRange
      else if writeOk && m.card.usable && m.powered 13 then
        ({ m with savis := { m.savis with upload := some { u with next := ofs + len, last := m.now } } }).doneReq a []
      else
        ({ m with savis := { m.savis with upload := none }
                  card := { m.card with writable := false } }).finish a.key .failedTimeout 0 []

/-- The upload is complete, of the purpose, and its digest is that of its trailer. -/
def Mod.uploadEnds (m : Mod) (load : Bool) (digest : Nat) (img : Image) : Bool :=
  match m.savis.upload with
  | some u => u.load == load && decide (u.next = u.length) && decide (digest = img.digest)
  | none => false

/-- Shows a refused change or load in PROGRAM.CHANGE (R195, R214). -/
def Mod.refuseChange (m : Mod) (a : Ask) (reason inst field : Nat) : Mod :=
  ({ m with prog := { m.prog with chgState := .refused, chgReason := reason, chgInst := inst, chgField := field } }).reject a 0

/-- A change that passes the owner's checks (R195, R196): the shadow checks too, the card takes the record. -/
def Mod.startChange (m : Mod) (a : Ask) (img : Image) : Mod :=
  let asks := m.pair.role = .owner
  let m := { m with prog := { m.prog with
    chgState := .checking, chgReason := 0, chgField := 0, chgInst := 0, staged := some img, lanesStaged := false
    cardStaged := false, remapped := false, remapRet := [], go := none
    partnerVerdict := if asks then none else some 0, chgSince := m.now, chgKey := some a.key } }
  if asks then m.hallSend 3 fun h => .mImage h true (some img) else m.stageRecord

/-- IMG_END of an online change (R194, R195): PENDING until it ends. -/
def Mod.runImgEndChange (m : Mod) (a : Ask) (digest : Nat) (img : Image) : Mod :=
  m.allow a .engineer true {} fun m =>
    if !m.modeIn [.edit, .service] then m.reject a rsMode
    else if !m.uploadEnds false digest img then m.touchUpload.reject a rsRange
    else if m.prog.chgState = .checking || m.prog.chgState = .staged then m.touchUpload.rejectFull a
    else
      let m := { m with savis := { m.savis with upload := none } }
      if m.pair.role ≠ .alone && !m.redundant then m.refuseChange a 0x0D 0 0
      else if !m.cardWritable then m.reject a 0
      else
        let (r, inst, field) := m.changeCheck img
        if r = 0 then m.startChange a img else m.refuseChange a r inst field

/-- The checks of a load (R190, R209): every load check, and for MAPPED every mapping. -/
def Mod.loadCheck (m : Mod) (img : Image) (mapped : Bool) : Nat × Nat × Nat :=
  let r := imageCheck m.upd.project img
  if r ≠ 0 then (r, 0, 0)
  else
    match mapped, m.prog.image, m.leader with
    | true, some old, some x => match remap old img (m.lane x).inst with | .error e => e | .ok _ => (0, 0, 0)
    | _, _, _ => (0, 0, 0)

/-- IMG_END of a load (R190, R539): written as a base, PENDING until the Attic has committed. A module that is OUT in
CONFIG_CONFLICT takes a load too (R485). -/
def Mod.runImgEndLoad (m : Mod) (a : Ask) (digest : Nat) (img : Image) (mapped : Bool) : Mod :=
  m.allow a .engineer m.uploadDomain {} fun m =>
    if !m.modeIn [.halt] then m.reject a rsMode
    else if !m.uploadEnds true digest img then m.touchUpload.reject a rsRange
    else if m.prog.load.isSome then m.touchUpload.rejectFull a
    else
      let m := { m with savis := { m.savis with upload := none } }
      let (r, inst, field) := m.loadCheck img mapped
      if !m.cardWritable then m.reject a 0
      else if r ≠ 0 then m.refuseChange a r inst field
      else
        let m := { m with prog := { m.prog with load := some img, loadMapped := mapped, restartKey := some a.key
                                                chgState := .checking, chgReason := 0, chgField := 0, chgInst := 0 } }
        m.writeBase .load img (some a.key)

/-- IMG_END with COLD (R190). -/
def Mod.runImgEndCold (m : Mod) (a : Ask) (digest : Nat) (img : Image) : Mod := m.runImgEndLoad a digest img false

/-- IMG_END with MAPPED (R190). -/
def Mod.runImgEndMapped (m : Mod) (a : Ask) (digest : Nat) (img : Image) : Mod := m.runImgEndLoad a digest img true

/-- IMG_ABANDON (R649). -/
def Mod.runImgAbandon (m : Mod) (a : Ask) : Mod :=
  m.allow a .engineer m.uploadDomain {} fun m =>
    if m.savis.upload.isSome then ({ m with savis := { m.savis with upload := none } }).doneReq a []
    else m.reject a rsRange

/-! ### Restarts (R189) -/

/-- The general conditions of RESTART (R189), and what every kind does: a join in progress ends (R515), the shadow joins again. -/
def Mod.commandRestart (m : Mod) (a : Ask) (f : Mod → Image → Option Mod) : Mod :=
  m.allow a .engineer true {} fun m =>
    if !m.modeIn [.halt] then m.reject a rsMode
    else if m.prog.load.isSome then m.rejectFull a
    else
      match m.prog.image with
      | none => m.reject a rsModuleRole
      | some i =>
        match f (if m.hall.join ≠ .none then m.endJoin 6 true else m) i with
        | none => m.reject a 0
        | some m =>
          let stale := m.pair.role = Role.owner && m.pair.partner = some Role.shadow
          let m := { m with prog := { m.prog with partnerStale := stale } }
          m.doneReq a (leBytes m.prog.restart 8)

/-- RESTART COLD (R189). -/
def Mod.runRestartCold (m : Mod) (a : Ask) : Mod := m.commandRestart a fun m i => some (m.coldRestart i 1 3)

/-- RESTART WARM (R189): refused unless the last commit has the digest of the image (R188). -/
def Mod.runRestartWarm (m : Mod) (a : Ask) : Mod :=
  m.commandRestart a fun m i =>
    match m.committed with
    | some (c, home) => if c.digest = i.digest then some (m.warmRestart i 1 c home none) else none
    | none => none

/-- RESTART AUTO (R188, R189). -/
def Mod.runRestartAuto (m : Mod) (a : Ask) : Mod := m.commandRestart a fun m i => some (m.restartRule i 1)

/-! ### The planned switchover (R477) -/

/-- A segment of this module has a station on path RELAY (R320). -/
def Mod.relayPath (m : Mod) : Bool := m.pantry.stns.any fun p => p.2.path = .relay

/-- SWITCHOVER (R477): PENDING until the new owner has raised OWN. -/
def Mod.runSwitchover (m : Mod) (a : Ask) : Mod :=
  m.allow a .engineer true {} fun m =>
    if !m.modeIn [.edit, .service] then m.reject a rsMode
    else if m.pair.plan.st = .waiting || m.pair.plan.st = .go then m.rejectFull a
    else
      let refused (m : Mod) : Mod := { m with pair := { m.pair with plan := { m.pair.plan with st := .refused } } }
      if m.pair.role ≠ .owner || m.pair.partner ≠ some .shadow || !m.pair.partnerReady then (refused m).reject a rsModuleRole
      else if m.relayPath || m.prog.chgState = .staged then (refused m).reject a 0
      else { m with pair := { m.pair with plan := { Plan.zero with st := .waiting, key := some a.key, since := m.now } } }

end Sys2Proof.Machine
end

