-- ==== Sys2Proof/Machine/Services.lean ====
section
/-! DEFINITION. Requests of the Savis link that name a side, calendar steps, card, network and trust anchor requests, and
those that a partner passes on (R397, R398, R430, R438, R500, R534-R541, R581, R582, R628-R633, R647). -/
namespace Sys2Proof.Machine

/-! ### Where a request is carried out (R647) -/

/-- Runs a request at the side it names: here, or as a CMD at the partner. -/
def Mod.atSide (m : Mod) (a : Ask) (side : Bool) (method : Nat) (args : List Int) (here : Mod → Mod) : Mod :=
  if side = m.bolt.side then here m
  else if m.cmdPartner then m.passOn a method args
  else m.reject a rsModuleRole

/-! ### Trims (R397, R398, R438, R534, R535) -/

/-- A trim of a channel is in progress: by the buttons, waiting for a calibration, or with its record not yet written. -/
def Mod.trimBusy (m : Mod) (ch : Nat) : Bool :=
  m.underTrim ch || (m.conv.trimWait.any fun w => w.ch = ch)
    || m.card.queue.any fun q => match q.body with | .trim t => !t.latency && t.index = ch | _ => false

/-- A loop trim of this module (R398); one that meets a calibration waits for its end. -/
def Mod.loopTrimHere (m : Mod) (key : Nat × Nat) (ch : Nat) (zero span : Int) : Mod :=
  if !m.cardWritable then m.finish key .rejectedAccess 0 []
  else if m.trimBusy ch then m.finish key .busyTest 0 []
  else if m.conv.calBusy then { m with conv := { m.conv with trimWait := m.conv.trimWait ++ [⟨ch, zero, span, key⟩] } }
  else m.takeTrim ch zero span (some key) false

/-- LOOP_TRIM (R398). -/
def Mod.runLoopTrim (m : Mod) (a : Ask) (side : Bool) (ch : Nat) (zero span : Int) : Mod :=
  m.allow a .engineer false {} fun m =>
    if !m.modeIn [.edit, .service] then m.reject a rsMode
    else if 8 ≤ ch || !trimInRange zero span then m.reject a rsRange
    else m.atSide a side 0x0401 [(ch : Int), zero, span] fun m => m.loopTrimHere a.key ch zero span

/-- A latency trim of this module (R438, R535, R617); one that meets a test of the port waits for its end. -/
def Mod.latTrimHere (m : Mod) (key : Nat × Nat) (port : Nat) (tx rx : Int) : Mod :=
  if !m.cardWritable || m.card.layout = 1 then m.finish key .rejectedAccess 0 []
  else if m.portTested port then m.addJob ⟨port, false, some (tx, rx), key, true⟩
  else m.takeLatTrim port tx rx (some key) false

/-- LAT_TRIM (R438). -/
def Mod.runLatTrim (m : Mod) (a : Ask) (side : Bool) (port : Nat) (tx rx : Int) : Mod :=
  m.allow a .engineer false {} fun m =>
    if !m.modeIn [.edit, .service] then m.reject a rsMode
    else if 4 ≤ port || 50000 < tx.natAbs || 50000 < rx.natAbs then m.reject a rsRange
    else m.atSide a side 0x0402 [(port : Int), tx, rx] fun m => m.latTrimHere a.key port tx rx

/-! ### Calendar steps (R430) -/

/-- The external reference is qualified (R425). -/
def Mod.refQual (m : Mod) : Bool := match m.time.extM with | some x => x.qual | none => false

/-- A calendar step waits for the next tick edge of the owner. -/
def Mod.calStepHere (m : Mod) (key : Nat × Nat) (value : Option Nat) : Mod :=
  if m.time.step.isSome then m.finish key .refusedFull rsFull []
  else if value.isNone && !m.refQual then m.finish key .rejectedAccess 0 []
  else { m with time := { m.time with step := some ⟨value, some key⟩ } }

/-- RESTEP and SET (R430): in SERVICE a shadow or an ALONE module takes them; a shadow passes them to its owner. -/
def Mod.calStep (m : Mod) (a : Ask) (method : Nat) (value : Option Nat) : Mod :=
  if !m.modeIn [.service, .halt] then m.reject a rsMode
  else if m.modeIn [.service] && m.pair.role ≠ .shadow && m.pair.role ≠ .alone then m.reject a rsModuleRole
  else if m.controls then m.calStepHere a.key value
  else if m.pair.role = .shadow && m.cmdPartner then
    m.passOn a method (match value with | some u => [(u : Int)] | none => [])
  else m.reject a rsModuleRole

/-- RESTEP (R430). -/
def Mod.runRestep (m : Mod) (a : Ask) : Mod := m.allow a .engineer false {} fun m => m.calStep a 0x0501 none

/-- SET (R430). -/
def Mod.runSetTime (m : Mod) (a : Ask) (v : TimeVal) : Mod :=
  m.allow a .engineer false {} fun m =>
    if 1000000000 ≤ v.ns || 65536 ≤ v.frac then m.reject a rsRange else m.calStep a 0x0502 (some v.units)

/-! ### The card (R535, R536, R541) -/

/-- The card controller is taken: by a base in writing or due, or by the upload of a load. -/
def Mod.cardTaken (m : Mod) : Bool :=
  m.card.comp.isSome || m.card.rewriteDue || (match m.savis.upload with | some u => u.load | none => false)

/-- CARD_COMPACT (R535, R536): in any pair mode. -/
def Mod.runCardCompact (m : Mod) (a : Ask) (layout2 : Bool) : Mod :=
  m.allow a .engineer false {} fun m =>
    if m.cardTaken then m.rejectFull a
    else
      let m := m.compact .command (if layout2 then 2 else m.card.layout) (some a.key)
      if m.card.comp.isSome then m else m.reject a 0

/-- CARD_REWRITE (R541): in any pair mode; the running image and the module's trims. -/
def Mod.runCardRewrite (m : Mod) (a : Ask) : Mod :=
  m.allow a .engineer false {} fun m =>
    if m.cardTaken then m.rejectFull a
    else
      match m.prog.image with
      | some i => if m.card.usable then m.writeBase .rewrite i (some a.key) else m.reject a 0
      | none => m.reject a rsModuleRole

/-! ### The network record (R628-R630) -/

/-- The arguments of NET_SET (R648). -/
structure NetArgs where
  target : Nat
  eng2 : Bool
  tcp : Nat
  addr : Nat
  pfx : Nat
  gw : Nat
  deriving DecidableEq, Repr

/-- A network record after NET_SET: pair values for target 0xFF, else the own address of a port (R630, R648). -/
def Net.apply (n : Net) (x : NetArgs) : Net :=
  if x.target = 0xFF then
    let n := { n with tcp := if x.tcp = 0 then n.tcp else x.tcp }
    if x.eng2 then { n with psa2 := x.addr, psaPfx2 := x.pfx } else { n with psa1 := x.addr, psaPfx1 := x.pfx }
  else if x.eng2 then { n with own2 := x.addr, pfx2 := x.pfx, gw2 := x.gw }
  else { n with own1 := x.addr, pfx1 := x.pfx, gw1 := x.gw }

/-- The address and port of a session differ between two records. -/
def Net.moved (a b : Net) (x : Sess) : Bool :=
  let ip (n : Net) : Nat := match x.psa, x.eng2 with
    | true, true => n.psa2 | true, false => n.psa1 | false, true => n.own2 | false, false => n.own1
  a.tcp ≠ b.tcp || ip a ≠ ip b

/-- A new network record applies, and every session on an address or port that changed ends (R630). -/
def Mod.takeNet (m : Mod) (n : Net) : Mod :=
  let gone := m.savis.sess.filter fun p => Net.moved m.savis.net n p.2
  gone.foldl (fun m p => m.closeSession p.1) { m with savis := { m.savis with net := n } }

/-- The arguments of NET_SET as a CMD carries them. -/
def NetArgs.ints (x : NetArgs) : List Int :=
  [(x.target : Int), (bit x.eng2 : Int), (x.tcp : Int), (x.addr : Int), (x.pfx : Int), (x.gw : Int)]

/-- The arguments of NET_SET lie in their ranges (R648). -/
def NetArgs.ok (x : NetArgs) : Bool :=
  let pair := decide (x.target = 0xFF)
  (pair || decide (x.target ≤ 1)) && decide (8 ≤ x.pfx) && decide (x.pfx ≤ 30) && decide (x.tcp < 65536)
    && decide (x.addr < 2 ^ 32) && decide (x.gw < 2 ^ 32) && (pair || decide (x.tcp = 0)) && (!pair || decide (x.gw = 0))

/-- NET_SET (R630): the pair values change in the partner first. -/
def Mod.runNetSet (m : Mod) (a : Ask) (target : Nat) (eng2 : Bool) (tcp addr pfx gw : Nat) : Mod :=
  m.allow a .engineer false {} fun m =>
    let x : NetArgs := ⟨target, eng2, tcp, addr, pfx, gw⟩
    if !m.modeIn [.service, .halt] then m.reject a rsMode
    else if !x.ok then m.reject a rsRange
    else if target = 0xFF then
      if !m.controls then m.reject a rsNotOwner
      else if m.pair.role = .owner && m.cmdPartner then
        if m.savis.netPend.isSome then m.rejectFull a
        else ({ m with savis := { m.savis with netPend := some (m.savis.net.apply x, a.key) } }).passOn a 0x0901 x.ints
      else (m.doneReq a []).takeNet (m.savis.net.apply x)
    else m.atSide a (target = 1) 0x0901 x.ints fun m => (m.doneReq a []).takeNet (m.savis.net.apply x)

/-! ### Trust anchors (R633) -/

/-- CA_SET (R633): enrolled in the partner first. -/
def Mod.runCaSet (m : Mod) (a : Ask) (anchors : List Nat) : Mod :=
  m.allow a .engineer false { noAnchor := true } fun m =>
    if !m.modeIn [.service, .halt] then m.reject a rsMode
    else if 4 < anchors.length then m.reject a rsRange
    else if m.cmdPartner then
      if m.savis.caPend.isSome then m.rejectFull a
      else ({ m with savis := { m.savis with caPend := some (anchors, a.key) } }).passOn a 0x0902 (anchors.map Int.ofNat)
    else ({ m with savis := { m.savis with anchors := anchors } }).doneReq a []

/-! ### Requests of the partner: CMD and CMD_RSP (R500, R581, R582, R630, R633) -/

/-- What an owner tells a joiner during ADMIT (R582, R630, R633; log entry 23). -/
def Mod.takeAdmit (m : Mod) (method : Nat) (args : List Int) : Mod :=
  match method, args with
  | 0x0606, [d] =>
    match m.upd.project with
    | none => { m with upd := { m.upd with project := some d.toNat } }
    | some k => if k = d.toNat then m else m.stayOut 0x0F
  | 0x0901, [t, e, tcp, addr, pfx, gw] =>
    m.takeNet (m.savis.net.apply ⟨t.toNat, e = 1, tcp.toNat, addr.toNat, pfx.toNat, gw.toNat⟩)
  | 0x0902, as => { m with savis := { m.savis with anchors := as.map Int.toNat } }
  | _, _ => m

/-- A request of the partner under its key: its outcome answers the CMD. -/
def Mod.cmdReq (m : Mod) (client id method : Nat) : Mod :=
  match m.openReq (client, id) with
  | some _ => m.setReq (client, id) fun r => { r with viaCmd := true }
  | none =>
    let r : SReq := { client := client, id := id, method := method, foreign := true, viaCmd := true }
    { m with savis := { m.savis with reqs := m.savis.reqs ++ [r] } }

/-- Carries out a request of the partner. -/
def Mod.runCmd (m : Mod) (key : Nat × Nat) (method : Nat) (args : List Int) : Mod :=
  match method, args with
  | 0x0401, [ch, zero, span] => m.loopTrimHere key ch.toNat zero span
  | 0x0402, [port, tx, rx] => m.latTrimHere key port.toNat tx rx
  | 0x0501, [] => if m.controls then m.calStepHere key none else m.finish key .rejectedAccess 0 []
  | 0x0502, [u] => if m.controls then m.calStepHere key (some u.toNat) else m.finish key .rejectedAccess 0 []
  | 0x0606, [d] =>
    if m.imageSigned d.toNat then ({ m with upd := { m.upd with project := some d.toNat } }).finish key .done 0 []
    else m.finish key .rejectedAccess 0 []
  | 0x0901, [t, e, tcp, addr, pfx, gw] =>
    (m.finish key .done 0 []).takeNet (m.savis.net.apply ⟨t.toNat, e = 1, tcp.toNat, addr.toNat, pfx.toNat, gw.toNat⟩)
  | 0x0902, as => ({ m with savis := { m.savis with anchors := as.map Int.toNat } }).finish key .done 0 []
  | _, _ => m.finish key .rejectedAccess rsUnknown []

/-- CMD (R500, R647): request 0 is what the owner tells a joiner in OUT. -/
def execMCmd (x : Msg) (session reqId : Nat) (method : Nat) (args : List Int) (s : State) : Host.Outcome State Fault Refusal :=
  s.hears x 2 fun m =>
    if reqId = 0 then (if m.pair.role = .out || m.pair.role = .joining then m.takeAdmit method args else m)
    else (m.cmdReq session reqId method).runCmd (session, reqId) method args

/-- What this module enrols when its partner has (R581, R630, R633). -/
def Mod.enrolPend (m : Mod) (key : Nat × Nat) : Mod :=
  let m := match m.savis.projPend with
    | some (d, k) => if k = key then { m with upd := { m.upd with project := some d } } else m
    | none => m
  let m := match m.savis.caPend with
    | some (as, k) => if k = key then { m with savis := { m.savis with anchors := as } } else m
    | none => m
  match m.savis.netPend with
  | some (n, k) => if k = key then m.takeNet n else m
  | none => m

/-- The partner has answered a request: what waited for it no longer does. -/
def Mod.clearPend (m : Mod) (key : Nat × Nat) : Mod :=
  let s := m.savis
  { m with savis := { s with
      cmdOut := s.cmdOut.filter fun k => k ≠ key
      projPend := s.projPend.filter fun p => p.2 ≠ key
      caPend := s.caPend.filter fun p => p.2 ≠ key
      netPend := s.netPend.filter fun p => p.2 ≠ key } }

/-- CMD_RSP (R500, R581, R647): the outcome of a request that was passed on. -/
def execMCmdRsp (x : Msg) (session reqId : Nat) (outcome : Outc) (data : List Byte) (s : State) :
    Host.Outcome State Fault Refusal :=
  s.hears x 2 fun m =>
    let key := (session, reqId)
    if !m.savis.cmdOut.contains key || !outcome.final then m
    else
      let done := m.finish key outcome 0 data
      (if outcome = .done then done.enrolPend key else done).clearPend key

end Sys2Proof.Machine
end

