-- ==== Sys2Proof/Machine/Sessions.lean ====
section
/-! DEFINITION. Engineering ports, connections, sessions and notifications of the Savis link (R584, R609, R627-R640,
R649-R651). -/
namespace Sys2Proof.Machine

/-! ### The engineering ports (R584, R609, R627-R629) -/

/-- The Hearth serves a port: its firmware runs, or the BIST has failed; in Porch mode ENG1 alone. -/
def Mod.serves_ (m : Mod) (eng2 : Bool) : Bool :=
  match m.power.boot with
  | .off | .bist | .rom => false
  | .bistFail | .cardRead | .ready | .started => true
  | .porch => !eng2

/-- The module answers on an address of a port whose link is up (R629): its own, or the pair service address. -/
def Mod.answersIp (m : Mod) (eng2 : Bool) (ip : Nat) : Bool :=
  m.serves_ eng2 && (if eng2 then m.savis.eng2 else m.savis.eng1)
    && (decide (ip = m.ownIp eng2) || (!m.upd.porch && m.answersPsa eng2 && decide (ip = m.psaIp eng2)))

/-- ENG_LINK_CHANGE (R627). -/
def execEngLinkChange (t : Nat) (eng2 up : Bool) (s : State) : Host.Outcome State Fault Refusal :=
  s.does fun m =>
    let m := m.start t
    if eng2 then { m with savis := { m.savis with eng2 := up } } else { m with savis := { m.savis with eng1 := up } }

/-- ARP_REQUEST (R627, R629). -/
def execArpRequest (t : Nat) (eng2 : Bool) (ip : Nat) (s : State) : Host.Outcome State Fault Refusal :=
  s.does fun m =>
    let m := m.start t
    if m.answersIp eng2 ip then m.emit (.arp eng2 ip false) else m

/-- ICMP_ECHO (R627). -/
def execIcmpEcho (t : Nat) (eng2 : Bool) (ip : Nat) (s : State) : Host.Outcome State Fault Refusal :=
  s.does fun m =>
    let m := m.start t
    if m.answersIp eng2 ip then m.emit (.echo eng2 ip) else m

/-! ### Connections and sessions (R631-R639) -/

/-- The role that an organizational unit grants (R634): 0 SAVIS-VIEWER, 1 SAVIS-OPERATOR, 2 SAVIS-ENGINEER. -/
def roleOf : Nat → Option SRole
  | 0 => some .viewer | 1 => some .operator | 2 => some .engineer
  | _ => none

/-- Ends a connection that has no session (R636, R639, R656). -/
def Mod.dropConn (m : Mod) (conn : Nat) : Mod :=
  let s := m.savis
  ({ m with savis := { s with conns := tabDel s.conns conn, tlsFails := inc32 s.tlsFails } }).emit (.closed conn)

/-- TLS_HANDSHAKE (R631, R633): `done` within 10 s, `chainOk` a chain to a trust anchor, `datesOk` validity dates that hold,
which count while CAL_VALID is set. Without trust anchors any certificate passes, as ENGINEER. -/
def execTlsHandshake (t conn : Nat) (eng2 psa : Bool) (done chainOk datesOk : Bool) (ou client : Nat) (s : State) :
    Host.Outcome State Fault Refusal :=
  s.does fun m =>
    let m := m.start t
    let ip := if psa then m.psaIp eng2 else m.ownIp eng2
    let used := (tabFind m.savis.conns conn).isSome || m.savis.sess.any fun p => p.2.conn = conn
    if used || !m.answersIp eng2 ip || (psa && !m.answersPsa eng2) then m
    else
      let open_ := m.savis.anchors.isEmpty
      if done && (open_ || (chainOk && (datesOk || !m.time.calValid))) then
        let c : Conn := ⟨eng2, psa, if open_ then some .engineer else roleOf ou, client⟩
        { m with savis := { m.savis with conns := tabSet m.savis.conns conn c } }
      else m.dropConn conn

/-- The lowest free session number (R636). -/
def Savis.freeSess (s : Savis) : Option Nat := (List.range 8).find? fun k => (tabFind s.sess k).isNone

/-- The version that a client and the module agree (R8, R584, R637); 0 for none. -/
def Mod.agreedVersion (m : Mod) (lo hi : Nat) : Nat :=
  let v := min hi (if m.upd.porch then 1 else 4)
  if max lo 1 ≤ v then v else 0

/-- Answers an OPEN that opens no session and closes its connection (R636); its reply carries 8 and the connection in the
place of a session. -/
def Mod.openRefused (m : Mod) (conn id : Nat) (o : Outc) (reason : Nat) : Mod :=
  (m.turnAway (8 + conn) id o reason).dropConn conn

/-- OPEN (R636). -/
def execOpenSession (t conn id verMin verMax : Nat) (s : State) : Host.Outcome State Fault Refusal :=
  s.does fun m =>
    let m := m.start t
    match tabFind m.savis.conns conn with
    | none => m
    | some c =>
      let ver := m.agreedVersion verMin verMax
      if id = 0 then m.dropConn conn
      else
        match c.role, m.savis.freeSess with
        | none, _ => m.openRefused conn id .rejectedAccess rsRole
        | some role, free =>
          if ver = 0 then m.openRefused conn id .rejectedAccess rsVersion
          else
            match free with
            | none => m.openRefused conn id .refusedFull rsFull
            | some k =>
              let x : Sess := { conn := conn, role := role, ver := ver, eng2 := c.eng2, psa := c.psa, client := c.client
                                openTick := m.sched.tick % 2 ^ 32, last := m.now }
              let s := m.savis
              let m := { m with savis :=
                { s with conns := tabDel s.conns conn, sess := tabSet s.sess k x, opens := inc32 s.opens } }
              m.reply k id Outc.done.code 0 0 true (leBytes ver 1 ++ leBytes role.code 1 ++ leBytes k 1 ++ [0] ++ leBytes c.client 4)

/-- SAVIS_CLOSE (R638): CLOSE or a TLS close_notify. -/
def execSavisClose (t session : Nat) (s : State) : Host.Outcome State Fault Refusal :=
  s.doesPair fun m => (m.start t).closeSession session

/-- SESSION_TIMEOUT (R638): 60 s without a message of the client. -/
def execSessionTimeout (t session : Nat) (s : State) : Host.Outcome State Fault Refusal :=
  s.doesPair fun m =>
    let m := m.start t
    match tabFind m.savis.sess session with
    | some x => if x.last + 60000000000 ≤ m.now then m.closeSession session else m
    | none => m

/-- FRAMING_ERROR (R639): the connection is closed. -/
def execFramingError (t session : Nat) (s : State) : Host.Outcome State Fault Refusal :=
  s.doesPair fun m => (m.start t).closeSession session

/-- OUTCOME_EXPIRY (R642): a final outcome is retained for 60 s. -/
def execOutcomeExpiry (t client id : Nat) (s : State) : Host.Outcome State Fault Refusal :=
  s.does fun m =>
    let m := m.start t
    let stays (r : SReq) : Bool := !(r.client = client && r.id = id && r.outcome.isSome && decide (r.ended + 60000000000 ≤ m.now))
    { m with savis := { m.savis with reqs := m.savis.reqs.filter stays } }

/-- IMG_UPLOAD_TIMEOUT (R649): 10 min without a request end an upload as IMG_ABANDON does. -/
def execImgUploadTimeout (t : Nat) (s : State) : Host.Outcome State Fault Refusal :=
  s.does fun m =>
    let m := m.start t
    match m.savis.upload with
    | some u =>
      if u.last + 600000000000 ≤ m.now then { m with savis := { m.savis with upload := none } } else m
    | none => m

/-! ### PING and UNSUBSCRIBE, which pass no queue (R640, R651) -/

/-- A request that is answered at once. -/
def Mod.direct (m : Mod) (r : Req) (ver : Nat) (ok : Bool) (f : Mod → Mod) : Mod :=
  match tabFind m.savis.sess r.session with
  | none => m
  | some x =>
    let m := m.setSess r.session fun y => { y with last := m.now }
    let a : Ask := ⟨x.client, r.id, r.session, x.role, r.bodyOk && ok⟩
    if r.id = 0 then m.closeSession r.session
    else if x.ver < ver then m.turnAway r.session r.id .rejectedAccess rsVersion
    else
      match m.gateReq a .viewer false {} with
      | some why => m.turnAway r.session r.id .rejectedAccess why
      | none => (f m).reply r.session r.id Outc.done.code 0 0 true []

/-- PING (R634, R640). -/
def execPing (r : Req) (s : State) : Host.Outcome State Fault Refusal :=
  s.doesPair fun m => (m.start r.moment).direct r 1 true fun m => m

/-- UNSUBSCRIBE (R651). -/
def execUnsubscribe (r : Req) (no : Nat) (s : State) : Host.Outcome State Fault Refusal :=
  s.doesPair fun m => (m.start r.moment).direct r 2 (decide (no < 16)) fun m =>
    m.setSess r.session fun x => { x with subs := tabDel x.subs no }

/-! ### Notifications (R651) -/

/-- A NOTIFY falls due: it goes out, or it waits unsent; one that still waited is replaced and counted. -/
def Mod.notifyNow (m : Mod) (k no : Nat) (x : Sub) (sent : Bool) (data : List Byte) : Mod :=
  let skipped := if x.unsent then min (x.skipped + 1) 0xFFFF else x.skipped
  let m := if x.unsent then { m with savis := { m.savis with skipped := inc32 m.savis.skipped } } else m
  let y : Sub := { x with last := data, due := x.due + x.period * 1000000, unsent := !sent, skipped := if sent then 0 else skipped }
  let m := m.setSess k fun z => { z with subs := tabSet z.subs no y }
  if sent then m.emit (.notify k no x.reqId skipped m.sched.tick data) else m

/-- NOTIFY_DUE (R650, R651): the period is over; in change mode only when the range has changed. `sent` says that the connection
takes the NOTIFY now. -/
def execNotifyDue (t session no : Nat) (sent : Bool) (s : State) : Host.Outcome State Fault Refusal :=
  s.does fun m =>
    let m := m.start t
    match (tabFind m.savis.sess session).bind fun z => tabFind z.subs no with
    | none => m
    | some x =>
      if m.now < x.due then m
      else
        match m.readBody x.body with
        | .error _ => m
        | .ok data =>
          if x.change && data = x.last then
            m.setSess session fun z => { z with subs := tabSet z.subs no { x with due := x.due + x.period * 1000000 } }
          else m.notifyNow session no x sent data

end Sys2Proof.Machine
end

