-- ==== Sys2Proof/Machine/Serve.lean ====
section
/-! DEFINITION. The engineering queue of the Savis link: what a request is, in what order requests start, and one meaning per
request (R69-R72, R640-R642); TICK_EDGE, at which those that wait may start too. -/
namespace Sys2Proof.Machine

/-- A request of the queue as it runs. -/
def SReq.ask (q : SReq) : Ask := ⟨q.client, q.id, q.session, q.role, q.bodyOk⟩

/-- Runs the command of a request that starts. -/
def Mod.runReq (m : Mod) (q : SReq) (c : Call) : Mod :=
  match c with
  | .read b => m.runRead q.ask b
  | .readMulti bs => m.runReadMulti q.ask bs
  | .violValidClear value => m.runViolValidClear q.ask value
  | .write obj first ofs value => m.runWrite q.ask obj first ofs value
  | .outcome id => m.runOutcome q.ask id
  | .subscribe no b change periodMs => m.runSubscribe q.ask no b change periodMs
  | .imgOpen load length => m.runImgOpen q.ask load length
  | .imgBlock ofs len writeOk => m.runImgBlock q.ask ofs len writeOk
  | .imgEndChange digest image => m.runImgEndChange q.ask digest image
  | .imgEndCold digest image => m.runImgEndCold q.ask digest image
  | .imgEndMapped digest image => m.runImgEndMapped q.ask digest image
  | .imgAbandon => m.runImgAbandon q.ask
  | .restartCold => m.runRestartCold q.ask
  | .restartWarm => m.runRestartWarm q.ask
  | .restartAuto => m.runRestartAuto q.ask
  | .switchover => m.runSwitchover q.ask
  | .hearthReset => m.runHearthReset q.ask
  | .loopTrim side ch zero span => m.runLoopTrim q.ask side ch zero span
  | .latTrim side port tx rx => m.runLatTrim q.ask side port tx rx
  | .restep => m.runRestep q.ask
  | .setTime v => m.runSetTime q.ask v
  | .fwOpen h => m.runFwOpen q.ask h
  | .fwBlock i crc => m.runFwBlock q.ask i crc
  | .fwSign => m.runFwSign q.ask
  | .fwAbandon => m.runFwAbandon q.ask
  | .fwActivate bank minPfl => m.runFwActivate q.ask bank minPfl
  | .projEnroll pubDigest imageHolds endorsed => m.runProjEnroll q.ask pubDigest imageHolds endorsed
  | .projClear => m.runProjClear q.ask
  | .rotTest lane => m.runRotTest q.ask lane
  | .portTest port pcs => m.runPortTest q.ask port pcs
  | .dbgOpen clockReal => m.runDbgOpen q.ask clockReal
  | .dbgClose => m.runDbgClose q.ask
  | .dbgHalt n => m.runDbgHalt q.ask n
  | .dbgStep n => m.runDbgStep q.ask n
  | .dbgResume => m.runDbgResume q.ask
  | .dbgBreak sel eng pc set => m.runDbgBreak q.ask sel eng pc set
  | .dbgRead addr len => m.runDbgRead q.ask addr len
  | .dbgWrite addr bytes => m.runDbgWrite q.ask addr bytes
  | .cardCompact layout2 => m.runCardCompact q.ask layout2
  | .cardRewrite => m.runCardRewrite q.ask
  | .netSet target eng2 tcpPort address pfx gateway => m.runNetSet q.ask target eng2 tcpPort address pfx gateway
  | .caSet anchors => m.runCaSet q.ask anchors
  | .status => m.runStatus q.ask
  | .porchReset => m.runPorchReset q.ask
  | .itemPread stn idem timeoutMs index sub data => m.runItem q.ask 1 stn idem timeoutMs index sub data
  | .itemPwrite stn idem timeoutMs index sub data => m.runItem q.ask 2 stn idem timeoutMs index sub data
  | .itemCommand stn idem timeoutMs index sub data => m.runItem q.ask 3 stn idem timeoutMs index sub data
  | .itemDiag stn idem timeoutMs index sub data => m.runItem q.ask 4 stn idem timeoutMs index sub data

/-- Starts the requests that wait, in queue order, while fewer than 8 run (R640); `n` bounds how many. -/
def Mod.pump : Nat → Mod → Mod
  | 0, m => m
  | n + 1, m =>
    if 8 ≤ (m.savis.reqs.filter SReq.runs).length then m
    else
      match m.savis.reqs.find? fun q => q.cmd.isSome && q.outcome.isNone with
      | none => m
      | some q =>
        let m := m.setReq (q.client, q.id) fun r => { r with cmd := none }
        Mod.pump n (match q.cmd with | some c => m.runReq q c | none => m)

/-- Starts every request that may start. -/
def Mod.pumpAll (m : Mod) : Mod := m.pump 256

/-- PENDING of a request that has neither ended nor is told elsewhere: one that the shadow mirrors is told on MIRROR_ACK, a
station item that has started by its station's queue (R71, R640). -/
def Mod.tellOpen (m : Mod) (r : Req) (e : Entry) : Mod :=
  match (tabFind m.savis.sess r.session).bind fun x => m.openReq (x.client, r.id) with
  | some q => if q.mirrored || (e.item && q.cmd.isNone) then m else m.tellPending (q.client, q.id) (m.queuePos q)
  | none => m

/-- A request arrives (R640): the queue takes it, what may start starts, PENDING is told. -/
def State.asks (s : State) (r : Req) (e : Entry) (c : Call) : Host.Outcome State Fault Refusal :=
  s.doesPair fun m => (((m.start r.moment).admitReq r e c).pumpAll).tellOpen r e

/-- A station item arrives (R70, R71): its station's queue decides its acceptance too. -/
def State.asksItem (s : State) (r : Req) (kind stn : Nat) (idem : Bool) (timeoutMs index sub : Nat) (data : List Byte) (c : Call) :
    Host.Outcome State Fault Refusal :=
  let i := itemOf ⟨0, r.id, r.session, .operator, r.bodyOk⟩ kind idem timeoutMs index sub data
  s.asks r { method := 0x0101, item := true, full := s.m.itemVerdict stn i = .refusedFull } c

/-- TICK_EDGE (R48): line time reaches the next tick. -/
def execTickEdge (t : Nat) (s : State) : Host.Outcome State Fault Refusal :=
  s.doesPair fun m => ((m.start t).tryTick).pumpAll

/-! ### One meaning per request -/

/-- READ (R640, R645). -/
def execRead (r : Req) (b : ReadBody) (s : State) : Host.Outcome State Fault Refusal :=
  s.asks r { method := 0x10 } (.read b)

/-- READ_MULTI (R637, R640, R645). -/
def execReadMulti (r : Req) (bs : List ReadBody) (s : State) : Host.Outcome State Fault Refusal :=
  s.asks r { method := 0x11, ver := 3 } (.readMulti bs)

/-- VIOL_VALID_CLEAR (R236). -/
def execViolValidClear (r : Req) (value : W32) (s : State) : Host.Outcome State Fault Refusal :=
  s.asks r { method := 0x12 } (.violValidClear value)

/-- WRITE (R646). -/
def execWrite (r : Req) (obj first ofs : Nat) (value : W32) (s : State) : Host.Outcome State Fault Refusal :=
  s.asks r { method := 0x12 } (.write obj first ofs value)

/-- OUTCOME (R642). -/
def execOutcome (r : Req) (id : Nat) (s : State) : Host.Outcome State Fault Refusal :=
  s.asks r { method := 0x14 } (.outcome id)

/-- SUBSCRIBE (R637, R650). -/
def execSubscribe (r : Req) (no : Nat) (b : ReadBody) (change : Bool) (periodMs : Nat) (s : State) :
    Host.Outcome State Fault Refusal :=
  s.asks r { method := 0x20, ver := if change then 4 else 2 } (.subscribe no b change periodMs)

/-- IMG_OPEN (R649). -/
def execImgOpen (r : Req) (load : Bool) (length : Nat) (s : State) : Host.Outcome State Fault Refusal :=
  s.asks r { method := 0x0201 } (.imgOpen load length)

/-- IMG_BLOCK (R649). -/
def execImgBlock (r : Req) (ofs len : Nat) (writeOk : Bool) (s : State) : Host.Outcome State Fault Refusal :=
  s.asks r { method := 0x0202 } (.imgBlock ofs len writeOk)

/-- IMG_END for a change (R194). -/
def execImgEndChange (r : Req) (digest : Nat) (image : Image) (s : State) : Host.Outcome State Fault Refusal :=
  s.asks r { method := 0x0203 } (.imgEndChange digest image)

/-- IMG_END with COLD (R190). -/
def execImgEndCold (r : Req) (digest : Nat) (image : Image) (s : State) : Host.Outcome State Fault Refusal :=
  s.asks r { method := 0x0203 } (.imgEndCold digest image)

/-- IMG_END with MAPPED (R190). -/
def execImgEndMapped (r : Req) (digest : Nat) (image : Image) (s : State) : Host.Outcome State Fault Refusal :=
  s.asks r { method := 0x0203 } (.imgEndMapped digest image)

/-- IMG_ABANDON (R649). -/
def execImgAbandon (r : Req) (s : State) : Host.Outcome State Fault Refusal :=
  s.asks r { method := 0x0204 } .imgAbandon

/-- RESTART COLD (R189). -/
def execRestartCold (r : Req) (s : State) : Host.Outcome State Fault Refusal :=
  s.asks r { method := 0x0206 } .restartCold

/-- RESTART WARM (R189). -/
def execRestartWarm (r : Req) (s : State) : Host.Outcome State Fault Refusal :=
  s.asks r { method := 0x0206 } .restartWarm

/-- RESTART AUTO (R189). -/
def execRestartAuto (r : Req) (s : State) : Host.Outcome State Fault Refusal :=
  s.asks r { method := 0x0206 } .restartAuto

/-- SWITCHOVER (R477). -/
def execSwitchover (r : Req) (s : State) : Host.Outcome State Fault Refusal :=
  s.asks r { method := 0x0301 } .switchover

/-- HEARTH_RESET (R601). -/
def execHearthReset (r : Req) (s : State) : Host.Outcome State Fault Refusal :=
  s.asks r { method := 0x0302 } .hearthReset

/-- LOOP_TRIM (R398). -/
def execLoopTrim (r : Req) (side : Bool) (ch : Nat) (zero span : Int) (s : State) : Host.Outcome State Fault Refusal :=
  s.asks r { method := 0x0401 } (.loopTrim side ch zero span)

/-- LAT_TRIM (R438). -/
def execLatTrim (r : Req) (side : Bool) (port : Nat) (tx rx : Int) (s : State) : Host.Outcome State Fault Refusal :=
  s.asks r { method := 0x0402 } (.latTrim side port tx rx)

/-- RESTEP (R430). -/
def execRestep (r : Req) (s : State) : Host.Outcome State Fault Refusal :=
  s.asks r { method := 0x0501 } .restep

/-- SET (R430). -/
def execSetTime (r : Req) (v : TimeVal) (s : State) : Host.Outcome State Fault Refusal :=
  s.asks r { method := 0x0502 } (.setTime v)

/-- FW_OPEN (R566). -/
def execFwOpen (r : Req) (h : PkgHdr) (s : State) : Host.Outcome State Fault Refusal :=
  s.asks r { method := 0x0601 } (.fwOpen h)

/-- FW_BLOCK (R567). -/
def execFwBlock (r : Req) (i : Nat) (crc : W32) (s : State) : Host.Outcome State Fault Refusal :=
  s.asks r { method := 0x0602 } (.fwBlock i crc)

/-- FW_SIGN (R568). -/
def execFwSign (r : Req) (s : State) : Host.Outcome State Fault Refusal :=
  s.asks r { method := 0x0603 } .fwSign

/-- FW_ABANDON (R569). -/
def execFwAbandon (r : Req) (s : State) : Host.Outcome State Fault Refusal :=
  s.asks r { method := 0x0604 } .fwAbandon

/-- FW_ACTIVATE (R575). -/
def execFwActivate (r : Req) (bank : Nat) (minPfl : Nat) (s : State) : Host.Outcome State Fault Refusal :=
  s.asks r { method := 0x0605 } (.fwActivate bank minPfl)

/-- PROJ_ENROLL (R581). -/
def execProjEnroll (r : Req) (pubDigest : Nat) (imageHolds endorsed : Bool) (s : State) : Host.Outcome State Fault Refusal :=
  s.asks r { method := 0x0606 } (.projEnroll pubDigest imageHolds endorsed)

/-- PROJ_CLEAR (R585). -/
def execProjClear (r : Req) (s : State) : Host.Outcome State Fault Refusal :=
  s.asks r { method := 0x0607 } .projClear

/-- ROT_TEST (R611). -/
def execRotTest (r : Req) (lane : Option LaneId) (s : State) : Host.Outcome State Fault Refusal :=
  s.asks r { method := 0x0701 } (.rotTest lane)

/-- PORT_TEST (R616). -/
def execPortTest (r : Req) (port : Nat) (pcs : Bool) (s : State) : Host.Outcome State Fault Refusal :=
  s.asks r { method := 0x0702 } (.portTest port pcs)

/-- DBG_OPEN (R620). -/
def execDbgOpen (r : Req) (clockReal : Bool) (s : State) : Host.Outcome State Fault Refusal :=
  s.asks r { method := 0x0703 } (.dbgOpen clockReal)

/-- DBG_CLOSE (R621). -/
def execDbgClose (r : Req) (s : State) : Host.Outcome State Fault Refusal :=
  s.asks r { method := 0x0704 } .dbgClose

/-- DBG_OP HALT (R120). -/
def execDbgHalt (r : Req) (n : Nat) (s : State) : Host.Outcome State Fault Refusal :=
  s.asks r { method := 0x0705 } (.dbgHalt n)

/-- DBG_OP STEP (R120). -/
def execDbgStep (r : Req) (n : Nat) (s : State) : Host.Outcome State Fault Refusal :=
  s.asks r { method := 0x0705 } (.dbgStep n)

/-- DBG_OP RESUME (R123). -/
def execDbgResume (r : Req) (s : State) : Host.Outcome State Fault Refusal :=
  s.asks r { method := 0x0705 } .dbgResume

/-- DBG_OP BREAK (R620). -/
def execDbgBreak (r : Req) (sel : Nat) (eng pc : Nat) (set : Bool) (s : State) : Host.Outcome State Fault Refusal :=
  s.asks r { method := 0x0705 } (.dbgBreak sel eng pc set)

/-- DBG_OP READ (R122). -/
def execDbgRead (r : Req) (addr len : Nat) (s : State) : Host.Outcome State Fault Refusal :=
  s.asks r { method := 0x0705 } (.dbgRead addr len)

/-- DBG_OP WRITE (R122). -/
def execDbgWrite (r : Req) (addr : Nat) (bytes : List Byte) (s : State) : Host.Outcome State Fault Refusal :=
  s.asks r { method := 0x0705 } (.dbgWrite addr bytes)

/-- CARD_COMPACT (R536). -/
def execCardCompact (r : Req) (layout2 : Bool) (s : State) : Host.Outcome State Fault Refusal :=
  s.asks r { method := 0x0801 } (.cardCompact layout2)

/-- CARD_REWRITE (R541). -/
def execCardRewrite (r : Req) (s : State) : Host.Outcome State Fault Refusal :=
  s.asks r { method := 0x0802 } .cardRewrite

/-- NET_SET (R630). -/
def execNetSet (r : Req) (target : Nat) (eng2 : Bool) (tcpPort address pfx gateway : Nat) (s : State) :
    Host.Outcome State Fault Refusal :=
  s.asks r { method := 0x0901 } (.netSet target eng2 tcpPort address pfx gateway)

/-- CA_SET (R633). -/
def execCaSet (r : Req) (anchors : List Nat) (s : State) : Host.Outcome State Fault Refusal :=
  s.asks r { method := 0x0902 } (.caSet anchors)

/-- STATUS (R585). -/
def execStatus (r : Req) (s : State) : Host.Outcome State Fault Refusal :=
  s.asks r { method := 0x0A01 } .status

/-- RESET of Porch mode (R585). -/
def execPorchReset (r : Req) (s : State) : Host.Outcome State Fault Refusal :=
  s.asks r { method := 0x0302 } .porchReset

/-- ITEM PREAD (R308, R310). -/
def execItemPread (r : Req) (stn : Nat) (idem : Bool) (timeoutMs index sub : Nat) (data : List Byte) (s : State) :
    Host.Outcome State Fault Refusal :=
  s.asksItem r 1 stn idem timeoutMs index sub data (.itemPread stn idem timeoutMs index sub data)

/-- ITEM PWRITE (R308, R310). -/
def execItemPwrite (r : Req) (stn : Nat) (idem : Bool) (timeoutMs index sub : Nat) (data : List Byte) (s : State) :
    Host.Outcome State Fault Refusal :=
  s.asksItem r 2 stn idem timeoutMs index sub data (.itemPwrite stn idem timeoutMs index sub data)

/-- ITEM COMMAND (R308, R310). -/
def execItemCommand (r : Req) (stn : Nat) (idem : Bool) (timeoutMs index sub : Nat) (data : List Byte) (s : State) :
    Host.Outcome State Fault Refusal :=
  s.asksItem r 3 stn idem timeoutMs index sub data (.itemCommand stn idem timeoutMs index sub data)

/-- ITEM DIAG (R308, R310). -/
def execItemDiag (r : Req) (stn : Nat) (idem : Bool) (timeoutMs index sub : Nat) (data : List Byte) (s : State) :
    Host.Outcome State Fault Refusal :=
  s.asksItem r 4 stn idem timeoutMs index sub data (.itemDiag stn idem timeoutMs index sub data)

end Sys2Proof.Machine
end

