-- ==== Sys2Proof/Machine/Timers.lean ====
section
/-! DEFINITION. EDGE, TIMER and COUNT (R157-R161). -/
namespace Sys2Proof.Machine

/-- The exception of a block on the header, a scratch word or beyond the instance (R152). -/
def View.blockExc (v : View) (i : Nat) (write : Bool) : Exc :=
  ⟨xFieldRange, write, some (instAddr v.eng.ib i)⟩

/-- The previous value of an input (R157): `bit` is its place in the control word. -/
def View.prev (v : View) (c : W64) (bit : Nat) (inp : Bool) : Bool :=
  if c.getLsbD 63 then (if instInitEdge v.inst v.eng.ib then false else inp) else c.getLsbD bit

/-- An edge operation (R157, R158). -/
def View.edge (v : View) (d : Reg) (x : W64) (i : Nat) (f : Bool → Bool → Bool) : Res :=
  if v.stateWords i 1 then
    let inp := x != 0
    let prev := v.prev (v.st i) 0 inp
    .ok ((v.poke v.eng.ib i (boolWord inp)).w d (boolWord (f inp prev)))
  else .error (v.blockExc i true)

/-- The flags of a timer's control word but INIT and PREV, and whether the step assigns START (R159). -/
structure TimerSt where
  q : Bool
  run : Bool
  done : Bool
  start : Bool
  deriving DecidableEq, Repr

/-- The flags of a control word (R159). -/
def timerOf (c : W64) : TimerSt := ⟨c.getLsbD 1, c.getLsbD 2, c.getLsbD 3, false⟩

/-- A control word: INIT, DONE, RUN, Q, PREV (R159). -/
def timerWord (init : Bool) (t : TimerSt) (prev : Bool) : W64 :=
  BitVec.ofNat 64 ((if init then 2 ^ 63 else 0) + (if t.done then 8 else 0) + (if t.run then 4 else 0)
    + (if t.q then 2 else 0) + (if prev then 1 else 0))

/-- TON before the time is judged (R159). -/
def tonStep (inp _prev : Bool) (_pt : W64) (t : TimerSt) : TimerSt :=
  if !inp then ⟨false, false, false, false⟩
  else if !t.run && !t.q then { t with run := true, start := true }
  else t

/-- TOF before the time is judged (R159). -/
def tofStep (inp prev : Bool) (_pt : W64) (t : TimerSt) : TimerSt :=
  if inp then ⟨true, false, false, false⟩
  else if prev && t.q then { t with run := true, start := true }
  else t

/-- TP before the time is judged (R159). -/
def tpStep (inp prev : Bool) (pt : W64) (t : TimerSt) : TimerSt :=
  let t := if !inp then { t with done := false } else t
  if inp && !prev && !t.run && pt != 0 then { t with q := true, run := true, start := true } else t

/-- What the expiry of a running timer leaves (R159): TON sets Q, TOF and TP clear it; DONE follows the
input for TP. `rises` marks TON, `pulse` TP. -/
def timerExpire (rises pulse inp : Bool) (t : TimerSt) : TimerSt :=
  { t with q := rises, run := false, done := if pulse then inp else true }

/-- A timer operation (R157, R159): `step` is the part before the expiry. -/
def View.timerOp (v : View) (d : Reg) (x : W64) (i : Nat) (rises pulse : Bool)
    (step : Bool → Bool → W64 → TimerSt → TimerSt) : Res :=
  if v.stateWords i 3 then
    let h := v.eng.ib
    let inp := x != 0
    let c := v.st i
    let pt := v.st (i + 1)
    let clk := BitVec.ofNat 64 v.ctx.snap.clk
    let t := step inp (v.prev c 0 inp) pt (timerOf c)
    let el := if t.start then 0 else clk - v.st (i + 2)
    let t' := if t.run && pt.ule el then timerExpire rises pulse inp t else t
    let v := v.poke h i (timerWord false t' inp)
    let v := if t.start then v.poke h (i + 2) clk else v
    .ok (v.w d (boolWord t'.q))
  else .error (v.blockExc i true)

/-- What a counter does in one execution: the new CV, or none where CV is not written (R157, R161). The
arguments are rising CU, rising CD, R, LD, CV and PV. -/
abbrev CountStep := Bool → Bool → Bool → Bool → Int → Int → Option Int

/-- Counting up, stopping at 2^63 − 1 (R161). -/
def countUp (cv : Int) : Option Int := if cv < 2 ^ 63 - 1 then some (cv + 1) else none

/-- Counting down, stopping at −2^63 (R161). -/
def countDown (cv : Int) : Option Int := if -(2 ^ 63) < cv then some (cv - 1) else none

/-- CTU (R161). -/
def ctuStep : CountStep := fun cu _ r _ cv _ => if r then some 0 else if cu then countUp cv else none

/-- CTD (R161). -/
def ctdStep : CountStep := fun _ cd _ ld cv pv => if ld then some pv else if cd then countDown cv else none

/-- CTUD (R161). -/
def ctudStep : CountStep := fun cu cd r ld cv pv =>
  if r then some 0
  else if ld then some pv
  else if cu && cd then none
  else if cu then countUp cv
  else if cd then countDown cv
  else none

/-- The result of CTU (R161). -/
def ctuResult (cv pv : Int) : W64 := boolWord (decide (pv ≤ cv))

/-- The result of CTD (R161). -/
def ctdResult (cv _pv : Int) : W64 := boolWord (decide (cv ≤ 0))

/-- The result of CTUD (R161). -/
def ctudResult (cv pv : Int) : W64 :=
  (if pv ≤ cv then 1 else 0) ||| (if cv ≤ 0 then 2 else 0)

/-- A counter operation (R157, R161). -/
def View.counter (v : View) (d : Reg) (x : W64) (i : Nat) (step : CountStep) (res : Int → Int → W64) : Res :=
  if v.stateWords i 3 then
    let h := v.eng.ib
    let c := v.st i
    let cu := x.getLsbD 0
    let cd := x.getLsbD 1
    let up := cu && !v.prev c 0 cu
    let dn := cd && !v.prev c 1 cd
    let cv := (v.st (i + 1)).toInt
    let pv := (v.st (i + 2)).toInt
    let new := step up dn (x.getLsbD 2) (x.getLsbD 3) cv pv
    let v := v.poke h i ((if cd then 2 else 0) ||| (if cu then 1 else 0))
    let v := match new with | some n => v.poke h (i + 1) (BitVec.ofInt 64 n) | none => v
    .ok (v.w d (res (new.getD cv) pv))
  else .error (v.blockExc i true)

/-- RTRIG (R158): rising edge of Ws ≠ 0. -/
def execRtrig (e : EngRef) (d s1 : Reg) (i : Imm) (s : State) : Host.Outcome State Fault Refusal :=
  s.op e (opWord 0x60 d s1 i) 2 fun v => v.edge d (v.r s1) i.toNat fun inp prev => inp && !prev

/-- FTRIG (R158): falling edge of Ws ≠ 0. -/
def execFtrig (e : EngRef) (d s1 : Reg) (i : Imm) (s : State) : Host.Outcome State Fault Refusal :=
  s.op e (opWord 0x61 d s1 i) 2 fun v => v.edge d (v.r s1) i.toNat fun inp prev => !inp && prev

/-- ATRIG (R158): any change of Ws ≠ 0. -/
def execAtrig (e : EngRef) (d s1 : Reg) (i : Imm) (s : State) : Host.Outcome State Fault Refusal :=
  s.op e (opWord 0x62 d s1 i) 2 fun v => v.edge d (v.r s1) i.toNat fun inp prev => inp != prev

/-- TON (R159). -/
def execTon (e : EngRef) (d s1 : Reg) (i : Imm) (s : State) : Host.Outcome State Fault Refusal :=
  s.op e (opWord 0x70 d s1 i) 4 fun v => v.timerOp d (v.r s1) i.toNat true false tonStep

/-- TOF (R159). -/
def execTof (e : EngRef) (d s1 : Reg) (i : Imm) (s : State) : Host.Outcome State Fault Refusal :=
  s.op e (opWord 0x71 d s1 i) 4 fun v => v.timerOp d (v.r s1) i.toNat false false tofStep

/-- TP (R159). -/
def execTp (e : EngRef) (d s1 : Reg) (i : Imm) (s : State) : Host.Outcome State Fault Refusal :=
  s.op e (opWord 0x72 d s1 i) 4 fun v => v.timerOp d (v.r s1) i.toNat false true tpStep

/-- TELAP (R159): min(el, PT) while RUN, PT while DONE, else 0. -/
def execTelap (e : EngRef) (d : Reg) (i : Imm) (s : State) : Host.Outcome State Fault Refusal :=
  s.op e (opWord 0x73 d 0 i) 3 fun v =>
    if v.stateWords i.toNat 3 then
      let t := timerOf (v.st i.toNat)
      let pt := v.st (i.toNat + 1)
      let el := BitVec.ofNat 64 v.ctx.snap.clk - v.st (i.toNat + 2)
      .ok (v.w d (if t.run then (if el.ult pt then el else pt) else if t.done then pt else 0))
    else .error (v.blockExc i.toNat false)

/-- TRST (R159): the timer block to idle, INIT unchanged. -/
def execTrst (e : EngRef) (i : Imm) (s : State) : Host.Outcome State Fault Refusal :=
  s.op e (opWord 0x74 0 0 i) 2 fun v =>
    if v.stateWords i.toNat 3 then
      let c := v.st i.toNat
      .ok (v.poke v.eng.ib i.toNat
        (timerWord (c.getLsbD 63) { timerOf c with q := false, run := false, done := false } (c.getLsbD 0)))
    else .error (v.blockExc i.toNat true)

/-- CTU (R161): up counter. -/
def execCtu (e : EngRef) (d s1 : Reg) (i : Imm) (s : State) : Host.Outcome State Fault Refusal :=
  s.op e (opWord 0x80 d s1 i) 3 fun v => v.counter d (v.r s1) i.toNat ctuStep ctuResult

/-- CTD (R161): down counter. -/
def execCtd (e : EngRef) (d s1 : Reg) (i : Imm) (s : State) : Host.Outcome State Fault Refusal :=
  s.op e (opWord 0x81 d s1 i) 3 fun v => v.counter d (v.r s1) i.toNat ctdStep ctdResult

/-- CTUD (R161): up-down counter. -/
def execCtud (e : EngRef) (d s1 : Reg) (i : Imm) (s : State) : Host.Outcome State Fault Refusal :=
  s.op e (opWord 0x82 d s1 i) 3 fun v => v.counter d (v.r s1) i.toNat ctudStep ctudResult

end Sys2Proof.Machine
end

