-- ==== Sys2Proof/Machine/Dispatch.lean ====
section
/-! DEFINITION. One arm per command. -/
namespace Sys2Proof.Machine

/-- The effect of a command on everything but the queue. -/
def exec (i : Instr) (s : State) : Host.Outcome State Fault Refusal :=
  match i with
  | .mHello m b => Sys2Proof.Machine.execMHello m b s
  | .mAgree m b => Sys2Proof.Machine.execMAgree m b s
  | .mIdle m => Sys2Proof.Machine.execMIdle m s
  | .mRole m role ready armed key failCause epoch => Sys2Proof.Machine.execMRole m role ready armed key failCause epoch s
  | .mTime m t1 cal ltRate calRate status delayPs t2 => Sys2Proof.Machine.execMTime m t1 cal ltRate calRate status delayPs t2 s
  | .mTimeEcho m answered t1 t2 t3 t4 => Sys2Proof.Machine.execMTimeEcho m answered t1 t2 t3 t4 s
  | .mPlan m released tick entries => Sys2Proof.Machine.execMPlan m released tick entries s
  | .mPayload m gen stn status input => Sys2Proof.Machine.execMPayload m gen stn status input s
  | .mClose m gen subst entered good => Sys2Proof.Machine.execMClose m gen subst entered good s
  | .mSample m f => Sys2Proof.Machine.execMSample m f s
  | .mLive m eng cls ord relTick count v0 v1 => Sys2Proof.Machine.execMLive m eng cls ord relTick count v0 v1 s
  | .mDigest m kind relTick ord full chg dfull => Sys2Proof.Machine.execMDigest m kind relTick ord full chg dfull s
  | .digestWaitTimeout t => Sys2Proof.Machine.execDigestWaitTimeout t s
  | .mRelayUp m port ptp first last f => Sys2Proof.Machine.execMRelayUp m port ptp first last f s
  | .mRelayDn m port entry e => Sys2Proof.Machine.execMRelayDn m port entry e s
  | .mRelayRpt m port entry state sent => Sys2Proof.Machine.execMRelayRpt m port entry state sent s
  | .mMirror m op idem engineering stn reqId client outcome sentAt body => Sys2Proof.Machine.execMMirror m op idem engineering stn reqId client outcome sentAt body s
  | .mMirrorAck m mseq reqId op => Sys2Proof.Machine.execMMirrorAck m mseq reqId op s
  | .mCmd m session reqId method args => Sys2Proof.Machine.execMCmd m session reqId method args s
  | .mCmdRsp m session reqId outcome data => Sys2Proof.Machine.execMCmdRsp m session reqId outcome data s
  | .mStnstate m stn tsp ver reason => Sys2Proof.Machine.execMStnstate m stn tsp ver reason s
  | .mImage m change image => Sys2Proof.Machine.execMImage m change image s
  | .mVerdict m change reason => Sys2Proof.Machine.execMVerdict m change reason s
  | .mHoOpen m fmt donor pages openTick => Sys2Proof.Machine.execMHoOpen m fmt donor pages openTick s
  | .mPage m area page pass words => Sys2Proof.Machine.execMPage m area page pass words s
  | .mSection m ver crcOk sec => Sys2Proof.Machine.execMSection m ver crcOk sec s
  | .mHeld m stn gen bytes => Sys2Proof.Machine.execMHeld m stn gen bytes s
  | .mHoCut m tick sections pages => Sys2Proof.Machine.execMHoCut m tick sections pages s
  | .mHoEnd m result => Sys2Proof.Machine.execMHoEnd m result s
  | .tickEdge t => Sys2Proof.Machine.execTickEdge t s
  | .generationComplete t => Sys2Proof.Machine.execGenerationComplete t s
  | .releaseCopyDone t c => Sys2Proof.Machine.execReleaseCopyDone t c s
  | .checkpointVote t k f => Sys2Proof.Machine.execCheckpointVote t k f s
  | .voteDeadline t k f => Sys2Proof.Machine.execVoteDeadline t k f s
  | .resyncPassDone t l kib marked => Sys2Proof.Machine.execResyncPassDone t l kib marked s
  | .resyncFinalPass t l => Sys2Proof.Machine.execResyncFinalPass t l s
  | .resyncTimeout t l => Sys2Proof.Machine.execResyncTimeout t l s
  | .laneStop t l mem => Sys2Proof.Machine.execLaneStop t l mem s
  | .delayRegError t l correctable => Sys2Proof.Machine.execDelayRegError t l correctable s
  | .sampleRetry t agree => Sys2Proof.Machine.execSampleRetry t agree s
  | .katTest t v0 v1 planted => Sys2Proof.Machine.execKatTest t v0 v1 planted s
  | .shadowStallTimeout t => Sys2Proof.Machine.execShadowStallTimeout t s
  | .buildPoint t => Sys2Proof.Machine.execBuildPoint t s
  | .frameLaunch t port entry => Sys2Proof.Machine.execFrameLaunch t port entry s
  | .atticCommit t => Sys2Proof.Machine.execAtticCommit t s
  | .atticApply t => Sys2Proof.Machine.execAtticApply t s
  | .atticHeaderWrite t => Sys2Proof.Machine.execAtticHeaderWrite t s
  | .atticRefillDone t => Sys2Proof.Machine.execAtticRefillDone t s
  | .atticFault t => Sys2Proof.Machine.execAtticFault t s
  | .nop e => Sys2Proof.Machine.execNop e s
  | .mov e d rs => Sys2Proof.Machine.execMov e d rs s
  | .movi e d im => Sys2Proof.Machine.execMovi e d im s
  | .ldc e d im => Sys2Proof.Machine.execLdc e d im s
  | .ld e d im => Sys2Proof.Machine.execLd e d im s
  | .st e d im => Sys2Proof.Machine.execSt e d im s
  | .ldx e d rs im => Sys2Proof.Machine.execLdx e d rs im s
  | .stx e d rs im => Sys2Proof.Machine.execStx e d rs im s
  | .ldr e d rs im => Sys2Proof.Machine.execLdr e d rs im s
  | .str e d rs im => Sys2Proof.Machine.execStr e d rs im s
  | .ird e d rs => Sys2Proof.Machine.execIrd e d rs s
  | .iwr e d rs => Sys2Proof.Machine.execIwr e d rs s
  | .lkr e d im => Sys2Proof.Machine.execLkr e d im s
  | .lkw e d im => Sys2Proof.Machine.execLkw e d im s
  | .movh e d im => Sys2Proof.Machine.execMovh e d im s
  | .add e d rs => Sys2Proof.Machine.execAdd e d rs s
  | .sub e d rs => Sys2Proof.Machine.execSub e d rs s
  | .addi e d rs im => Sys2Proof.Machine.execAddi e d rs im s
  | .mul e d rs => Sys2Proof.Machine.execMul e d rs s
  | .mulh e d rs => Sys2Proof.Machine.execMulh e d rs s
  | .div e d rs => Sys2Proof.Machine.execDiv e d rs s
  | .divu e d rs => Sys2Proof.Machine.execDivu e d rs s
  | .rem e d rs => Sys2Proof.Machine.execRem e d rs s
  | .neg e d rs => Sys2Proof.Machine.execNeg e d rs s
  | .abs e d rs => Sys2Proof.Machine.execAbs e d rs s
  | .adds e d rs => Sys2Proof.Machine.execAdds e d rs s
  | .subs e d rs => Sys2Proof.Machine.execSubs e d rs s
  | .muls e d rs => Sys2Proof.Machine.execMuls e d rs s
  | .fadd e w d rs => Sys2Proof.Machine.execFadd e w d rs s
  | .fsub e w d rs => Sys2Proof.Machine.execFsub e w d rs s
  | .fmul e w d rs => Sys2Proof.Machine.execFmul e w d rs s
  | .fdiv e w d rs => Sys2Proof.Machine.execFdiv e w d rs s
  | .fsqrt e w d rs => Sys2Proof.Machine.execFsqrt e w d rs s
  | .fma e w d rs im => Sys2Proof.Machine.execFma e w d rs im s
  | .fmin e w d rs => Sys2Proof.Machine.execFmin e w d rs s
  | .fmax e w d rs => Sys2Proof.Machine.execFmax e w d rs s
  | .fneg e w d rs => Sys2Proof.Machine.execFneg e w d rs s
  | .fabs e w d rs => Sys2Proof.Machine.execFabs e w d rs s
  | .fcvti e w d rs => Sys2Proof.Machine.execFcvti e w d rs s
  | .fcvtf e w d rs => Sys2Proof.Machine.execFcvtf e w d rs s
  | .fcvtw e w d rs => Sys2Proof.Machine.execFcvtw e w d rs s
  | .feq e w d rs => Sys2Proof.Machine.execFeq e w d rs s
  | .flt e w d rs => Sys2Proof.Machine.execFlt e w d rs s
  | .fle e w d rs => Sys2Proof.Machine.execFle e w d rs s
  | .ceq e d rs => Sys2Proof.Machine.execCeq e d rs s
  | .cne e d rs => Sys2Proof.Machine.execCne e d rs s
  | .clt e d rs => Sys2Proof.Machine.execClt e d rs s
  | .cle e d rs => Sys2Proof.Machine.execCle e d rs s
  | .cltu e d rs => Sys2Proof.Machine.execCltu e d rs s
  | .cleu e d rs => Sys2Proof.Machine.execCleu e d rs s
  | .ceqi e d rs im => Sys2Proof.Machine.execCeqi e d rs im s
  | .clti e d rs im => Sys2Proof.Machine.execClti e d rs im s
  | .sel e d rs im => Sys2Proof.Machine.execSel e d rs im s
  | .min e d rs => Sys2Proof.Machine.execMin e d rs s
  | .max e d rs => Sys2Proof.Machine.execMax e d rs s
  | .lim e d rs im => Sys2Proof.Machine.execLim e d rs im s
  | .and e d rs => Sys2Proof.Machine.execAnd e d rs s
  | .or e d rs => Sys2Proof.Machine.execOr e d rs s
  | .xor e d rs => Sys2Proof.Machine.execXor e d rs s
  | .not e d rs => Sys2Proof.Machine.execNot e d rs s
  | .andi e d rs im => Sys2Proof.Machine.execAndi e d rs im s
  | .ori e d rs im => Sys2Proof.Machine.execOri e d rs im s
  | .xori e d rs im => Sys2Proof.Machine.execXori e d rs im s
  | .shl e d rs => Sys2Proof.Machine.execShl e d rs s
  | .shr e d rs => Sys2Proof.Machine.execShr e d rs s
  | .sar e d rs => Sys2Proof.Machine.execSar e d rs s
  | .shi e d rs im => Sys2Proof.Machine.execShi e d rs im s
  | .btst e d rs im => Sys2Proof.Machine.execBtst e d rs im s
  | .bset e d rs im => Sys2Proof.Machine.execBset e d rs im s
  | .bclr e d rs im => Sys2Proof.Machine.execBclr e d rs im s
  | .clz e d rs => Sys2Proof.Machine.execClz e d rs s
  | .ext e d rs im => Sys2Proof.Machine.execExt e d rs im s
  | .rtrig e d rs im => Sys2Proof.Machine.execRtrig e d rs im s
  | .ftrig e d rs im => Sys2Proof.Machine.execFtrig e d rs im s
  | .atrig e d rs im => Sys2Proof.Machine.execAtrig e d rs im s
  | .ton e d rs im => Sys2Proof.Machine.execTon e d rs im s
  | .tof e d rs im => Sys2Proof.Machine.execTof e d rs im s
  | .tp e d rs im => Sys2Proof.Machine.execTp e d rs im s
  | .telap e d im => Sys2Proof.Machine.execTelap e d im s
  | .trst e im => Sys2Proof.Machine.execTrst e im s
  | .ctu e d rs im => Sys2Proof.Machine.execCtu e d rs im s
  | .ctd e d rs im => Sys2Proof.Machine.execCtd e d rs im s
  | .ctud e d rs im => Sys2Proof.Machine.execCtud e d rs im s
  | .call e rs im => Sys2Proof.Machine.execCall e rs im s
  | .ret e => Sys2Proof.Machine.execRet e s
  | .calls e im => Sys2Proof.Machine.execCalls e im s
  | .endShare e => Sys2Proof.Machine.execEndShare e s
  | .br e im => Sys2Proof.Machine.execBr e im s
  | .bz e rs im => Sys2Proof.Machine.execBz e rs im s
  | .bnz e rs im => Sys2Proof.Machine.execBnz e rs im s
  | .loop e d rs im len => Sys2Proof.Machine.execLoop e d rs im len s
  | .lend e => Sys2Proof.Machine.execLend e s
  | .lbrk e => Sys2Proof.Machine.execLbrk e s
  | .stime e t d => Sys2Proof.Machine.execStime e t d s
  | .srfx e t d im => Sys2Proof.Machine.execSrfx e t d im s
  | .sstmp e t d im => Sys2Proof.Machine.execSstmp e t d im s
  | .surg e t d im => Sys2Proof.Machine.execSurg e t d im s
  | .surgr e t d im => Sys2Proof.Machine.execSurgr e t d im s
  | .axrd e d rs im => Sys2Proof.Machine.execAxrd e d rs im s
  | .axwr e d rs im => Sys2Proof.Machine.execAxwr e d rs im s
  | .axmp e d im => Sys2Proof.Machine.execAxmp e d im s
  | .axmv e d im => Sys2Proof.Machine.execAxmv e d im s
  | .tadd e d rs => Sys2Proof.Machine.execTadd e d rs s
  | .tsub e d rs => Sys2Proof.Machine.execTsub e d rs s
  | .ttof e d rs => Sys2Proof.Machine.execTtof e d rs s
  | .tfrf e d rs => Sys2Proof.Machine.execTfrf e d rs s
  | .tcmp e d rs => Sys2Proof.Machine.execTcmp e d rs s
  | .tick e d => Sys2Proof.Machine.execTick e d s
  | .clk e d => Sys2Proof.Machine.execClk e d s
  | .first e d => Sys2Proof.Machine.execFirst e d s
  | .key e d => Sys2Proof.Machine.execKey e d s
  | .tt0 e d => Sys2Proof.Machine.execTt0 e d s
  | .rfxf e d im => Sys2Proof.Machine.execRfxf e d im s
  | .arm e rs => Sys2Proof.Machine.execArm e rs s
  | .req e d im => Sys2Proof.Machine.execReq e d im s
  | .rqst e d rs => Sys2Proof.Machine.execRqst e d rs s
  | .fst e d => Sys2Proof.Machine.execFst e d s
  | .evr e d im => Sys2Proof.Machine.execEvr e d im s
  | .badOpcode e word => Sys2Proof.Machine.execBadOpcode e word s
  | .haltComplete t => Sys2Proof.Machine.execHaltComplete t s
  | .breakpointHit t b => Sys2Proof.Machine.execBreakpointHit t b s
  | .keySwitchChange t pos => Sys2Proof.Machine.execKeySwitchChange t pos s
  | .changeStaged t => Sys2Proof.Machine.execChangeStaged t s
  | .changeRemap t => Sys2Proof.Machine.execChangeRemap t s
  | .changeTimeout t => Sys2Proof.Machine.execChangeTimeout t s
  | .masterAccess t master ty addr len => Sys2Proof.Machine.execMasterAccess t master ty addr len s
  | .seal t edits => Sys2Proof.Machine.execSeal t edits s
  | .tableError t master correctable => Sys2Proof.Machine.execTableError t master correctable s
  | .rxFrameStore t port f => Sys2Proof.Machine.execRxFrameStore t port f s
  | .cycIn t port => Sys2Proof.Machine.execCycIn t port s
  | .announce t port => Sys2Proof.Machine.execAnnounce t port s
  | .ready t port => Sys2Proof.Machine.execReady t port s
  | .acyRsp t port => Sys2Proof.Machine.execAcyRsp t port s
  | .peerFrame t port => Sys2Proof.Machine.execPeerFrame t port s
  | .discoverTimer t => Sys2Proof.Machine.execDiscoverTimer t s
  | .startTimeout t stn => Sys2Proof.Machine.execStartTimeout t stn s
  | .revalTimeout t stn => Sys2Proof.Machine.execRevalTimeout t stn s
  | .acyItemSend t stn => Sys2Proof.Machine.execAcyItemSend t stn s
  | .acyResend t stn => Sys2Proof.Machine.execAcyResend t stn s
  | .acyTimeout t stn => Sys2Proof.Machine.execAcyTimeout t stn s
  | .testWaitEnd t stn => Sys2Proof.Machine.execTestWaitEnd t stn s
  | .portLinkChange t port up => Sys2Proof.Machine.execPortLinkChange t port up s
  | .shadowGenerationTimeout t => Sys2Proof.Machine.execShadowGenerationTimeout t s
  | .velocity m cseq vTgt acc dec => Sys2Proof.Machine.execVelocity m cseq vTgt acc dec s
  | .stop m cseq dec => Sys2Proof.Machine.execStop m cseq dec s
  | .quickStop m cseq => Sys2Proof.Machine.execQuickStop m cseq s
  | .setpos m cseq count frac => Sys2Proof.Machine.execSetpos m cseq count frac s
  | .gear axis cseq master atAngle angle num den => Sys2Proof.Machine.execGear axis cseq master atAngle angle num den s
  | .cam axis cseq master atAngle angle camId => Sys2Proof.Machine.execCam axis cseq master atAngle angle camId s
  | .phase axis cseq rampTicks delta => Sys2Proof.Machine.execPhase axis cseq rampTicks delta s
  | .disengage axis cseq => Sys2Proof.Machine.execDisengage axis cseq s
  | .regOn axis cseq => Sys2Proof.Machine.execRegOn axis cseq s
  | .regOff axis cseq => Sys2Proof.Machine.execRegOff axis cseq s
  | .masterLost t m => Sys2Proof.Machine.execMasterLost t m s
  | .edgeLaunch t unit => Sys2Proof.Machine.execEdgeLaunch t unit s
  | .reflexPinChange t pin level => Sys2Proof.Machine.execReflexPinChange t pin level s
  | .edgeCapture t ch edgeLt rising held => Sys2Proof.Machine.execEdgeCapture t ch edgeLt rising held s
  | .armApply t => Sys2Proof.Machine.execArmApply t s
  | .reflexConfigRewrite t => Sys2Proof.Machine.execReflexConfigRewrite t s
  | .reflexMismatch t pin copy => Sys2Proof.Machine.execReflexMismatch t pin copy s
  | .loopCommandApply t ch => Sys2Proof.Machine.execLoopCommandApply t ch s
  | .readbackSample t ch crcOk seq na minNa meanNa stageNa disturbed => Sys2Proof.Machine.execReadbackSample t ch crcOk seq na minNa meanNa stageNa disturbed s
  | .headroomCheck t ch mv stageNa => Sys2Proof.Machine.execHeadroomCheck t ch mv stageNa s
  | .ne43FilterExpiry t ch => Sys2Proof.Machine.execNe43FilterExpiry t ch s
  | .conversionDone t e sum => Sys2Proof.Machine.execConversionDone t e sum s
  | .urgentConversionDone t e code abortedCal => Sys2Proof.Machine.execUrgentConversionDone t e code abortedCal s
  | .calDue t tempMoved => Sys2Proof.Machine.execCalDue t tempMoved s
  | .calDone t => Sys2Proof.Machine.execCalDone t s
  | .calStarved t => Sys2Proof.Machine.execCalStarved t s
  | .zero t => Sys2Proof.Machine.execZero t s
  | .span t => Sys2Proof.Machine.execSpan t s
  | .select t => Sys2Proof.Machine.execSelect t s
  | .buttonTrimDone t meanNa => Sys2Proof.Machine.execButtonTrimDone t meanNa s
  | .ptpSync t ext dom offset ratePpb gmId => Sys2Proof.Machine.execPtpSync t ext dom offset ratePpb gmId s
  | .delayReq t port clockId seq stamp relayed => Sys2Proof.Machine.execDelayReq t port clockId seq stamp relayed s
  | .delayResp t ext offset gmId => Sys2Proof.Machine.execDelayResp t ext offset gmId s
  | .ptpAnnounce t gmId better utcValid utcOffset => Sys2Proof.Machine.execPtpAnnounce t gmId better utcValid utcOffset s
  | .ptpMasterLost t ext => Sys2Proof.Machine.execPtpMasterLost t ext s
  | .keeperStart t => Sys2Proof.Machine.execKeeperStart t s
  | .ltWaitExpiry t => Sys2Proof.Machine.execLtWaitExpiry t s
  | .timeMsgTimeout t => Sys2Proof.Machine.execTimeMsgTimeout t s
  | .partnerOwnFall t => Sys2Proof.Machine.execPartnerOwnFall t s
  | .ownRaise t => Sys2Proof.Machine.execOwnRaise t s
  | .partnerOwnRise t => Sys2Proof.Machine.execPartnerOwnRise t s
  | .ownFallNoLive t => Sys2Proof.Machine.execOwnFallNoLive t s
  | .partnerLiveLost t => Sys2Proof.Machine.execPartnerLiveLost t s
  | .ownStuck t => Sys2Proof.Machine.execOwnStuck t s
  | .livenessWatchdog t => Sys2Proof.Machine.execLivenessWatchdog t s
  | .hallwayLost t => Sys2Proof.Machine.execHallwayLost t s
  | .startRule t => Sys2Proof.Machine.execStartRule t s
  | .readyHoldExpiry t => Sys2Proof.Machine.execReadyHoldExpiry t s
  | .plannedOwnRelease t => Sys2Proof.Machine.execPlannedOwnRelease t s
  | .switchoverTimeout t => Sys2Proof.Machine.execSwitchoverTimeout t s
  | .hallLaneTrained t hl => Sys2Proof.Machine.execHallLaneTrained t hl s
  | .hallLaneLost t hl => Sys2Proof.Machine.execHallLaneLost t hl s
  | .hallTrainingRetry t => Sys2Proof.Machine.execHallTrainingRetry t s
  | .hallLinkBlock t hl seq crcOk => Sys2Proof.Machine.execHallLinkBlock t hl seq crcOk s
  | .hallIdleTimer t => Sys2Proof.Machine.execHallIdleTimer t s
  | .helloResend t => Sys2Proof.Machine.execHelloResend t s
  | .rolePeriodic t => Sys2Proof.Machine.execRolePeriodic t s
  | .timeEchoPeriodic t => Sys2Proof.Machine.execTimeEchoPeriodic t s
  | .joinPassDone t pages marked => Sys2Proof.Machine.execJoinPassDone t pages marked s
  | .joinFinal t tEnd => Sys2Proof.Machine.execJoinFinal t tEnd s
  | .joinTimeout t => Sys2Proof.Machine.execJoinTimeout t s
  | .joinRetry t => Sys2Proof.Machine.execJoinRetry t s
  | .cardReadDone t => Sys2Proof.Machine.execCardReadDone t s
  | .cardAppendDone t ok => Sys2Proof.Machine.execCardAppendDone t ok s
  | .compactionStepDone t ok => Sys2Proof.Machine.execCompactionStepDone t ok s
  | .compactionRetry t => Sys2Proof.Machine.execCompactionRetry t s
  | .cardLockOpen t => Sys2Proof.Machine.execCardLockOpen t s
  | .cardInsert t card => Sys2Proof.Machine.execCardInsert t card s
  | .fwBlockWritten t ok => Sys2Proof.Machine.execFwBlockWritten t ok s
  | .fwSignVerified t holds => Sys2Proof.Machine.execFwSignVerified t holds s
  | .dlIdleTimeout t => Sys2Proof.Machine.execDlIdleTimeout t s
  | .startWatchdog t => Sys2Proof.Machine.execStartWatchdog t s
  | .trialGood t => Sys2Proof.Machine.execTrialGood t s
  | .powerOnStart t side selectHeld => Sys2Proof.Machine.execPowerOnStart t side selectHeld s
  | .powerFail t => Sys2Proof.Machine.execPowerFail t s
  | .leverOpen t => Sys2Proof.Machine.execLeverOpen t s
  | .feedChange t feed mv => Sys2Proof.Machine.execFeedChange t feed mv s
  | .sag t railLow => Sys2Proof.Machine.execSag t railLow s
  | .sagRecovery t => Sys2Proof.Machine.execSagRecovery t s
  | .sfpFault t port => Sys2Proof.Machine.execSfpFault t port s
  | .sfpRetry t port replaced approved => Sys2Proof.Machine.execSfpRetry t port replaced approved s
  | .domainTrip t dom => Sys2Proof.Machine.execDomainTrip t dom s
  | .domainRestore t dom => Sys2Proof.Machine.execDomainRestore t dom s
  | .clockLoss t l1Only => Sys2Proof.Machine.execClockLoss t l1Only s
  | .hearthWatchdog t => Sys2Proof.Machine.execHearthWatchdog t s
  | .bistDone t r => Sys2Proof.Machine.execBistDone t r s
  | .rotPowerOn t => Sys2Proof.Machine.execRotPowerOn t s
  | .rotBistDone t pass ms => Sys2Proof.Machine.execRotBistDone t pass ms s
  | .portTestDone t port roundTrip factory => Sys2Proof.Machine.execPortTestDone t port roundTrip factory s
  | .scanTestEntry t => Sys2Proof.Machine.execScanTestEntry t s
  | .bypass t => Sys2Proof.Machine.execBypass t s
  | .idcode t => Sys2Proof.Machine.execIdcode t s
  | .samplePreload t => Sys2Proof.Machine.execSamplePreload t s
  | .extest t => Sys2Proof.Machine.execExtest t s
  | .clamp t => Sys2Proof.Machine.execClamp t s
  | .highz t => Sys2Proof.Machine.execHighz t s
  | .tlsHandshake t conn eng2 psa done chainOk datesOk ou client => Sys2Proof.Machine.execTlsHandshake t conn eng2 psa done chainOk datesOk ou client s
  | .arpRequest t eng2 ip => Sys2Proof.Machine.execArpRequest t eng2 ip s
  | .icmpEcho t eng2 ip => Sys2Proof.Machine.execIcmpEcho t eng2 ip s
  | .engLinkChange t eng2 up => Sys2Proof.Machine.execEngLinkChange t eng2 up s
  | .openSession t conn id verMin verMax => Sys2Proof.Machine.execOpenSession t conn id verMin verMax s
  | .savisClose t session => Sys2Proof.Machine.execSavisClose t session s
  | .ping r => Sys2Proof.Machine.execPing r s
  | .read r b => Sys2Proof.Machine.execRead r b s
  | .readMulti r bs => Sys2Proof.Machine.execReadMulti r bs s
  | .violValidClear r value => Sys2Proof.Machine.execViolValidClear r value s
  | .write r obj first ofs value => Sys2Proof.Machine.execWrite r obj first ofs value s
  | .outcome r id => Sys2Proof.Machine.execOutcome r id s
  | .subscribe r no b change periodMs => Sys2Proof.Machine.execSubscribe r no b change periodMs s
  | .unsubscribe r no => Sys2Proof.Machine.execUnsubscribe r no s
  | .notifyDue t session no sent => Sys2Proof.Machine.execNotifyDue t session no sent s
  | .sessionTimeout t session => Sys2Proof.Machine.execSessionTimeout t session s
  | .outcomeExpiry t client id => Sys2Proof.Machine.execOutcomeExpiry t client id s
  | .itemPread r stn idem timeoutMs index sub data => Sys2Proof.Machine.execItemPread r stn idem timeoutMs index sub data s
  | .itemPwrite r stn idem timeoutMs index sub data => Sys2Proof.Machine.execItemPwrite r stn idem timeoutMs index sub data s
  | .itemCommand r stn idem timeoutMs index sub data => Sys2Proof.Machine.execItemCommand r stn idem timeoutMs index sub data s
  | .itemDiag r stn idem timeoutMs index sub data => Sys2Proof.Machine.execItemDiag r stn idem timeoutMs index sub data s
  | .imgOpen r load length => Sys2Proof.Machine.execImgOpen r load length s
  | .imgBlock r ofs len writeOk => Sys2Proof.Machine.execImgBlock r ofs len writeOk s
  | .imgEndChange r digest image => Sys2Proof.Machine.execImgEndChange r digest image s
  | .imgEndCold r digest image => Sys2Proof.Machine.execImgEndCold r digest image s
  | .imgEndMapped r digest image => Sys2Proof.Machine.execImgEndMapped r digest image s
  | .imgAbandon r => Sys2Proof.Machine.execImgAbandon r s
  | .imgUploadTimeout t => Sys2Proof.Machine.execImgUploadTimeout t s
  | .restartCold r => Sys2Proof.Machine.execRestartCold r s
  | .restartWarm r => Sys2Proof.Machine.execRestartWarm r s
  | .restartAuto r => Sys2Proof.Machine.execRestartAuto r s
  | .switchover r => Sys2Proof.Machine.execSwitchover r s
  | .hearthReset r => Sys2Proof.Machine.execHearthReset r s
  | .loopTrim r side ch zero span => Sys2Proof.Machine.execLoopTrim r side ch zero span s
  | .latTrim r side port tx rx => Sys2Proof.Machine.execLatTrim r side port tx rx s
  | .restep r => Sys2Proof.Machine.execRestep r s
  | .setTime r v => Sys2Proof.Machine.execSetTime r v s
  | .fwOpen r h => Sys2Proof.Machine.execFwOpen r h s
  | .fwBlock r im crc => Sys2Proof.Machine.execFwBlock r im crc s
  | .fwSign r => Sys2Proof.Machine.execFwSign r s
  | .fwAbandon r => Sys2Proof.Machine.execFwAbandon r s
  | .fwActivate r bank minPfl => Sys2Proof.Machine.execFwActivate r bank minPfl s
  | .projEnroll r pubDigest imageHolds endorsed => Sys2Proof.Machine.execProjEnroll r pubDigest imageHolds endorsed s
  | .projClear r => Sys2Proof.Machine.execProjClear r s
  | .rotTest r lane => Sys2Proof.Machine.execRotTest r lane s
  | .portTest r port pcs => Sys2Proof.Machine.execPortTest r port pcs s
  | .dbgOpen r clockReal => Sys2Proof.Machine.execDbgOpen r clockReal s
  | .dbgClose r => Sys2Proof.Machine.execDbgClose r s
  | .dbgHalt r n => Sys2Proof.Machine.execDbgHalt r n s
  | .dbgStep r n => Sys2Proof.Machine.execDbgStep r n s
  | .dbgResume r => Sys2Proof.Machine.execDbgResume r s
  | .dbgBreak r sel eng pc set => Sys2Proof.Machine.execDbgBreak r sel eng pc set s
  | .dbgRead r addr len => Sys2Proof.Machine.execDbgRead r addr len s
  | .dbgWrite r addr bytes => Sys2Proof.Machine.execDbgWrite r addr bytes s
  | .cardCompact r layout2 => Sys2Proof.Machine.execCardCompact r layout2 s
  | .cardRewrite r => Sys2Proof.Machine.execCardRewrite r s
  | .netSet r target eng2 tcpPort address pfx gateway => Sys2Proof.Machine.execNetSet r target eng2 tcpPort address pfx gateway s
  | .caSet r anchors => Sys2Proof.Machine.execCaSet r anchors s
  | .status r => Sys2Proof.Machine.execStatus r s
  | .porchReset r => Sys2Proof.Machine.execPorchReset r s
  | .firmwareStart t sigOk0 sigOk1 => Sys2Proof.Machine.execFirmwareStart t sigOk0 sigOk1 s
  | .buildDone t => Sys2Proof.Machine.execBuildDone t s
  | .stroke t => Sys2Proof.Machine.execStroke t s
  | .sfpRemoved t port => Sys2Proof.Machine.execSfpRemoved t port s
  | .svcSwitchOff t => Sys2Proof.Machine.execSvcSwitchOff t s
  | .partnerLiveSeen t => Sys2Proof.Machine.execPartnerLiveSeen t s
  | .hallTrainingTimeout t => Sys2Proof.Machine.execHallTrainingTimeout t s
  | .delayReqTimer t ext => Sys2Proof.Machine.execDelayReqTimer t ext s
  | .framingError t session => Sys2Proof.Machine.execFramingError t session s
  | .cardLockClose t => Sys2Proof.Machine.execCardLockClose t s
  | .cardRemoved t => Sys2Proof.Machine.execCardRemoved t s

end Sys2Proof.Machine
end

