-- ==== Sys2Proof/Safety.lean ====
section
/-! DEFINITION. What a safe module is, in the terms that claims use: ownership that rests on a permit and on liveness,
fuses that stay blown, retained words in canonical form. -/
namespace Sys2Proof.Machine

/-- Own OWN is high only with the permit and while the module is live (R449, R451, R452). -/
def Bolt.sound (b : Bolt) : Bool := !b.ownSelf || (b.permit && b.liveSelf)

/-- The retained words are kept in the one canonical form of a memory (R542). -/
def Attic.sound (a : Attic) : Bool := Memory.wf a.home

/-- No fuse of `u` is unblown in `v`: the security version never sinks, a revoked key stays revoked (R573, R563). -/
def Update.fusesStay (u v : Update) : Prop :=
  u.svnFused ≤ v.svnFused ∧ ∀ k : Nat, u.revoked.getLsbD k = true → v.revoked.getLsbD k = true

/-- The state is safe: what every step keeps. -/
def State.Safe (s : State) : Prop := s.m.bolt.sound = true ∧ s.m.attic.sound = true

end Sys2Proof.Machine
end

