-- ==== Sys2Proof/Certificates/Slice0/Obligations.lean ====
section
/-! DEFINITION. The statements about the model that the provers settle. Registers, engines and lanes are named as in the
manual; a clause says what a command's next state holds, for every state and operands that meet its conditions. -/
namespace Sys2Proof.Claims

open Sys2Proof Sys2Proof.Machine

/-! ### Forms that the statements share -/

/-- The command answers a next state: the module `m`, the queue as it was. -/
def Gives (c : Instr) (s : State) (m : Mod) : Prop := exec c s = .next { s with m := m }

/-- The command answers a next state whose module satisfies `P`, the queue as it was. -/
def Ends (c : Instr) (s : State) (P : Mod → Prop) : Prop := ∃ m, Gives c s m ∧ P m

/-- The command has an effect `m` with `P m`, and its next state is `m` after sessions, READY and the partner have been
brought up to date, as `SettlingKeepsTheEffect` states. -/
def Effects (c : Instr) (s : State) (P : Mod → Prop) : Prop := ∃ m, Gives c s (Mod.settle s.m m) ∧ P m

/-- The engine of a command may carry out an operation and stands at a code word; `v` is what it works on (R132, R135). -/
abbrev Stands (s : State) (e : EngRef) (word : W32) (v : View) : Prop := s.m.fetch e word = some v

/-- The operation retires: the engine, its execution and the lane's memory are as in `v`, for a cost in lane cycles. -/
def Retires (c : Instr) (s : State) (e : EngRef) (v : View) (cost : Nat) : Prop :=
  Gives c s (s.m.quiet.putView e v cost true)

/-- The operation raises an exception: it writes nothing and its engine stops (R171, R172). -/
def Raises (c : Instr) (s : State) (e : EngRef) (v : View) (x : Exc) (cost : Nat) : Prop :=
  Gives c s (s.m.quiet.putView e (v.raised x) cost false)

/-- The operation writes Wd alone and goes on at the next word; `f` is the result from the registers before it. -/
def Result (c : Instr) (e : EngRef) (word : W32) (d : Reg) (cost : Nat) (f : View → W64) : Prop :=
  ∀ s v, Stands s e word v → Retires c s e ((v.next 1).w d (f v)) cost

/-- A floating-point operation: its result into Wd and its flags into FSR (R156). -/
def FloatResult (c : Instr) (e : EngRef) (word : W32) (d : Reg) (cost : Nat) (f : View → W64 × BitVec 5) : Prop :=
  ∀ s v, Stands s e word v → Retires c s e (((v.next 1).w d (f v).1).flags (f v).2) cost

/-- A register as a signed number. -/
def sgn (v : View) (k : Reg) : Int := (v.r k).toInt

/-- A register as an unsigned number. -/
def uns (v : View) (k : Reg) : Nat := (v.r k).toNat

/-- A number brought into [−2^63, 2^63 − 1] (R152). -/
def clamp (x : Int) : Int := if x < -(2 ^ 63) then -(2 ^ 63) else if 2 ^ 63 - 1 < x then 2 ^ 63 - 1 else x

/-- 1 where a proposition holds, else 0. -/
def oneIf (p : Prop) [Decidable p] : W64 := if p then 1 else 0

/-- The number of a base opcode in a format (R152). -/
def fpOpcode (w : FWidth) (x : BitVec 8) : BitVec 8 := match w with | .b64 => 0x20 + x | .b32 => 0x30 + x

/-- The cost of a floating-point operation in a format. -/
def fpCost (w : FWidth) (b64 b32 : Nat) : Nat := match w with | .b64 => b64 | .b32 => b32

/-- The words of the instance at handle `h`. -/
def instWords (v : View) (h : Nat) : Nat := 2 + instState v.inst h + instScratch v.inst h

/-- The control word, the second and the third word of a block at field `i` of the current instance. -/
def blockWord (v : View) (i : Imm) (k : Nat) : W64 := memGet v.inst (v.eng.ib / 8 + i.toNat + k)

/-- A block of `n` state words at field `i` lies in the current instance behind its header (R152). -/
abbrev InState (v : View) (i : Imm) (n : Nat) : Prop := 2 ≤ i.toNat ∧ i.toNat + n ≤ 2 + instState v.inst v.eng.ib

/-- The previous value of an input (R157): bit `k` of the control word, at first use FALSE with INITEDGE, else the input. -/
def previous (v : View) (i : Imm) (k : Nat) (inp : Bool) : Bool :=
  if (blockWord v i 0).getLsbD 63 then !instInitEdge v.inst v.eng.ib && inp else (blockWord v i 0).getLsbD k

/-- The line of a timer block after a step (R159): Q, RUN and DONE. -/
structure TimerLine where
  q : Bool
  run : Bool
  done : Bool

/-- TON, TOF and TP (R159) before the time is judged: the flags and whether START is assigned. -/
def timerFirst (kind : Nat) (inp prev : Bool) (pt : Nat) (t : TimerLine) : TimerLine × Bool :=
  match kind with
  | 0 => if !inp then (⟨false, false, false⟩, false)
         else if !t.run && !t.q then (⟨t.q, true, t.done⟩, true) else (t, false)
  | 1 => if inp then (⟨true, false, false⟩, false)
         else if prev && t.q then (⟨t.q, true, t.done⟩, true) else (t, false)
  | _ => let d := inp && t.done
         if inp && !prev && !t.run && decide (0 < pt) then (⟨true, true, d⟩, true) else (⟨t.q, t.run, d⟩, false)

/-- A step of TON (0), TOF (1) or TP (2): `el` is what has elapsed once START is as the step leaves it (R159). -/
def timerStep (kind : Nat) (inp prev : Bool) (pt el : Nat) (t : TimerLine) : TimerLine × Bool :=
  let u := (timerFirst kind inp prev pt t).1
  let start := (timerFirst kind inp prev pt t).2
  let e := if start then 0 else el
  if u.run && decide (pt ≤ e) then
    (match kind with | 0 => ⟨true, false, true⟩ | 1 => ⟨false, false, true⟩ | _ => ⟨false, false, inp⟩, start)
  else (u, start)

/-- A timer operation (R157, R159): the control word with PREV := in and INIT := 0, START where the step assigns it, Wd := Q. -/
def TimerOp (c : Instr) (e : EngRef) (word : W32) (d r : Reg) (i : Imm) (kind : Nat) : Prop :=
  ∀ s v, Stands s e word v → InState v i 3 →
    let inp : Bool := v.r r != 0
    let ctl := blockWord v i 0
    let clk : W64 := BitVec.ofNat 64 v.ctx.snap.clk
    let el := (clk - blockWord v i 2).toNat
    let step := timerStep kind inp (previous v i 0 inp) (blockWord v i 1).toNat el
      ⟨ctl.getLsbD 1, ctl.getLsbD 2, ctl.getLsbD 3⟩
    let t := step.1
    let new : W64 := BitVec.ofNat 64 ((if t.done then 8 else 0) + (if t.run then 4 else 0) + (if t.q then 2 else 0)
      + (if inp then 1 else 0))
    let w := (v.next 1).poke v.eng.ib i.toNat new
    let w := if step.2 then w.poke v.eng.ib (i.toNat + 2) clk else w
    Retires c s e (w.w d (if t.q then 1 else 0)) 4

/-- A counter operation (R157, R161): `step` gives the new CV, none where CV is not written, `res` the result. -/
def CounterOp (c : Instr) (e : EngRef) (word : W32) (d r : Reg) (i : Imm)
    (step : Bool → Bool → Bool → Bool → Int → Int → Option Int) (res : Int → Int → W64) : Prop :=
  ∀ s v, Stands s e word v → InState v i 3 →
    let cu := (v.r r).getLsbD 0
    let cd := (v.r r).getLsbD 1
    let cv := (blockWord v i 1).toInt
    let pv := (blockWord v i 2).toInt
    let new := step (cu && !previous v i 0 cu) (cd && !previous v i 1 cd) ((v.r r).getLsbD 2) ((v.r r).getLsbD 3) cv pv
    let ctl : W64 := (if cd then 2 else 0) ||| (if cu then 1 else 0)
    let w := (v.next 1).poke v.eng.ib i.toNat ctl
    let w := match new with | some x => w.poke v.eng.ib (i.toNat + 1) (BitVec.ofInt 64 x) | none => w
    Retires c s e (w.w d (res (new.getD cv) pv)) 3

/-- An operation on a block that reaches the header, a scratch word or past the instance raises FIELD_RANGE (R152). -/
def BlockFault (c : Instr) (e : EngRef) (word : W32) (i : Imm) (n : Nat) (write : Bool) (cost : Nat) : Prop :=
  ∀ s v, Stands s e word v → ¬InState v i n →
    Raises c s e v ⟨xFieldRange, write, some (instAddr v.eng.ib i.toNat)⟩ cost

/-- Counting up to 2^63 − 1 and down to −2^63 (R161). -/
def countsUp (cv : Int) : Option Int := if cv = 2 ^ 63 - 1 then none else some (cv + 1)
/-- Counting down. -/
def countsDown (cv : Int) : Option Int := if cv = -(2 ^ 63) then none else some (cv - 1)

/-- SHI (R152): its four forms, on bits or a signed number. -/
def shifted (form : Nat) (x : W64) (n : Nat) : W64 :=
  match form with
  | 0 => BitVec.ofNat 64 (x.toNat * 2 ^ n)
  | 1 => BitVec.ofNat 64 (x.toNat / 2 ^ n)
  | 2 => BitVec.ofInt 64 (x.toInt / 2 ^ n)
  | _ => BitVec.ofNat 64 (x.toNat / 2 ^ n + x.toNat * 2 ^ (64 - n))

/-- IRD of a point by its type (R149), `x` the value of its bytes. -/
def loaded (w : View) (d : Reg) (p : W32) (x : Nat) : View :=
  match pointType p with
  | 0 => w.w d (oneIf (x / 2 ^ pointBit p % 2 = 1))
  | 1 => w.w d (BitVec.ofInt 64 (BitVec.ofNat 16 x).toInt)
  | 2 => w.w d (BitVec.ofInt 64 (BitVec.ofNat 32 x).toInt)
  | 6 => w.w2 d (BitVec.ofNat 64 (x % 2 ^ 64)) (BitVec.ofNat 64 (x / 2 ^ 64))
  | _ => w.w d (BitVec.ofNat 64 x)

/-- The code of a key position (R152, R213). -/
def keyCode (k : KeyPos) : W64 := match k with | .run => 0 | .edit => 1 | .halt => 2 | .service => 3

/-- The handle in a register names an instance of the running class on this engine (R143, without the type). -/
abbrev HandleOk (v : View) (h : Nat) : Prop :=
  h % 8 = 0 ∧ h < instSize ∧ instId v.inst h ≠ 0 ∧ instFlags v.inst h / 2 ^ 5 % 8 = clsCode v.cls
    ∧ instFlags v.inst h / 2 ^ 8 % 16 = v.me

/-- Reading word `i` of the instance at `h` into Wd, as LD, LDX and LDR do (R142, R152). -/
def ReadsWord (c : Instr) (s : State) (e : EngRef) (v : View) (d : Reg) (h i cost : Nat) : Prop :=
  (instWords v h ≤ i → Raises c s e v ⟨xFieldRange, false, some (instAddr h i)⟩ cost)
  ∧ (i < 2 + instState v.inst h → Retires c s e ((v.next 1).w d (memGet v.inst (h / 8 + i))) cost)
  ∧ (2 + instState v.inst h ≤ i → i < instWords v h →
      Retires c s e ((v.next 1).w d
        (if (tabFind v.ctx.scratch (h / 8 + i)).isSome then memGet v.inst (h / 8 + i) else 0)) cost)

/-- Storing Wd into word `i` of the instance at `h`, as ST, STX and STR do (R140, R152). -/
def StoresWord (c : Instr) (s : State) (e : EngRef) (v : View) (d : Reg) (h i cost : Nat) : Prop :=
  (i < 2 → Raises c s e v ⟨xHeaderWrite, true, some (instAddr h i)⟩ cost)
  ∧ (2 ≤ i → instWords v h ≤ i → Raises c s e v ⟨xFieldRange, true, some (instAddr h i)⟩ cost)
  ∧ (2 ≤ i → i < instWords v h → Retires c s e ((v.next 1).poke h i (v.r d)) cost)

/-- The value of a TURN96 pair in units of 2^-32 turn (R165). -/
def turns (v : View) (k : Reg) : Int :=
  (v.eng.reg k.toNat).toInt * 2 ^ 32 + ((v.eng.reg (k.toNat + 1)).toNat % 2 ^ 32 : Nat)

/-- A pair written with a TURN96 value, its count wrapped (R165). -/
def putTurns (v : View) (k : Reg) (x : Int) : View :=
  v.w2 k (BitVec.ofInt 64 (x / 2 ^ 32)) (BitVec.ofInt 64 (x % 2 ^ 32))

/-- A SAMPLE operation that the leader carries out on its own sources (R87, R90): no value waits for it, every following file
has room, and the module samples for itself. -/
abbrev Samples (s : State) (t : Nat) (e : EngRef) (word : W32) (v : View) : Prop :=
  Stands s e word v ∧ (s.m.start t).leader = some e.lane
    ∧ drFind (s.m.lane e.lane) v.me ((s.m.lane e.lane).retired v.me) 0 = none ∧ (s.m.start t).sampleRoom e.lane = true
    ∧ (s.m.start t).samplesSelf = true ∧ (s.m.start t).forwarded v = none ∧ (s.m.start t).forwards = false

/-- The next state of a sampled operation: the value goes to the files of the following lanes and into the register. -/
def Sampled (s : State) (e : EngRef) (v : View) (m : Mod) (x y : W64) (w : View) : Mod :=
  (m.pushSample e ((s.m.lane e.lane).retired v.me) x y).putView e w 6 true

/-- The command's next state is that of the module `m` once sessions, READY and the partner are up to date. -/
def Settles (c : Instr) (s : State) (m : Mod) : Prop := Gives c s (Mod.settle s.m m)

/-- A time has been held for `d`. -/
abbrev Since (x : Option Nat) (d now : Nat) : Prop := ∃ y ∈ x, y + d ≤ now

/-- The channel keeps everything but what `f` changes, and so does the module but for an event that it may raise. -/
def LoopBecomes (c : Instr) (s : State) (t ch : Nat) (x : Loop) : Prop :=
  Ends c s fun m => m.loop ch = x ∧ (∀ k, k ≠ ch → m.loop k = s.m.loop k)
    ∧ m.conv = s.m.conv ∧ m.wins = s.m.wins ∧ m.pantry = s.m.pantry ∧ m.now = max s.m.now t

/-- The trim of a channel by the buttons may start now (R399). -/
abbrev MayTrim (m : Mod) (c : Nat) : Prop :=
  m.conv.display = c + 1 ∧ m.serviceOk = true ∧ m.afeOn = true ∧ (m.chan c).mode ≠ .off ∧ m.underTrim c = false
    ∧ (m.conv.trimWait.any fun w => w.ch = c) = false ∧ m.serviceBusy = false

/-- A message of a class that the link takes now: the link is UP, CHK holds and MSEQ follows the last one (R498, R499). -/
abbrev Hears (s : State) (x : Msg) (cls : Nat) : Prop :=
  s.m.hall.link = .up ∧ x.chkOk = true
    ∧ ∀ q ∈ tabFind s.m.hall.rxSeq cls, (q + 1) % 2 ^ 32 = x.mseq % 2 ^ 32

/-- A message that fails the check of R498 or leaves a gap in MSEQ. -/
abbrev Garbled (s : State) (x : Msg) (cls : Nat) : Prop :=
  x.chkOk = false ∨ ∃ q ∈ tabFind s.m.hall.rxSeq cls, (q + 1) % 2 ^ 32 ≠ x.mseq % 2 ^ 32

/-- The module once the message is taken. -/
def Heard (s : State) (x : Msg) (cls : Nat) : Mod :=
  { s.m.start x.moment with hall := { s.m.hall with
    rxSeq := tabSet s.m.hall.rxSeq cls (x.mseq % 2 ^ 32), rxMsgs := inc32 s.m.hall.rxMsgs, lastRx := max s.m.now x.moment } }

/-- The messages that a link takes only while it is UP, with their class (R498, R500). -/
def heardAs : Instr → Option (Msg × Nat)
  | .mIdle x | .mRole x _ _ _ _ _ _ | .mTime x _ _ _ _ _ _ _ | .mTimeEcho x _ _ _ _ _ | .mPlan x _ _ _
  | .mHoOpen x _ _ _ _ | .mHoCut x _ _ _ | .mHoEnd x _ => some (x, 0)
  | .mPayload x _ _ _ _ | .mClose x _ _ _ _ | .mSample x _ | .mLive x _ _ _ _ _ _ _ | .mDigest x _ _ _ _ _ _
  | .mRelayUp x _ _ _ _ _ | .mRelayDn x _ _ _ | .mRelayRpt x _ _ _ _ => some (x, 1)
  | .mMirror x _ _ _ _ _ _ _ _ _ | .mMirrorAck x _ _ _ | .mCmd x _ _ _ _ | .mCmdRsp x _ _ _ _ | .mStnstate x _ _ _ _
  | .mVerdict x _ _ => some (x, 2)
  | .mImage x _ _ | .mPage x _ _ _ _ | .mSection x _ _ _ | .mHeld x _ _ _ => some (x, 3)
  | _ => none

/-- The tick cannot begin yet: no program runs and line time has not passed the tick (R48). -/
abbrev TickWaits (m : Mod) : Prop :=
  m.time.begun = true ∧ m.sched.running = false ∧ ∃ i ∈ m.prog.image, m.ltNs / i.tickNs ≤ m.sched.tick

/-- Every condition for raising OWN holds (R451, R454, R455). -/
abbrev MayRaise (m : Mod) (now : Nat) : Prop :=
  m.bolt.ownSelf = false ∧ m.bolt.ownPartner = false ∧ m.bolt.partnerLow + 2000 ≤ now ∧ m.bolt.permit = true
    ∧ m.bolt.liveSelf = true ∧ m.bolt.bistLatch = true ∧ m.bolt.ownStuck = false
    ∧ (m.bolt.request = true ∨ m.bolt.armed = true)

/-- The lane becomes `f` of what it was; the module keeps everything else. -/
def LaneBecomes (c : Instr) (s : State) (t : Nat) (l : LaneId) (f : Lane → Lane) : Prop :=
  Gives c s ((s.m.start t).setLane l f)

/-- The module fails (R116): FAILED with its cause, no LIVE, no OWN, role OUT. -/
def ModuleFails (c : Instr) (s : State) (code : FailCode) : Prop :=
  Effects c s fun m => m.newel.failed = true ∧ m.newel.failCode = code ∧ m.bolt.permit = false ∧ m.bolt.liveSelf = false
    ∧ m.bolt.ownSelf = false ∧ m.pair.role = .out

/-- No lane is faulted by the vote. -/
abbrev NoFault (f : VoteFaults) : Prop := f.flips = [] ∧ f.missing = [] ∧ f.split = false

/-- A lane has ended its execution of a class and streams the words `ws` (R93, R132). -/
abbrev Streams (m : Mod) (i : Image) (k : Cls) (x : LaneId) (ws : List W64) : Prop :=
  (m.lane x).poison = false ∧ (m.lane x).stopped = none ∧ ∃ z ∈ tabFind (m.lane x).ctxs k.idx, z.live = false
    ∧ (laneRec i (m.lane x) k.idx z).1.words = ws

/-- A lane is in service but still runs its execution of a class. -/
abbrev StillRuns (m : Mod) (k : Cls) (x : LaneId) : Prop :=
  (m.lane x).stopped = none ∧ (m.lane x).poison = false
    ∧ ∃ z ∈ tabFind (m.lane x).ctxs k.idx, z.live = true

/-- A vote may be taken: the image is there, no halt is in force. -/
abbrev Votes (s : State) (i : Image) : Prop := s.m.prog.image = some i ∧ s.m.test.halted = false

/-- The module decides tick n by itself: OWNER or ALONE on its own timing, with no switchover or change due (R48, R66). -/
abbrev OwnTick (s : State) (t : Nat) (i : Image) : Prop :=
  s.m.prog.image = some i ∧ s.m.time.begun = true ∧ s.m.sched.running = true ∧ s.m.controls = true
    ∧ s.m.pair.shadowTiming = false ∧ s.m.pair.plan.st ≠ .go ∧ s.m.prog.go = none
    ∧ (s.m.sched.tick + 1) * i.tickNs ≤ (s.m.start t).ltNs ∧ ∀ r ∈ s.m.savis.reqs, r.cmd = none

/-- The front entry of a port's ring is `e`, which holds a frame of a type. -/
abbrev Front (s : State) (port type : Nat) (e : RxEnt) (rest : List RxEnt) : Prop :=
  (s.m.port port).ring = e :: rest ∧ e.frame.type = type

/-- The version, length and end-to-end check of a frame from a station with record `r` hold (steps 3 to 5 of R284). -/
abbrev Shaped (s : State) (f : Frame) (r : StationRec) : Prop :=
  f.ver = (s.m.stn r.station).ver ∧ f.len = f.payload.length ∧ f.len ≤ 1482 ∧ (f.type = 2 → f.len = 8 + r.inLen)
    ∧ f.e2e = f.e2eOf

/-- The frame comes by `port` from the configured station with record `r` (step 6 of R284). -/
abbrev From (s : State) (port : Nat) (f : Frame) (r : StationRec) : Prop :=
  f.addr = stnAddr r.station ∧ addrStn f.addr = r.station ∧ r.station / 512 = port ∧ s.m.stnRec r.station = some r

/-- EPOCH is the own one or one below (step 7 of R284). -/
abbrev EpochOk (s : State) (f : Frame) : Prop := f.epoch = s.m.pair.epoch ∨ f.epoch + 1 = s.m.pair.epoch

/-- SEQ is not older than the last one accepted (step 8 of R284). -/
abbrev SeqOk (s : State) (f : Frame) (r : StationRec) : Prop :=
  ∀ q ∈ (s.m.stn r.station).lastSeq, serialNewer 32 q f.seq.toNat = false

/-- A station frame that every step of R284 accepts. -/
abbrev Accepted (s : State) (port : Nat) (f : Frame) (r : StationRec) : Prop :=
  From s port f r ∧ Shaped s f r ∧ EpochOk s f ∧ SeqOk s f r

/-- The command takes the front frame and rejects it with a reason code (R319). -/
def RejectsFront (c : Instr) (s : State) (port : Nat) (rest : List RxEnt) (code : Nat) : Prop :=
  Ends c s fun m => (m.port port).ring = rest ∧ (m.port port).rejected = inc32 (s.m.port port).rejected
    ∧ (m.port port).lastRej = code

/-- The frame of tick n+1 came in time: its TICK names it and it was there 1 µs before the sample point (R252). -/
abbrev InTime (s : State) (e : RxEnt) : Prop :=
  e.frame.tick = BitVec.ofNat 32 (s.m.sched.tick + 1) ∧ e.stamp + 1000 ≤ (s.m.sched.tick + 1) * s.m.tickNs

/-- The port has a free entry for acyclic and start frames (R269). -/
abbrev HasEntry (s : State) (stn : Nat) : Prop :=
  (s.m.stn stn).path ≠ .relay ∧ (freeEntry (s.m.port (stn / 512)).txq 768 256).isSome = true

/-- The master `k` is configured with record `r` (R359), and what the LSU reads is `inp`. -/
abbrev HasMaster (s : State) (k : Nat) (inp : LsuIn) (r : MasterRec) : Prop :=
  s.m.lsuIn = some inp ∧ inp.master k = some r ∧ k < 16

/-- The axis `a` is configured with record `r`. -/
abbrev HasAxis (s : State) (a : Nat) (inp : LsuIn) (r : AxisRec) : Prop :=
  s.m.lsuIn = some inp ∧ tabFind (axisTab inp.cfg) a = some r ∧ r.axis = a

/-- A master as a lane's LSU holds it. -/
def mst (m : Mod) (l : LaneId) (k : Nat) (r : MasterRec) : MasterSt := tabGet (m.lane l).lsu.masters (MasterSt.init r.kind) k

/-- An axis as a lane's LSU holds it. -/
def ast (m : Mod) (l : LaneId) (a : Nat) : AxisSt := tabGet (m.lane l).lsu.axes AxisSt.init a

/-- The lane is in service and its LSU is not in the ramp of pair mode HALT. -/
abbrev LsuOn (s : State) (l : LaneId) : Prop := (s.m.lane l).inService = true ∧ (s.m.lane l).lsu.haltRamp = false

/-- The master takes the command in lane `l` and is then `x`; every other master and every axis of the lane is as before. -/
def MasterIs (c : Instr) (s : State) (l : LaneId) (k : Nat) (r : MasterRec) (x : MasterSt) : Prop :=
  Ends c s fun m => mst m l k r = x ∧ (m.lane l).lsu.axes = (s.m.lane l).lsu.axes
    ∧ ∀ j, j ≠ k → tabFind (m.lane l).lsu.masters j = tabFind (s.m.lane l).lsu.masters j

/-- The axis takes the command in lane `l` and is then `x`; every master and every other axis of the lane is as before. -/
def AxisIs (c : Instr) (s : State) (l : LaneId) (a : Nat) (x : AxisSt) : Prop :=
  Ends c s fun m => ast m l a = x ∧ (m.lane l).lsu.masters = (s.m.lane l).lsu.masters
    ∧ ∀ j, j ≠ a → tabFind (m.lane l).lsu.axes j = tabFind (s.m.lane l).lsu.axes j

/-- A master stands ready to be followed: configured, known to the lane, not LOST; `p` is its newest shaft point. -/
abbrev Follows (s : State) (l : LaneId) (inp : LsuIn) (k : Nat) (p : Int) : Prop :=
  (inp.master k).isSome = true ∧ k < 256 ∧ ∃ y ∈ tabFind (s.m.lane l).lsu.masters k, y.state ≠ .lost ∧ ptAt y.pts 0 = p

/-- The bytes of an external master's source (R359). -/
def srcSize (x : SrcType) : Nat := match x with | .turn96 => 12 | .int32 => 4 | .int64 => 8

/-- Bits of a word that only `pin` may change. -/
def OnlyPin (a b : BitVec 16) (pin : Nat) (v : Bool) : Prop :=
  a.getLsbD pin = v ∧ ∀ k, k ≠ pin → a.getLsbD k = b.getLsbD k

/-- What is non-volatile stays as it was (R542, R559, R580, R630, R633). -/
def KeepsStored (a b : Mod) : Prop :=
  b.card.card = a.card.card ∧ b.attic.home = a.attic.home ∧ b.upd.bank0 = a.upd.bank0 ∧ b.upd.bank1 = a.upd.bank1
    ∧ b.upd.revoked = a.upd.revoked ∧ b.upd.svnFused = a.upd.svnFused ∧ b.upd.project = a.upd.project
    ∧ b.savis.net = a.savis.net ∧ b.savis.anchors = a.savis.anchors ∧ b.savis.serial = a.savis.serial

/-- A Hearth reset with a cause (R601): role OUT, OWN and the permit low, the power-up BIST runs, no program, no session. -/
def ResetBy (a b : Mod) (cause : Nat) : Prop :=
  b.power.boot = .bist ∧ b.power.resetCause = cause ∧ b.pair.role = .out ∧ b.bolt.permit = false ∧ b.bolt.ownSelf = false
    ∧ b.bolt.side = a.bolt.side ∧ b.prog.image = none ∧ b.savis.sess = [] ∧ KeepsStored a b

/-- The permit clears and the module is OUT with a cause (R449, R452, R459). -/
def LeavesRole (m : Mod) (cause : Nat) : Prop :=
  m.bolt.permit = false ∧ m.bolt.liveSelf = false ∧ m.bolt.ownSelf = false ∧ m.pair.role = .out ∧ m.pair.outCause = cause

/-- A port's time record. -/
def ptime (m : Mod) (p : Nat) : PortTime := tabGet m.time.ports .zero p

/-- A request that its session may send and the queue takes and starts at once: a session `x` is open, the key is new, no other
request waits, fewer than 8 run, there is room (R634, R637, R640, R641, R70). -/
abbrev Fresh (s : State) (r : Req) (x : Sess) : Prop :=
  tabFind s.m.savis.sess r.session = some x ∧ r.id ≠ 0 ∧ r.bodyOk = true ∧ s.m.savis.anchors ≠ [] ∧ s.m.upd.porch = false
    ∧ (∀ q ∈ s.m.savis.reqs, ¬(q.client = x.client ∧ q.id = r.id)) ∧ (∀ q ∈ s.m.savis.reqs, q.cmd = none)
    ∧ s.m.queueFull r.session x.client = false ∧ (s.m.savis.reqs.filter SReq.runs).length < 8

/-- The request ended: its reply went out and its outcome is retained with up to 256 bytes of it (R640, R642). -/
def Answered (m : Mod) (r : Req) (x : Sess) (o : Outc) (reason : Nat) (data : List Byte) : Prop :=
  (∃ q ∈ m.savis.reqs, q.client = x.client ∧ q.id = r.id ∧ q.outcome = some o ∧ q.reason = reason ∧ q.data = data.take 256)
    ∧ ∃ cal v, .reply r.session r.id o.code reason 0 true data cal v ∈ m.out

/-- The reply went out; what is retained is said elsewhere. -/
def Replied (m : Mod) (r : Req) (o : Outc) (reason : Nat) (data : List Byte) : Prop :=
  ∃ cal v, .reply r.session r.id o.code reason 0 true data cal v ∈ m.out

/-- The request has started and not ended. -/
def Runs (m : Mod) (r : Req) (x : Sess) : Prop :=
  ∃ q ∈ m.savis.reqs, q.client = x.client ∧ q.id = r.id ∧ q.outcome = none ∧ q.cmd = none

/-- Nothing changed but what the link itself keeps: sessions, requests, counters, messages sent (R640). -/
def OnlyTold (a b : Mod) : Prop :=
  b.prog = a.prog ∧ b.pair = a.pair ∧ b.bolt = a.bolt ∧ b.upd = a.upd ∧ b.card = a.card ∧ b.conv = a.conv ∧ b.time = a.time
    ∧ b.pantry = a.pantry ∧ b.lanes = a.lanes ∧ b.loops = a.loops ∧ b.access = a.access ∧ b.power = a.power
    ∧ b.attic = a.attic ∧ b.sched = a.sched ∧ b.newel = a.newel ∧ b.reflex = a.reflex ∧ b.savis.net = a.savis.net
    ∧ b.savis.anchors = a.savis.anchors ∧ b.savis.upload = a.savis.upload

/-- The requests that need the role ENGINEER (R634, R647), each with itself as a request. -/
def engineerReq : Instr → Option Req
  | .violValidClear r _ | .write r _ _ _ _ | .imgOpen r _ _ | .imgBlock r _ _ _ | .imgEndChange r _ _ | .imgEndCold r _ _
  | .imgEndMapped r _ _ | .imgAbandon r | .restartCold r | .restartWarm r | .restartAuto r | .switchover r | .hearthReset r
  | .loopTrim r _ _ _ _ | .latTrim r _ _ _ _ | .restep r | .setTime r _ | .fwOpen r _ | .fwBlock r _ _ | .fwSign r
  | .fwAbandon r | .fwActivate r _ _ | .projEnroll r _ _ _ | .rotTest r _ | .portTest r _ _ | .dbgOpen r _ | .dbgClose r
  | .dbgHalt r _ | .dbgStep r _ | .dbgResume r | .dbgBreak r _ _ _ _ | .dbgRead r _ _ | .dbgWrite r _ _ | .cardCompact r _
  | .cardRewrite r | .netSet r _ _ _ _ _ _ | .caSet r _ => some r
  | _ => none

/-- The requests that a module serves only while it controls the domain (R647). -/
def ownerReq : Instr → Option Req
  | .imgEndChange r _ _ | .restartCold r | .restartWarm r | .restartAuto r | .switchover r | .projEnroll r _ _ _ => some r
  | _ => none

/-- The requests that the pair mode limits, with the modes that allow them (R184, R647). -/
def modeReq : Instr → Option (Req × List KeyPos)
  | .imgOpen r true _ => some (r, [.halt])
  | .imgOpen r false _ | .imgEndChange r _ _ | .switchover r | .loopTrim r _ _ _ _ | .latTrim r _ _ _ _ =>
    some (r, [.edit, .service])
  | .imgEndCold r _ _ | .imgEndMapped r _ _ | .restartCold r | .restartWarm r | .restartAuto r | .projEnroll r _ _ _ =>
    some (r, [.halt])
  | .rotTest r _ | .dbgOpen r _ => some (r, [.service])
  | .netSet r _ _ _ _ _ _ | .caSet r _ => some (r, [.service, .halt])
  | _ => none

/-- A request of an engineer, as `Fresh`. -/
abbrev ByEngineer (s : State) (r : Req) (x : Sess) : Prop := Fresh s r x ∧ x.role = .engineer ∧ 1 ≤ x.ver

/-- The request ends with an outcome and reason, and nothing else changed. -/
def Turned (c : Instr) (s : State) (r : Req) (x : Sess) (o : Outc) (reason : Nat) : Prop :=
  Effects c s fun m => Answered m r x o reason [] ∧ OnlyTold s.m m

/-- The item as it waits at its station (R308). -/
def newItem (r : Req) (x : Sess) (kind : Nat) (idem : Bool) (timeoutMs index sub : Nat) (data : List Byte) : Item :=
  { reqId := r.id, client := x.client, kind := kind, idem := idem, timeoutMs := if timeoutMs = 0 then 100 else timeoutMs
    index := index, sub := sub, data := data }

/-- An item request (R70, R308-R310): taken at the end of its station's queue while the module controls the domain, the station is
configured and its queue has room. -/
def ItemTaken (c : Instr) (s : State) (r : Req) (x : Sess) (stn : Nat) (i : Item) : Prop :=
  Effects c s fun m => (m.stn stn).items = (s.m.stn stn).items ++ [{ i with pended := true }] ∧ Runs m r x
    ∧ ∃ pos cal v, .reply r.session r.id 1 0 pos false [] cal v ∈ m.out

/-- What an item request needs (R69, R70, R309, R648). -/
abbrev ItemReady (s : State) (r : Req) (x : Sess) (stn timeoutMs index sub : Nat) (data : List Byte) : Prop :=
  Fresh s r x ∧ x.role ≠ .viewer ∧ 1 ≤ x.ver ∧ s.m.controls = true ∧ s.m.redundant = false ∧ (s.m.stnRec stn).isSome = true
    ∧ stn < 2048 ∧ timeoutMs ≤ 60000 ∧ index < 65536 ∧ sub < 256 ∧ data.length ≤ verData (s.m.stn stn).ver
    ∧ (s.m.stn stn).items.length < 8 ∧ s.m.itemCount < 4096

/-- A debug session is open for the session of the request (R620, R647). -/
abbrev Debugs (s : State) (r : Req) (x : Sess) : Prop := ByEngineer s r x ∧ s.m.test.dbgOpen = some r.session

/-- The module takes service actions: pair mode SERVICE, no other one in progress (R184, R484). -/
abbrev Services (s : State) (r : Req) (x : Sess) : Prop :=
  ByEngineer s r x ∧ s.m.prog.pairKey = .service ∧ s.m.serviceBusy = false

/-- The bytes of an instance area word by word. -/
def areaBytes (w : Mem 64) (ofs len : Nat) : List Byte :=
  (List.range len).map fun i => (memGet w ((ofs + i) / 8)).extractLsb' (8 * ((ofs + i) % 8)) 8

/-- The engine of an operation of block code that samples nothing. -/
def opOf : Instr → Option EngRef
  | .nop e | .mov e _ _ | .movi e _ _ | .ldc e _ _ | .ld e _ _ | .st e _ _ | .ldx e _ _ _ | .stx e _ _ _
  | .ldr e _ _ _ | .str e _ _ _ | .ird e _ _ | .iwr e _ _ | .lkr e _ _ | .lkw e _ _ | .movh e _ _ | .add e _ _
  | .sub e _ _ | .addi e _ _ _ | .mul e _ _ | .mulh e _ _ | .div e _ _ | .divu e _ _ | .rem e _ _ | .neg e _ _
  | .abs e _ _ | .adds e _ _ | .subs e _ _ | .muls e _ _ | .fadd e _ _ _ | .fsub e _ _ _ | .fmul e _ _ _
  | .fdiv e _ _ _ | .fsqrt e _ _ _ | .fma e _ _ _ _ | .fmin e _ _ _ | .fmax e _ _ _ | .fneg e _ _ _ | .fabs e _ _ _
  | .fcvti e _ _ _ | .fcvtf e _ _ _ | .fcvtw e _ _ _ | .feq e _ _ _ | .flt e _ _ _ | .fle e _ _ _ | .ceq e _ _
  | .cne e _ _ | .clt e _ _ | .cle e _ _ | .cltu e _ _ | .cleu e _ _ | .ceqi e _ _ _ | .clti e _ _ _ | .sel e _ _ _
  | .min e _ _ | .max e _ _ | .lim e _ _ _ | .and e _ _ | .or e _ _ | .xor e _ _ | .not e _ _ | .andi e _ _ _
  | .ori e _ _ _ | .xori e _ _ _ | .shl e _ _ | .shr e _ _ | .sar e _ _ | .shi e _ _ _ | .btst e _ _ _
  | .bset e _ _ _ | .bclr e _ _ _ | .clz e _ _ | .ext e _ _ _ | .rtrig e _ _ _ | .ftrig e _ _ _ | .atrig e _ _ _
  | .ton e _ _ _ | .tof e _ _ _ | .tp e _ _ _ | .telap e _ _ | .trst e _ | .ctu e _ _ _ | .ctd e _ _ _
  | .ctud e _ _ _ | .call e _ _ | .ret e | .calls e _ | .endShare e | .br e _ | .bz e _ _ | .bnz e _ _
  | .loop e _ _ _ _ | .lend e | .lbrk e | .axrd e _ _ _ | .axwr e _ _ _ | .axmp e _ _ | .axmv e _ _ | .tadd e _ _
  | .tsub e _ _ | .ttof e _ _ | .tfrf e _ _ | .tcmp e _ _ | .tick e _ | .clk e _ | .first e _ | .key e _ | .tt0 e _
  | .rfxf e _ _ | .arm e _ | .req e _ _ | .rqst e _ _ | .fst e _ | .evr e _ _ | .badOpcode e _ => some e
  | _ => none

/-- Word `k` of a status object, behind its place header (R30, R11). -/
def objWord (b : List Byte) (k : Nat) : Nat := leNat ((b.drop (16 + 4 * k)).take 4)

/-- PARTNER of PAIR.ROLE (R491): 7 for unknown. -/
def partnerCode (m : Mod) : Nat := match m.pair.partner with | some x => x.code | none => 7

/-- PLAN of PAIR.ROLE (R491). -/
def planCode (p : PlanState) : Nat :=
  match p with | .idle => 0 | .waiting => 1 | .go => 2 | .done => 3 | .refused => 4 | .failed => 5

/-- A bit field of a word: bits `lo` and up, `n` of them. -/
def field (w lo n : Nat) : Nat := w / 2 ^ lo % 2 ^ n

/-- The partner gets the outcome of a request that it passed on (R647). -/
def TellsPartner (m : Mod) (k id : Nat) (o : Outc) : Prop := ∃ y, .hall (.mCmdRsp y k id o []) ∈ m.out

end Sys2Proof.Claims

open Sys2Proof Sys2Proof.Machine Sys2Proof.Claims

/-- ARITH-INT (R152): results as integers, wrapped or saturated.
Choices of the model that it meets: log entry 4. -/
def Obligations.IntegerOperationsComputeAsTabled : Prop :=
  (∀ e d r, Result (.add e d r) e (opWord 0x10 d r 0) d 1 fun v => BitVec.ofInt 64 (sgn v d + sgn v r))
  ∧ (∀ e d r, Result (.sub e d r) e (opWord 0x11 d r 0) d 1 fun v => BitVec.ofInt 64 (sgn v d - sgn v r))
  ∧ (∀ e d r i, Result (.addi e d r i) e (opWord 0x12 d r i) d 1 fun v => BitVec.ofInt 64 (sgn v r + i.toInt))
  ∧ (∀ e d r, Result (.mul e d r) e (opWord 0x13 d r 0) d 3 fun v => BitVec.ofInt 64 (sgn v d * sgn v r))
  ∧ (∀ e d r, Result (.mulh e d r) e (opWord 0x14 d r 0) d 4 fun v => BitVec.ofInt 64 (sgn v d * sgn v r / 2 ^ 64))
  ∧ (∀ e d r, Result (.neg e d r) e (opWord 0x18 d r 0) d 1 fun v => BitVec.ofInt 64 (-sgn v r))
  ∧ (∀ e d r, Result (.abs e d r) e (opWord 0x19 d r 0) d 1 fun v => BitVec.ofInt 64 ((sgn v r).natAbs))
  ∧ (∀ e d r, Result (.adds e d r) e (opWord 0x1A d r 0) d 1 fun v => BitVec.ofInt 64 (clamp (sgn v d + sgn v r)))
  ∧ (∀ e d r, Result (.subs e d r) e (opWord 0x1B d r 0) d 1 fun v => BitVec.ofInt 64 (clamp (sgn v d - sgn v r)))
  ∧ (∀ e d r, Result (.muls e d r) e (opWord 0x1C d r 0) d 4 fun v => BitVec.ofInt 64 (clamp (sgn v d * sgn v r)))
  ∧ (∀ s v e d r, Stands s e (opWord 0x15 d r 0) v → v.r r ≠ 0 →
      Retires (.div e d r) s e ((v.next 1).w d (BitVec.ofInt 64 ((sgn v d).tdiv (sgn v r)))) 20)
  ∧ (∀ s v e d r, Stands s e (opWord 0x16 d r 0) v → v.r r ≠ 0 →
      Retires (.divu e d r) s e ((v.next 1).w d (BitVec.ofNat 64 (uns v d / uns v r))) 20)
  ∧ (∀ s v e d r, Stands s e (opWord 0x17 d r 0) v → v.r r ≠ 0 →
      Retires (.rem e d r) s e ((v.next 1).w d (BitVec.ofInt 64 ((sgn v d).tmod (sgn v r)))) 20)
  ∧ (∀ s v e d r, Stands s e (opWord 0x15 d r 0) v → v.r r = 0 → Raises (.div e d r) s e v (exc xDivZero) 20)
  ∧ (∀ s v e d r, Stands s e (opWord 0x16 d r 0) v → v.r r = 0 → Raises (.divu e d r) s e v (exc xDivZero) 20)
  ∧ (∀ s v e d r, Stands s e (opWord 0x17 d r 0) v → v.r r = 0 → Raises (.rem e d r) s e v (exc xDivZero) 20)

/-- ARITH-FLOAT (R152-R156): results and flags of both formats; every NaN that an operation delivers is the canonical quiet NaN of its
format, and comparisons with a NaN give 0 (R154).
Choices of the model that it meets: log entries 4, 9, 107. -/
def Obligations.FloatOperationsDeliverResultAndFlags : Prop :=
  (∀ e w d r, FloatResult (.fadd e w d r) e (opWord (fpOpcode w 0) d r 0) d (fpCost w 4 3)
    fun v => fpAdd w (fpOf w (v.r d)) (fpOf w (v.r r)))
  ∧ (∀ e w d r, FloatResult (.fsub e w d r) e (opWord (fpOpcode w 1) d r 0) d (fpCost w 4 3)
    fun v => fpAdd w (fpOf w (v.r d)) (fpOf w (v.r r)).negate)
  ∧ (∀ e w d r, FloatResult (.fmul e w d r) e (opWord (fpOpcode w 2) d r 0) d (fpCost w 4 3)
    fun v => fpMul w (fpOf w (v.r d)) (fpOf w (v.r r)))
  ∧ (∀ e w d r, FloatResult (.fdiv e w d r) e (opWord (fpOpcode w 3) d r 0) d (fpCost w 14 10)
    fun v => fpDiv w (fpOf w (v.r d)) (fpOf w (v.r r)))
  ∧ (∀ e w d r, FloatResult (.fsqrt e w d r) e (opWord (fpOpcode w 4) d r 0) d (fpCost w 16 12)
    fun v => fpSqrt w (fpOf w (v.r r)))
  ∧ (∀ e w d r i, FloatResult (.fma e w d r i) e (opWord (fpOpcode w 5) d r i) d (fpCost w 5 4)
    fun v => fpFma w (Config.fmaInvalid w (v.r r) (v.eng.reg (i.toNat % 32)) (v.r d))
      (fpOf w (v.r r)) (fpOf w (v.eng.reg (i.toNat % 32))) (fpOf w (v.r d)))
  ∧ (∀ e w d r, FloatResult (.fmin e w d r) e (opWord (fpOpcode w 6) d r 0) d 2 fun v => fpMinMax w false (v.r d) (v.r r))
  ∧ (∀ e w d r, FloatResult (.fmax e w d r) e (opWord (fpOpcode w 7) d r 0) d 2 fun v => fpMinMax w true (v.r d) (v.r r))
  ∧ (∀ e w d r, FloatResult (.fneg e w d r) e (opWord (fpOpcode w 8) d r 0) d 1
    fun v => (BitVec.ofNat 64 ((v.r r ^^^ (1#64 <<< (FWidth.bits w - 1))).toNat % 2 ^ FWidth.bits w), 0))
  ∧ (∀ e w d r, FloatResult (.fabs e w d r) e (opWord (fpOpcode w 9) d r 0) d 1
    fun v => (BitVec.ofNat 64 ((v.r r).toNat % 2 ^ (FWidth.bits w - 1)), 0))
  ∧ (∀ e w d r, FloatResult (.fcvti e w d r) e (opWord (fpOpcode w 0xA) d r 0) d 3 fun v => fpToInt (fpOf w (v.r r)))
  ∧ (∀ e w d r, FloatResult (.fcvtf e w d r) e (opWord (fpOpcode w 0xB) d r 0) d 3 fun v => fpOfInt w (sgn v r))
  ∧ (∀ e d r, FloatResult (.fcvtw e .b64 d r) e (opWord 0x2C d r 0) d 2 fun v => fpConv .b32 (fpOf .b64 (v.r r)))
  ∧ (∀ e d r, FloatResult (.fcvtw e .b32 d r) e (opWord 0x3C d r 0) d 2 fun v => fpConv .b64 (fpOf .b32 (v.r r)))
  ∧ (∀ e w d r, FloatResult (.feq e w d r) e (opWord (fpOpcode w 0xD) d r 0) d 2
    fun v => fpEq (fpOf w (v.r d)) (fpOf w (v.r r)))
  ∧ (∀ e w d r, FloatResult (.flt e w d r) e (opWord (fpOpcode w 0xE) d r 0) d 2
    fun v => fpCmp false (fpOf w (v.r d)) (fpOf w (v.r r)))
  ∧ (∀ e w d r, FloatResult (.fle e w d r) e (opWord (fpOpcode w 0xF) d r 0) d 2
    fun v => fpCmp true (fpOf w (v.r d)) (fpOf w (v.r r)))
  ∧ (∀ w : FWidth, ∀ x y z : W64, ∀ open_ : Bool,
      ((fpOf w x).isNan = true →
        (fpAdd w (fpOf w x) (fpOf w y)).1 = canonNan w ∧ (fpAdd w (fpOf w y) (fpOf w x)).1 = canonNan w
        ∧ (fpMul w (fpOf w x) (fpOf w y)).1 = canonNan w ∧ (fpMul w (fpOf w y) (fpOf w x)).1 = canonNan w
        ∧ (fpDiv w (fpOf w x) (fpOf w y)).1 = canonNan w ∧ (fpDiv w (fpOf w y) (fpOf w x)).1 = canonNan w
        ∧ (fpSqrt w (fpOf w x)).1 = canonNan w
        ∧ (fpFma w open_ (fpOf w x) (fpOf w y) (fpOf w z)).1 = canonNan w
        ∧ (fpFma w open_ (fpOf w y) (fpOf w x) (fpOf w z)).1 = canonNan w
        ∧ (fpFma w open_ (fpOf w y) (fpOf w z) (fpOf w x)).1 = canonNan w
        ∧ (∀ l, (fpMinMax w l x y).1 = canonNan w ∧ (fpMinMax w l y x).1 = canonNan w)
        ∧ (∀ u, (fpConv u (fpOf w x)).1 = canonNan u)
        ∧ (fpToInt (fpOf w x)).1 = 0
        ∧ (fpEq (fpOf w x) (fpOf w y)).1 = 0 ∧ (fpEq (fpOf w y) (fpOf w x)).1 = 0
        ∧ (∀ l, fpCmp l (fpOf w x) (fpOf w y) = (0, fInvalid) ∧ fpCmp l (fpOf w y) (fpOf w x) = (0, fInvalid)))
      ∧ (fpOf .b64 (canonNan .b64) = .nan false ∧ fpOf .b32 (canonNan .b32) = .nan false)
      ∧ (∀ n k : Bool, ∀ e f : Int, (fpAdd w (.inf n) (.inf !n)).1 = canonNan w
        ∧ (fpMul w (.inf n) (.fin k 0 e)).1 = canonNan w ∧ (fpMul w (.fin k 0 e) (.inf n)).1 = canonNan w
        ∧ (fpDiv w (.inf n) (.inf k)).1 = canonNan w ∧ (fpDiv w (.fin n 0 e) (.fin k 0 f)).1 = canonNan w
        ∧ (fpSqrt w (.inf true)).1 = canonNan w ∧ (∀ m, 0 < m → (fpSqrt w (.fin true m e)).1 = canonNan w)
        ∧ (∀ a, (fpFma w open_ (.inf n) (.fin k 0 e) a).1 = canonNan w ∧ (fpFma w open_ (.fin k 0 e) (.inf n) a).1 = canonNan w)
        ∧ (∀ m, 0 < m → (fpFma w open_ (.inf n) (.fin k m e) (.inf (n == k))).1 = canonNan w
            ∧ (fpFma w open_ (.fin k m e) (.inf n) (.inf (n == k))).1 = canonNan w)
        ∧ (fpFma w open_ (.inf n) (.inf k) (.inf (n == k))).1 = canonNan w)
      ∧ (canonNan .b64 = 0x7FF8000000000000#64 ∧ canonNan .b32 = 0x7FC00000#64)
      ∧ (let minus : W64 := 1#64 <<< (FWidth.bits w - 1)
         (∀ a ∈ [0#64, minus], ∀ b ∈ [0#64, minus], (fpEq (fpOf w a) (fpOf w b)).1 = 1
           ∧ (fpMinMax w true a b).1 = a &&& b ∧ (fpMinMax w false a b).1 = a ||| b))
      ∧ ((fpEq (fpOf w x) (fpOf w y)).2 = if fpOf w x = .nan true ∨ fpOf w y = .nan true then fInvalid else 0))

/-- CMP/SEL and BIT (R152).
Choices of the model that it meets: log entry 4. -/
def Obligations.CompareSelectAndBitOperations : Prop :=
  (∀ e d r, Result (.ceq e d r) e (opWord 0x40 d r 0) d 1 fun v => oneIf (sgn v d = sgn v r))
  ∧ (∀ e d r, Result (.cne e d r) e (opWord 0x41 d r 0) d 1 fun v => oneIf (sgn v d ≠ sgn v r))
  ∧ (∀ e d r, Result (.clt e d r) e (opWord 0x42 d r 0) d 1 fun v => oneIf (sgn v d < sgn v r))
  ∧ (∀ e d r, Result (.cle e d r) e (opWord 0x43 d r 0) d 1 fun v => oneIf (sgn v d ≤ sgn v r))
  ∧ (∀ e d r, Result (.cltu e d r) e (opWord 0x44 d r 0) d 1 fun v => oneIf (uns v d < uns v r))
  ∧ (∀ e d r, Result (.cleu e d r) e (opWord 0x45 d r 0) d 1 fun v => oneIf (uns v d ≤ uns v r))
  ∧ (∀ e d r i, Result (.ceqi e d r i) e (opWord 0x46 d r i) d 1 fun v => oneIf (sgn v r = i.toInt))
  ∧ (∀ e d r i, Result (.clti e d r i) e (opWord 0x47 d r i) d 1 fun v => oneIf (sgn v r < i.toInt))
  ∧ (∀ e d r i, Result (.sel e d r i) e (opWord 0x48 d r i) d 1
      fun v => if v.eng.reg (i.toNat % 32) ≠ 0 then v.r r else v.r d)
  ∧ (∀ e d r, Result (.min e d r) e (opWord 0x49 d r 0) d 1 fun v => BitVec.ofInt 64 (min (sgn v d) (sgn v r)))
  ∧ (∀ e d r, Result (.max e d r) e (opWord 0x4A d r 0) d 1 fun v => BitVec.ofInt 64 (max (sgn v d) (sgn v r)))
  ∧ (∀ e d r i, Result (.lim e d r i) e (opWord 0x4B d r i) d 2
      fun v => BitVec.ofInt 64 (min (max (sgn v d) (sgn v r)) (v.eng.reg (i.toNat % 32)).toInt))
  ∧ (∀ e d r, Result (.and e d r) e (opWord 0x50 d r 0) d 1 fun v => v.r d &&& v.r r)
  ∧ (∀ e d r, Result (.or e d r) e (opWord 0x51 d r 0) d 1 fun v => v.r d ||| v.r r)
  ∧ (∀ e d r, Result (.xor e d r) e (opWord 0x52 d r 0) d 1 fun v => v.r d ^^^ v.r r)
  ∧ (∀ e d r, Result (.not e d r) e (opWord 0x53 d r 0) d 1 fun v => ~~~(v.r r))
  ∧ (∀ e d r i, Result (.andi e d r i) e (opWord 0x54 d r i) d 1 fun v => v.r r &&& BitVec.ofNat 64 i.toNat)
  ∧ (∀ e d r i, Result (.ori e d r i) e (opWord 0x55 d r i) d 1 fun v => v.r r ||| BitVec.ofNat 64 i.toNat)
  ∧ (∀ e d r i, Result (.xori e d r i) e (opWord 0x56 d r i) d 1 fun v => v.r r ^^^ BitVec.ofNat 64 i.toNat)
  ∧ (∀ e d r, Result (.shl e d r) e (opWord 0x57 d r 0) d 1 fun v => BitVec.ofNat 64 (uns v d * 2 ^ (uns v r % 64)))
  ∧ (∀ e d r, Result (.shr e d r) e (opWord 0x58 d r 0) d 1 fun v => BitVec.ofNat 64 (uns v d / 2 ^ (uns v r % 64)))
  ∧ (∀ e d r, Result (.sar e d r) e (opWord 0x59 d r 0) d 1 fun v => BitVec.ofInt 64 (sgn v d / 2 ^ (uns v r % 64)))
  ∧ (∀ e d r i, Result (.shi e d r i) e (opWord 0x5A d r i) d 1 fun v =>
      shifted (i.toNat / 64 % 4) (v.r r) (i.toNat % 64))
  ∧ (∀ e d r i, Result (.btst e d r i) e (opWord 0x5B d r i) d 1 fun v => oneIf (uns v r / 2 ^ (i.toNat % 64) % 2 = 1))
  ∧ (∀ e d r i, Result (.bset e d r i) e (opWord 0x5C d r i) d 1 fun v => v.r r ||| BitVec.twoPow 64 (i.toNat % 64))
  ∧ (∀ e d r i, Result (.bclr e d r i) e (opWord 0x5D d r i) d 1 fun v => v.r r &&& ~~~BitVec.twoPow 64 (i.toNat % 64))
  ∧ (∀ e d r, Result (.clz e d r) e (opWord 0x5E d r 0) d 1
      fun v => BitVec.ofNat 64 (if uns v r = 0 then 64 else 63 - Nat.log2 (uns v r)))
  ∧ (∀ e d r i, Result (.ext e d r i) e (opWord 0x5F d r i) d 1 fun v =>
      let w := i.toNat % 64 + 1
      let x := uns v r / 2 ^ (i.toNat / 64 % 64) % 2 ^ w
      if i.getLsbD 12 then BitVec.ofInt 64 ((BitVec.ofNat w x).toInt) else BitVec.ofNat 64 x)

/-- MOVE (R142, R146, R148, R149, R151, R152); link words (R151, R78): written once, read once they are written, else the engine
waits and the operation stays.
Choices of the model that it meets: log entry 4. -/
def Obligations.MovesAndLinkWords : Prop :=
  (∀ s v e, Stands s e (opWord 0x00 0 0 0) v → Retires (.nop e) s e (v.next 1) 1)
  ∧ (∀ e d r, Result (.mov e d r) e (opWord 0x01 d r 0) d 1 fun v => v.r r)
  ∧ (∀ e d i, Result (.movi e d i) e (opWord 0x02 d 0 i) d 1 fun _ => BitVec.ofInt 64 i.toInt)
  ∧ (∀ s v e d i x, Stands s e (opWord 0x03 d 0 i) v → v.img.consts[i.toNat]? = some x →
      Retires (.ldc e d i) s e ((v.next 1).w d x) 2)
  ∧ (∀ s v e d i, Stands s e (opWord 0x04 d 0 i) v → ReadsWord (.ld e d i) s e v d v.eng.ib i.toNat 2)
  ∧ (∀ s v e d i, Stands s e (opWord 0x05 d 0 i) v → StoresWord (.st e d i) s e v d v.eng.ib i.toNat 1)
  ∧ (∀ s v e d r i, Stands s e (opWord 0x06 d r i) v →
      ReadsWord (.ldx e d r i) s e v d v.eng.ib ((i.toNat + uns v r) % 2 ^ 64) 3)
  ∧ (∀ s v e d r i, Stands s e (opWord 0x07 d r i) v →
      StoresWord (.stx e d r i) s e v d v.eng.ib ((i.toNat + uns v r) % 2 ^ 64) 2)
  ∧ (∀ s v e d r i, Stands s e (opWord 0x08 d r i) v →
      (HandleOk v (uns v r) → ReadsWord (.ldr e d r i) s e v d (uns v r) i.toNat 3)
      ∧ (¬HandleOk v (uns v r) → Raises (.ldr e d r i) s e v ⟨xBadInstance, false, some (instAddr (uns v r) 0)⟩ 3))
  ∧ (∀ s v e d r i, Stands s e (opWord 0x09 d r i) v →
      (HandleOk v (uns v r) → StoresWord (.str e d r i) s e v d (uns v r) i.toNat 2)
      ∧ (¬HandleOk v (uns v r) → Raises (.str e d r i) s e v ⟨xBadInstance, true, some (instAddr (uns v r) 0)⟩ 2))
  ∧ (∀ e d i, Result (.movh e d i) e (opWord 0x0E d 0 i) d 1 fun v => BitVec.ofNat 64 (uns v d * 2 ^ 14 + i.toNat))
  ∧ (∀ s v e d i, Stands s e (opWord 0x0D d 0 i) v → tabFind v.ctx.links i.toNat = none →
    Retires (.lkw e d i) s e ((v.next 1).linkWrite i.toNat (v.r d)) 1)
  ∧ (∀ s v e d i l, Stands s e (opWord 0x0D d 0 i) v → tabFind v.ctx.links i.toNat = some l →
    Raises (.lkw e d i) s e v (exc xLinkTwice) 1)
  ∧ (∀ s v e d i l, Stands s e (opWord 0x0C d 0 i) v → tabFind v.ctx.links i.toNat = some l →
    let w := (v.next 1).w d l.value
    Retires (.lkr e d i) s e { w with eng := { w.eng with cyc := max w.eng.cyc l.cyc } } 2)
  ∧ (∀ s v e d i, Stands s e (opWord 0x0C d 0 i) v → tabFind v.ctx.links i.toNat = none →
    Gives (.lkr e d i) s (s.m.quiet.putView e { v with eng := { v.eng with st := .wait i.toNat } } 0 false))

/-- IRD and IWR (R148, R149): the checks in their order, then the value by the type of the point.
Choices of the model that it meets: log entries 4, 111. -/
def Obligations.ImagePointsAreCheckedInOrder : Prop :=
  (∀ s v e d r, Stands s e (opWord 0x0A d r 0) v →
    let p : W32 := BitVec.ofNat 32 (uns v r)
    let n := typeSize (pointType p)
    ((pointRsvd p ≠ 0 ∨ pointPast p = true) → Raises (.ird e d r) s e v ⟨xImgRange, false, some p.toNat⟩ 4)
    ∧ (pointRsvd p = 0 → pointPast p = false → pointMisaligned p = true →
        Raises (.ird e d r) s e v ⟨xImgAlign, false, some p.toNat⟩ 4)
    ∧ (pointRsvd p = 0 → pointPast p = false → pointMisaligned p = false → pointType p = 6 → pairOk d = false →
        Raises (.ird e d r) s e v (exc xBadReg) 4)
    ∧ (pointCheck p d false = none → v.readBytes (pointArea p) (pointOfs p) n = none →
        Raises (.ird e d r) s e v ⟨xImgRange, false, some p.toNat⟩ 4)
    ∧ (∀ bs, pointCheck p d false = none → v.readBytes (pointArea p) (pointOfs p) n = some bs →
        let w := v.next 1
        Retires (.ird e d r) s e (loaded w d p (leNat bs)) 4))
  ∧ (∀ s v e d r, Stands s e (opWord 0x0B d r 0) v →
    let p : W32 := BitVec.ofNat 32 (uns v r)
    let n := typeSize (pointType p)
    ((pointRsvd p ≠ 0 ∨ pointPast p = true) → Raises (.iwr e d r) s e v ⟨xImgRange, true, some p.toNat⟩ 3)
    ∧ (pointRsvd p = 0 → pointPast p = false → pointMisaligned p = true →
        Raises (.iwr e d r) s e v ⟨xImgAlign, true, some p.toNat⟩ 3)
    ∧ (pointRsvd p = 0 → pointPast p = false → pointMisaligned p = false → pointType p = 6 → pairOk d = false →
        Raises (.iwr e d r) s e v (exc xBadReg) 3)
    ∧ (pointCheck p d true = none → v.writable (pointArea p) (pointOfs p) n = false →
        Raises (.iwr e d r) s e v ⟨xImgRange, true, some p.toNat⟩ 3)
    ∧ (pointCheck p d true = none → v.writable (pointArea p) (pointOfs p) n = true →
        Retires (.iwr e d r) s e ((v.next 1).putBytes (pointArea p) (pointOfs p)
          (v.pointBytes p d (memGet (v.ctx.obuf.get (pointArea p)) (pointOfs p)))) 3))

/-- EDGE (R157, R158): no edge at first use without INITEDGE; the edge word holds the input afterwards. TIMER (R157, R159) and COUNT
(R157, R161).
Choices of the model that it meets: log entry 4. -/
def Obligations.EdgeTimerAndCounterBlocks : Prop :=
  (∀ s v e d r i, Stands s e (opWord 0x60 d r i) v → InState v i 1 →
    let inp : Bool := v.r r != 0
    Retires (.rtrig e d r i) s e
      (((v.next 1).poke v.eng.ib i.toNat (oneIf (inp = true))).w d (oneIf (inp = true ∧ previous v i 0 inp = false))) 2)
  ∧ (∀ s v e d r i, Stands s e (opWord 0x61 d r i) v → InState v i 1 →
    let inp : Bool := v.r r != 0
    Retires (.ftrig e d r i) s e
      (((v.next 1).poke v.eng.ib i.toNat (oneIf (inp = true))).w d (oneIf (inp = false ∧ previous v i 0 inp = true))) 2)
  ∧ (∀ s v e d r i, Stands s e (opWord 0x62 d r i) v → InState v i 1 →
    let inp : Bool := v.r r != 0
    Retires (.atrig e d r i) s e
      (((v.next 1).poke v.eng.ib i.toNat (oneIf (inp = true))).w d (oneIf (inp ≠ previous v i 0 inp))) 2)
  ∧ (∀ e d r i, BlockFault (.rtrig e d r i) e (opWord 0x60 d r i) i 1 true 2)
  ∧ (∀ e d r i, BlockFault (.ftrig e d r i) e (opWord 0x61 d r i) i 1 true 2)
  ∧ (∀ e d r i, BlockFault (.atrig e d r i) e (opWord 0x62 d r i) i 1 true 2)
  ∧ (∀ e d r i, TimerOp (.ton e d r i) e (opWord 0x70 d r i) d r i 0)
  ∧ (∀ e d r i, TimerOp (.tof e d r i) e (opWord 0x71 d r i) d r i 1)
  ∧ (∀ e d r i, TimerOp (.tp e d r i) e (opWord 0x72 d r i) d r i 2)
  ∧ (∀ s v e d i, Stands s e (opWord 0x73 d 0 i) v → InState v i 3 →
    let el := (BitVec.ofNat 64 v.ctx.snap.clk - blockWord v i 2).toNat
    let pt := (blockWord v i 1).toNat
    Retires (.telap e d i) s e ((v.next 1).w d (BitVec.ofNat 64
      (if (blockWord v i 0).getLsbD 2 then min el pt else if (blockWord v i 0).getLsbD 3 then pt else 0))) 3)
  ∧ (∀ s v e i, Stands s e (opWord 0x74 0 0 i) v → InState v i 3 →
    Retires (.trst e i) s e ((v.next 1).poke v.eng.ib i.toNat
      (blockWord v i 0 &&& 0x8000000000000001#64)) 2)
  ∧ (∀ e d r i, BlockFault (.ton e d r i) e (opWord 0x70 d r i) i 3 true 4)
  ∧ (∀ e d r i, BlockFault (.tof e d r i) e (opWord 0x71 d r i) i 3 true 4)
  ∧ (∀ e d r i, BlockFault (.tp e d r i) e (opWord 0x72 d r i) i 3 true 4)
  ∧ (∀ e d i, BlockFault (.telap e d i) e (opWord 0x73 d 0 i) i 3 false 3)
  ∧ (∀ e i, BlockFault (.trst e i) e (opWord 0x74 0 0 i) i 3 true 2)
  ∧ (∀ e d r i, CounterOp (.ctu e d r i) e (opWord 0x80 d r i) d r i
    (fun cu _ rst _ cv _ => if rst then some 0 else if cu then countsUp cv else none)
    fun cv pv => oneIf (pv ≤ cv))
  ∧ (∀ e d r i, CounterOp (.ctd e d r i) e (opWord 0x81 d r i) d r i
    (fun _ cd _ ld cv pv => if ld then some pv else if cd then countsDown cv else none)
    fun cv _ => oneIf (cv ≤ 0))
  ∧ (∀ e d r i, CounterOp (.ctud e d r i) e (opWord 0x82 d r i) d r i
    (fun cu cd rst ld cv pv => if rst then some 0 else if ld then some pv
      else if cu && !cd then countsUp cv else if cd && !cu then countsDown cv else none)
    fun cv pv => BitVec.ofNat 64 ((if pv ≤ cv then 1 else 0) + (if cv ≤ 0 then 2 else 0)))
  ∧ (∀ e d r i, BlockFault (.ctu e d r i) e (opWord 0x80 d r i) i 3 true 3)
  ∧ (∀ e d r i, BlockFault (.ctd e d r i) e (opWord 0x81 d r i) i 3 true 3)
  ∧ (∀ e d r i, BlockFault (.ctud e d r i) e (opWord 0x82 d r i) i 3 true 3)

/-- CALL/RET (R132, R133, R143); BRANCH and loops (R152, R163): branches count from the branch word, the loop body runs once for each
count.
Choices of the model that it meets: log entries 4, 108. -/
def Obligations.CallsBranchesAndLoops : Prop :=
  (∀ s v e r i t, Stands s e (opWord 0x90 0 r i) v → v.img.routines[i.toNat]? = some t → HandleOk v (uns v r) →
    instType v.inst (uns v r) = t.typeId → v.eng.calls.length < 16 →
    let called := if v.ctx.called.contains (uns v r) then v.ctx.called else uns v r :: v.ctx.called
    Retires (.call e r i) s e { v with
      eng := { v.eng with pc := t.addr, ib := uns v r, calls := ((v.eng.pc + 1) % 2 ^ 24, v.eng.ib) :: v.eng.calls }
      ctx := { v.ctx with called := called } } 4)
  ∧ (∀ s v e r i, Stands s e (opWord 0x90 0 r i) v →
    (∀ t, v.img.routines[i.toNat]? = some t → ¬(HandleOk v (uns v r) ∧ instType v.inst (uns v r) = t.typeId)) →
    Raises (.call e r i) s e v ⟨xBadInstance, false, some (instAddr (uns v r) 0)⟩ 4)
  ∧ (∀ s v e r i t, Stands s e (opWord 0x90 0 r i) v → v.img.routines[i.toNat]? = some t → HandleOk v (uns v r) →
    instType v.inst (uns v r) = t.typeId → 16 ≤ v.eng.calls.length → Raises (.call e r i) s e v (exc xStackOver) 4)
  ∧ (∀ s v e i t, Stands s e (opWord 0x92 0 0 i) v → v.img.routines[i.toNat]? = some t →
    (t.typeId = 0 ∨ t.typeId = instType v.inst v.eng.ib) → v.eng.calls.length < 16 →
    let called := if v.ctx.called.contains v.eng.ib then v.ctx.called else v.eng.ib :: v.ctx.called
    Retires (.calls e i) s e { v with
      eng := { v.eng with pc := t.addr, calls := ((v.eng.pc + 1) % 2 ^ 24, v.eng.ib) :: v.eng.calls }
      ctx := { v.ctx with called := called } } 3)
  ∧ (∀ s v e i t, Stands s e (opWord 0x92 0 0 i) v → v.img.routines[i.toNat]? = some t →
    t.typeId ≠ 0 → t.typeId ≠ instType v.inst v.eng.ib →
    Raises (.calls e i) s e v ⟨xBadInstance, false, some (instAddr v.eng.ib 0)⟩ 3)
  ∧ (∀ s v e pc ib rest, Stands s e (opWord 0x91 0 0 0) v → v.eng.calls = (pc, ib) :: rest →
    Retires (.ret e) s e { v with eng := { v.eng with pc := pc, ib := ib, calls := rest } } 3)
  ∧ (∀ s v e, Stands s e (opWord 0x91 0 0 0) v → v.eng.calls = [] →
    Retires (.ret e) s e { v with eng := { v.eng with pc := (v.eng.pc + 1) % 2 ^ 24, st := .ended } } 3)
  ∧ (∀ s v e, Stands s e (opWord 0x93 0 0 0) v →
    Retires (.endShare e) s e { v with eng := { v.eng with pc := (v.eng.pc + 1) % 2 ^ 24, st := .ended } } 2)
  ∧ (∀ s v e i, Stands s e (opWord 0xA0 0 0 i) v → v.eng.pc + i.toNat < 2 ^ 24 →
    Retires (.br e i) s e { v with eng := { v.eng with pc := v.eng.pc + i.toNat } } 2)
  ∧ (∀ s v e r i, Stands s e (opWord 0xA1 0 r i) v → v.eng.pc + i.toNat < 2 ^ 24 → v.r r = 0 →
    Retires (.bz e r i) s e { v with eng := { v.eng with pc := v.eng.pc + i.toNat, cyc := v.eng.cyc + 1 } } 1)
  ∧ (∀ s v e r i, Stands s e (opWord 0xA1 0 r i) v → v.r r ≠ 0 → Retires (.bz e r i) s e (v.next 1) 1)
  ∧ (∀ s v e r i, Stands s e (opWord 0xA2 0 r i) v → v.eng.pc + i.toNat < 2 ^ 24 → v.r r ≠ 0 →
    Retires (.bnz e r i) s e { v with eng := { v.eng with pc := v.eng.pc + i.toNat, cyc := v.eng.cyc + 1 } } 1)
  ∧ (∀ s v e r i, Stands s e (opWord 0xA2 0 r i) v → v.r r = 0 → Retires (.bnz e r i) s e (v.next 1) 1)
  ∧ (∀ s v e d r i len, Stands s e (opWord 0xA3 d r i) v → v.img.code[v.eng.pc + 1]? = some (BitVec.ofNat 32 len.toNat) →
    v.eng.pc + 2 < 2 ^ 24 → v.eng.pc + len.toNat + 1 < 2 ^ 24 →
    (i.toNat < uns v r → Raises (.loop e d r i len) s e v (exc xLoopBound) 3)
    ∧ (uns v r = 0 → Retires (.loop e d r i len) s e { v with eng := { v.eng with pc := v.eng.pc + len.toNat + 1 } } 3)
    ∧ (0 < uns v r → uns v r ≤ i.toNat → 8 ≤ v.eng.loops.length → Raises (.loop e d r i len) s e v (exc xStackOver) 3)
    ∧ (0 < uns v r → uns v r ≤ i.toNat → v.eng.loops.length < 8 →
        let w := v.w d 0
        Retires (.loop e d r i len) s e { w with eng := { w.eng with
          pc := v.eng.pc + 2
          loops := ⟨v.eng.pc + 2, v.eng.pc + len.toNat, i.toNat, uns v r, d, 0⟩ :: v.eng.loops } } 3))
  ∧ (∀ s v e l rest, Stands s e (opWord 0xA4 0 0 0) v → v.eng.loops = l :: rest → l.idx + 1 < l.count →
    let w := v.w l.reg (BitVec.ofNat 64 (l.idx + 1))
    Retires (.lend e) s e { w with eng := { w.eng with pc := l.start, loops := { l with idx := l.idx + 1 } :: rest } } 1)
  ∧ (∀ s v e l rest, Stands s e (opWord 0xA4 0 0 0) v → v.eng.loops = l :: rest → l.count ≤ l.idx + 1 →
    Retires (.lend e) s e { (v.next 1) with eng := { (v.next 1).eng with loops := rest } } 1)
  ∧ (∀ s v e l rest, Stands s e (opWord 0xA5 0 0 0) v → v.eng.loops = l :: rest → l.stop + 1 < 2 ^ 24 →
    Retires (.lbrk e) s e { v with eng := { v.eng with pc := l.stop + 1, loops := rest } } 2)

/-- AXIS (R152, R165, R335).
Choices of the model that it meets: log entries 4, 107, 111. -/
def Obligations.AxisOperations : Prop :=
  (∀ s v e d r i c bs, Stands s e (opWord 0xC0 d r i) v → v.img.axis = some c → uns v r < 1024 →
    (c.axes.any fun a => a.axis = uns v r) = true → v.readBytes .axIn (64 * uns v r + 8 * i.toNat) 8 = some bs →
    Retires (.axrd e d r i) s e ((v.next 1).w d (BitVec.ofNat 64 (leNat bs))) 3)
  ∧ (∀ s v e d r i c, Stands s e (opWord 0xC1 d r i) v → v.img.axis = some c → uns v r < 1024 →
    (c.axes.any fun a => a.axis = uns v r) = true → v.writable .axOut (64 * uns v r + 8 * i.toNat) 8 = true →
    Retires (.axwr e d r i) s e ((v.next 1).putBytes .axOut (64 * uns v r + 8 * i.toNat) (leBytes (uns v d) 8)) 2)
  ∧ (∀ s v e d r i, (Stands s e (opWord 0xC0 d r i) v → 1024 ≤ uns v r → Raises (.axrd e d r i) s e v (exc xBadAxis) 3)
    ∧ (Stands s e (opWord 0xC1 d r i) v → 1024 ≤ uns v r → Raises (.axwr e d r i) s e v (exc xBadAxis) 2))
  ∧ (∀ s v e d i, Stands s e (opWord 0xC2 d 0 i) v → pairOk d = true → (v.img.cls v.cls).mtable = true →
    Retires (.axmp e d i) s e ((v.next 1).w2 d (BitVec.ofNat 64 (memNat v.ctx.mtab (32 * i.toNat) 8))
      (BitVec.ofNat 64 (memNat v.ctx.mtab (32 * i.toNat + 8) 4))) 4)
  ∧ (∀ s v e d i, Stands s e (opWord 0xC3 d 0 i) v → (v.img.cls v.cls).mtable = true →
    Retires (.axmv e d i) s e ((v.next 1).w d (BitVec.ofNat 64 (memNat v.ctx.mtab (32 * i.toNat + 16) 8))) 3)
  ∧ (∀ s v e d i, (Stands s e (opWord 0xC2 d 0 i) v → pairOk d = false → Raises (.axmp e d i) s e v (exc xBadReg) 4)
    ∧ (Stands s e (opWord 0xC3 d 0 i) v → (v.img.cls v.cls).mtable = false →
        Raises (.axmv e d i) s e v ⟨xImgRange, false, none⟩ 3))
  ∧ (∀ s v e d r, Stands s e (opWord 0xC4 d r 0) v → pairOk d = true → pairOk r = true →
    Retires (.tadd e d r) s e (putTurns (v.next 1) d (turns v d + turns v r)) 2)
  ∧ (∀ s v e d r, Stands s e (opWord 0xC5 d r 0) v → pairOk d = true → pairOk r = true →
    Retires (.tsub e d r) s e (putTurns (v.next 1) d (turns v d - turns v r)) 2)
  ∧ (∀ s v e d r, Stands s e (opWord 0xC6 d r 0) v → pairOk r = true →
    Retires (.ttof e d r) s e ((v.next 1).w d
      (fpRound .b64 (decide (turns v r < 0)) (turns v r).natAbs (-32) false).1) 4)
  ∧ (∀ s v e d r n m x, Stands s e (opWord 0xC7 d r 0) v → pairOk d = true → fpOf .b64 (v.r r) = .fin n m x →
    fpNearest false m (x + 32) < 2 ^ 95 →
    Retires (.tfrf e d r) s e (putTurns (v.next 1) d (fpNearest n m (x + 32))) 4)
  ∧ (∀ s v e d r, Stands s e (opWord 0xC7 d r 0) v → pairOk d = true →
    (∀ n m x, fpOf .b64 (v.r r) = .fin n m x → 2 ^ 95 ≤ fpNearest false m (x + 32)) →
    Raises (.tfrf e d r) s e v (exc xTurnRange) 4)
  ∧ (∀ s v e d r, Stands s e (opWord 0xC8 d r 0) v → pairOk d = true → pairOk r = true →
    Retires (.tcmp e d r) s e ((v.next 1).w d (BitVec.ofInt 64
      (if turns v d < turns v r then -1 else if turns v d = turns v r then 0 else 1))) 2)

/-- SYS and BAD_OPCODE (R152, R156, R168-R170, R199): the values of one execution. REQ (R169): a block of kind 2 or 3 and 1 to 32
words within the instance is issued under the next id of the class; with 64 outstanding the id is refused, nothing copied.
Choices of the model that it meets: log entries 4, 119. -/
def Obligations.SystemOperationsAndRequests : Prop :=
  (∀ e d, Result (.tick e d) e (opWord 0xD0 d 0 0) d 1 fun v => BitVec.ofNat 64 v.ctx.snap.relTick)
  ∧ (∀ e d, Result (.clk e d) e (opWord 0xD1 d 0 0) d 1 fun v => BitVec.ofNat 64 v.ctx.snap.clk)
  ∧ (∀ e d, Result (.first e d) e (opWord 0xD2 d 0 0) d 1 fun v => oneIf (v.ctx.snap.first = true))
  ∧ (∀ e d, Result (.key e d) e (opWord 0xD3 d 0 0) d 1 fun v => keyCode v.ctx.snap.key)
  ∧ (∀ s v e d, Stands s e (opWord 0xD4 d 0 0) v → pairOk d = true →
      Retires (.tt0 e d) s e ((v.next 1).w2 d (BitVec.ofNat 64 (v.ctx.snap.lt / secUnits))
        (BitVec.ofNat 64 (v.ctx.snap.lt % secUnits))) 2)
  ∧ (∀ s v e d, Stands s e (opWord 0xD4 d 0 0) v → pairOk d = false → Raises (.tt0 e d) s e v (exc xBadReg) 2)
  ∧ (∀ e d, Result (.rfxf e d 0) e (opWord 0xD5 d 0 0) d 1 fun v =>
      BitVec.ofNat 64 (v.ctx.snap.pinsIn.toNat + v.ctx.snap.pinsOut.toNat * 2 ^ 16))
  ∧ (∀ e d, Result (.rfxf e d 1) e (opWord 0xD5 d 0 1) d 1 fun v => v.ctx.snap.cells)
  ∧ (∀ s v e d i, Stands s e (opWord 0xD5 d 0 i) v → 1 < i.toNat → Raises (.rfxf e d i) s e v (exc xBadSource) 1)
  ∧ (∀ s v e r, Stands s e (opWord 0xD6 0 r 0) v →
      Retires (.arm e r) s e { (v.next 1) with ctx := { v.ctx with req := v.ctx.req ++ [.arm (v.r r)] } } 2)
  ∧ (∀ e d r, Result (.rqst e d r) e (opWord 0xD8 d r 0) d 3 fun v => BitVec.ofNat 64 (v.requestState (uns v r)))
  ∧ (∀ s v e d, Stands s e (opWord 0xD9 d 0 0) v →
      let w := (v.next 1).w d (BitVec.ofNat 64 v.eng.fsr.toNat)
      Retires (.fst e d) s e { w with eng := { w.eng with fsr := 0 } } 1)
  ∧ (∀ s v e d i ev, Stands s e (opWord 0xDA d 0 i) v → v.ctx.snap.event = some ev → i.toNat < 8 →
      Retires (.evr e d i) s e ((v.next 1).w d
        (BitVec.ofNat 64 (leNat (((eventBytes ev).drop (8 * i.toNat)).take 8)))) 2)
  ∧ (∀ s v e d i, Stands s e (opWord 0xDA d 0 i) v → (v.ctx.snap.event = none ∨ 8 ≤ i.toNat) →
      Raises (.evr e d i) s e v (exc xBadSource) 2)
  ∧ (∀ s v e word, Stands s e word v → isOpcode (word.toNat / 2 ^ 24) = false →
      Raises (.badOpcode e word) s e v ⟨xBadOpcode, false, none⟩ 1)
  ∧ (∀ s v e d i, Stands s e (opWord 0xD7 d 0 i) v → 2 ≤ i.toNat →
      let w := v.inst
      let h := v.eng.ib
      let head := memGet w (h / 8 + i.toNat)
      let kind := head.toNat % 2 ^ 16
      let n := head.toNat / 2 ^ 16 % 2 ^ 16
      let id := clsCode v.cls * 2 ^ 29 + (v.ctx.snap.reqBase + v.ctx.issued) % 2 ^ 29
      i.toNat + n ≤ 2 + instState w h → 0 < n → n ≤ 32 → (kind = 2 ∨ kind = 3) →
        Retires (.req e d i) s e
          (let u := (v.next 1).w d (BitVec.ofNat 64 id)
           { u with ctx := { v.ctx with req := v.ctx.req ++
               [if 64 ≤ v.ctx.snap.reqOut + v.ctx.copied then .full id
                else .req id ((List.range n).map fun k => memGet w (h / 8 + i.toNat + k))] } }) 40)

/-- SAMPLE (R87, R88, R166, R373, R375, R404): the leading lane samples the source and passes the value on.
Choices of the model that it meets: log entries 4, 8. -/
def Obligations.SampleOperationsReadLiveSources : Prop :=
  (∀ s v t e d, Samples s t e (opWord 0xB0 d 0 0) v → pairOk d = true →
    let m := s.m.start t
    let x : W64 := BitVec.ofNat 64 (m.lt / secUnits)
    let y : W64 := BitVec.ofNat 64 (m.lt % secUnits)
    Gives (.stime e t d) s (Sampled s e v m x y ((v.next 1).w2 d x y)))
  ∧ (∀ s v t e d, Samples s t e (opWord 0xB1 d 0 0) v →
    let m := (s.m.start t).reflexNow
    let x : W64 := BitVec.ofNat 64 (m.reflex.pinsIn.toNat + m.reflex.pinsOut.toNat * 2 ^ 16)
    Gives (.srfx e t d 0) s (Sampled s e v m x 0 ((v.next 1).w d x)))
  ∧ (∀ s v t e d, Samples s t e (opWord 0xB1 d 0 1) v →
    let m := (s.m.start t).reflexNow
    Gives (.srfx e t d 1) s (Sampled s e v m m.reflex.cells 0 ((v.next 1).w d m.reflex.cells)))
  ∧ (∀ s v t e d i p, Samples s t e (opWord 0xB2 d 0 i) v → i.toNat < 16 → pairOk d = true →
    tabFind s.m.reflex.capLast i.toNat = some p →
    let x : W64 := BitVec.ofNat 64 (p.ns / 1000000000)
    let y : W64 := BitVec.ofNat 64 (2 ^ 63 + p.count * 2 ^ 48 + p.ns % 1000000000 * 2 ^ 16)
    Gives (.sstmp e t d i) s (Sampled s e v (s.m.start t) x y ((v.next 1).w2 d x y)))
  ∧ (∀ s v t e d i a, Samples s t e (opWord 0xB3 d 0 i) v → v.img.analogue = some a → i.toNat < a.entries.length →
    i.toNat ∉ s.m.conv.urgPend →
    let u := tabGet s.m.conv.urg ⟨0, false, 0⟩ i.toNat
    let m := { s.m.start t with
      conv := { s.m.conv with urgPend := s.m.conv.urgPend ++ [i.toNat], urg := tabSet s.m.conv.urg i.toNat { u with valid := false } } }
    Gives (.surg e t d i) s (Sampled s e v m 1 0 ((v.next 1).w d 1)))
  ∧ (∀ s v t e d i a, Samples s t e (opWord 0xB3 d 0 i) v → v.img.analogue = some a → i.toNat < a.entries.length →
    i.toNat ∈ s.m.conv.urgPend →
    Gives (.surg e t d i) s (Sampled s e v (s.m.start t) 0 0 ((v.next 1).w d 0)))
  ∧ (∀ s v t e d i a, Samples s t e (opWord 0xB4 d 0 i) v → v.img.analogue = some a → i.toNat < a.entries.length →
    let u := tabGet s.m.conv.urg ⟨0, false, 0⟩ i.toNat
    let x : W64 := BitVec.ofNat 64 (u.word.toNat + if u.valid then 2 ^ 63 else 0)
    Gives (.surgr e t d i) s (Sampled s e v (s.m.start t) x 0 ((v.next 1).w d x)))

/-- Loop channels (R385, R387, R393-R396): the AFE takes the published command, the readback is judged after three bad frames,
headroom below 1.5 V sets COMPLIANCE and 1.7 V for 10 ms clears it, NE 43 levels held for NE_FILT set their flags. The buttons (R399,
R400, R484): a trim begins only on the channel shown with no other service action, SELECT steps the display and ends a trim, a result
out of range changes nothing.
Choices of the model that it meets: log entries 10, 11, 109, 110, 112. -/
def Obligations.LoopChannelsAndButtons : Prop :=
  (∀ s t ch, (s.m.chan ch).mode = .output → s.m.afeOn = true →
    let na : Int := s.m.loopWord ch
    LoopBecomes (.loopCommandApply t ch) s t ch { s.m.loop ch with
      cmdNa := na
      cmdLimit := decide (22000000 < na)
      changedAt := if (s.m.chan ch).devUa * 1000 < (na - (s.m.loop ch).cmdNa).natAbs then some (max s.m.now t)
        else (s.m.loop ch).changedAt })
  ∧ (∀ s t ch seq na minNa mean stage, s.m.afeOn = true → (s.m.chan ch).mode = .input →
      (s.m.loop ch).rbSeq = none ∨ (∃ p ∈ (s.m.loop ch).rbSeq, seq = (p + 1) % 65536) → 3000000 ≤ minNa →
      LoopBecomes (.readbackSample t ch true seq na minNa mean stage true) s t ch { s.m.loop ch with
        rbSeq := some seq, badFrames := 0, rbValid := true, rbLinkErr := false, rbNa := na })
  ∧ (∀ s t ch seq na minNa mean stage, s.m.afeOn = true → (s.m.chan ch).mode = .input →
      LoopBecomes (.readbackSample t ch false seq na minNa mean stage true) s t ch { s.m.loop ch with
        badFrames := min ((s.m.loop ch).badFrames + 1) 3
        rbErrors := inc32 (s.m.loop ch).rbErrors
        rbValid := false
        rbLinkErr := (s.m.loop ch).rbLinkErr || decide (3 ≤ (s.m.loop ch).badFrames + 1) })
  ∧ (∀ s t ch mv stage, s.m.driving ch = true → mv < 1500 →
      LoopBecomes (.headroomCheck t ch mv stage) s t ch { s.m.loop ch with
        headroom := mv, compliance := true, okSince := none
        complEvents := if (s.m.loop ch).compliance then (s.m.loop ch).complEvents else inc32 (s.m.loop ch).complEvents })
  ∧ (∀ s t ch mv stage, s.m.driving ch = true → 1500 ≤ mv → mv < 1700 →
      LoopBecomes (.headroomCheck t ch mv stage) s t ch { s.m.loop ch with headroom := mv, okSince := none })
  ∧ (∀ s t ch mv stage, s.m.driving ch = true → 1700 ≤ mv → Since (s.m.loop ch).okSince 10000000 (max s.m.now t) →
      LoopBecomes (.headroomCheck t ch mv stage) s t ch { s.m.loop ch with headroom := mv, compliance := false })
  ∧ (∀ s t ch, (s.m.chan ch).mode = .input →
      Since (s.m.loop ch).neSince ((s.m.chan ch).neFilt * 1000000) (max s.m.now t) →
      ((s.m.loop ch).neSide = 1 → (s.m.loop ch).neLow = false →
        LoopBecomes (.ne43FilterExpiry t ch) s t ch { s.m.loop ch with neLow := true })
      ∧ ((s.m.loop ch).neSide = 2 → (s.m.loop ch).neHigh = false →
        LoopBecomes (.ne43FilterExpiry t ch) s t ch { s.m.loop ch with neHigh := true }))
  ∧ (∀ s t ch, (s.m.chan ch).mode = .input → (s.m.loop ch).neSince = none →
      Since (s.m.loop ch).okSince ((s.m.chan ch).neFilt * 1000000) (max s.m.now t) →
      LoopBecomes (.ne43FilterExpiry t ch) s t ch { s.m.loop ch with neLow := false, neHigh := false })
  ∧ (∀ s t c, MayTrim s.m c →
    Settles (.zero t) s { s.m.start t with conv := { s.m.conv with trim := some ⟨c, false⟩ } }
    ∧ Settles (.span t) s { s.m.start t with conv := { s.m.conv with trim := some ⟨c, true⟩ } })
  ∧ (∀ s t, (s.m.conv.display = 0 ∨ s.m.serviceOk = false) →
    Settles (.zero t) s (s.m.start t) ∧ Settles (.span t) s (s.m.start t))
  ∧ (∀ s t, s.m.upd.porch = false →
    Settles (.select t) s { s.m.start t with
      conv := { s.m.conv with display := (s.m.conv.display + 1) % 9, trim := none } })
  ∧ (∀ s t mean c, s.m.conv.trim = some ⟨c, false⟩ → (s.m.chan c).mode = .input →
    let z := (s.m.loop c).zeroTrim + (4000000 - mean)
    (trimInRange z (s.m.loop c).spanTrim = true →
      Effects (.buttonTrimDone t mean) s fun m => m.conv.trim = none ∧ m.conv.panel = 1
        ∧ m.loop c = { s.m.loop c with zeroTrim := z }
        ∧ m.card.queue.map Append.body = s.m.card.queue.map Append.body
          ++ [.trim ⟨false, s.m.savis.serial, c, z, (s.m.loop c).spanTrim⟩])
    ∧ (trimInRange z (s.m.loop c).spanTrim = false →
      Effects (.buttonTrimDone t mean) s fun m => m.conv.trim = none ∧ m.conv.panel = 2 ∧ m.loops = s.m.loops
        ∧ m.card = s.m.card))

/-- The converter (R402-R405): entry 0 opens a pass and the last entry completes it, urgent requests complete in their
order, a calibration run becomes due, completes or starves.
Choices of the model that it meets: log entry 30. -/
def Obligations.ConverterRunsPassesAndCalibration : Prop :=
  (∀ s t e sum a, s.m.ana = some a → s.m.afeOn = true → e < a.entries.length →
    (e = 0 ∨ (s.m.conv.passActive = true ∧ s.m.conv.nextEntry = e)) →
    let x := a.entries.getD e (0, 0)
    let word := resultWord (if e = 0 then s.m.conv.calValid else s.m.conv.passValid) false (s.m.srcTrim x.1) e
      (s.m.conv.passes + 1) (meanCode sum x.2)
    Ends (.conversionDone t e sum) s fun m =>
      tabFind m.conv.results e = some word
      ∧ (e + 1 < a.entries.length → m.conv.passActive = true ∧ m.conv.nextEntry = e + 1 ∧ m.conv.passes = s.m.conv.passes)
      ∧ (e + 1 = a.entries.length → m.conv.passActive = false ∧ m.conv.nextEntry = 0
          ∧ m.conv.passes = inc32 s.m.conv.passes ∧ m.conv.lastPass = m.conv.results))
  ∧ (∀ s t e code a rest, s.m.ana = some a → s.m.afeOn = true → s.m.conv.urgPend = e :: rest →
    (s.m.conv.passActive = true → s.m.conv.urgThisTick < a.urgMax) →
    let n := ((tabGet s.m.conv.urg ⟨0, false, 0⟩ e).count + 1) % 256
    Ends (.urgentConversionDone t e code false) s fun m =>
      tabFind m.conv.urg e = some ⟨resultWord s.m.conv.calValid false (s.m.srcTrim (a.entries.getD e (0, 0)).1) e n code, true, n⟩
      ∧ m.conv.urgPend = rest ∧ m.conv.urgents = inc32 s.m.conv.urgents
      ∧ m.conv.results = s.m.conv.results ∧ m.conv.calRestarts = s.m.conv.calRestarts)
  ∧ (∀ s t moved, s.m.afeOn = true → s.m.conv.calBusy = false →
    (moved = true ∨ s.m.conv.calValid = false ∨ s.m.conv.lastCal + 60000000000 ≤ (s.m.start t).ltNs) →
    Gives (.calDue t moved) s { s.m.start t with
      conv := { s.m.conv with calBusy := true, calDueAt := max s.m.now t } })
  ∧ (∀ s t, s.m.conv.calBusy = true →
    Ends (.calDone t) s fun m => m.conv = { s.m.conv with
        calBusy := false, calValid := true, calStarved := false, lastCal := (s.m.start t).ltNs
        calRuns := inc32 s.m.conv.calRuns, trimWait := [] }
      ∧ (s.m.conv.trimWait = [] → m.loops = s.m.loops ∧ m.card = s.m.card))
  ∧ (∀ s t w, s.m.conv.calBusy = true → s.m.conv.trimWait = [w] →
    Ends (.calDone t) s fun m => m.loop w.ch = { s.m.loop w.ch with zeroTrim := w.zero, spanTrim := w.span }
      ∧ m.card.queue.map Append.body
        = s.m.card.queue.map Append.body ++ [.trim ⟨false, s.m.savis.serial, w.ch, w.zero, w.span⟩])
  ∧ (∀ s t, s.m.conv.calBusy = true → s.m.conv.calDueAt + 10000000000 ≤ max s.m.now t →
    Gives (.calStarved t) s { s.m.start t with conv := { s.m.conv with calStarved := true } })

/-- The Attic (R546, R547, R550, R553): a commit covers what was voted since the last one, applied words come home, a header
records it, the refill ends, a fault leaves memory off.
Choices of the model that it meets: log entries 20, 30. -/
def Obligations.AtticCommitsAndApplies : Prop :=
  (∀ s t, s.m.attic.fault = false → s.m.attic.pendCovers ≠ 0 →
    (s.m.attic.lastCommit = none ∨ ∃ c ∈ s.m.attic.lastCommit, c + 1000 ≤ max s.m.now t) →
    Ends (.atticCommit t) s fun m => ∃ c e, m.attic.journal = s.m.attic.journal ++ [e] ∧ e.body = .commit c
      ∧ e.aseq = s.m.attic.nextSeq ∧ e.at_ = max s.m.now t ∧ m.attic.nextSeq = s.m.attic.nextSeq + 1
      ∧ c.covers = s.m.attic.pendCovers ∧ c.kind = s.m.attic.pendKind ∧ c.relTick = s.m.attic.pendRel
      ∧ m.attic.pendCovers = 0 ∧ m.attic.home = s.m.attic.home ∧ m.attic.lastCommit = some (max s.m.now t))
  ∧ (∀ s t c n, s.m.attic.fault = false → s.m.attic.refilling = false → 1000 ≤ max s.m.now t →
    lastCommitBy (max s.m.now t - 1000) none (s.m.attic.journal.filter fun e => s.m.attic.applied ≤ e.aseq) = some (c, n) →
    Gives (.atticApply t) s { s.m.start t with attic := { s.m.attic with
      home := applyWords s.m.attic.home (s.m.attic.journal.filter fun e => decide (s.m.attic.applied ≤ e.aseq)
        && decide (e.aseq < n))
      applied := n
      appliedLast := some c } })
  ∧ (∀ s t h k, s.m.attic.header = some (h, k) → s.m.attic.fault = false → s.m.attic.refilling = false → h.state = .valid →
    Ends (.atticHeaderWrite t) s fun m => ∃ g j, m.attic.header = some (g, j) ∧ j = !k ∧ g.state = .valid
      ∧ g.appliedSeq = s.m.attic.applied ∧ g.aGen = h.aGen + 1 ∧ m.attic.home = s.m.attic.home)
  ∧ (∀ s t, s.m.attic.fault = false → s.m.attic.refilling = true → s.m.attic.loadKey = none →
    Ends (.atticRefillDone t) s fun m => m.attic.refilling = false ∧ m.attic.home = s.m.attic.home
      ∧ ∃ g k, m.attic.header = some (g, k) ∧ g.state = .valid)
  ∧ (∀ s t, s.m.attic.fault = false → Ends (.atticFault t) s fun m => m.attic.fault = true ∧ m.attic.home = s.m.attic.home)

/-- Frames of a tick (R52, R53, R265, R267, R270): the build at t_B, its end, and the launch of a built entry through an open
ownership gate; with the gate closed a controlling module marks the entry LATE_DROPPED and counts it.
Choices of the model that it meets: log entries 30, 102. -/
def Obligations.FramesAreBuiltAndLaunched : Prop :=
  (∀ s t i, s.m.prog.image = some i → s.m.sched.running = true → s.m.sched.built = false →
    s.m.buildAt i ≤ (s.m.start t).ltNs → (s.m.run 0).running = false → s.m.pair.plan.st ≠ .waiting →
    Settles (.buildPoint t) s ((s.m.start t).build i) ∧ ((s.m.start t).build i).sched.built = true)
  ∧ (∀ s t, s.m.sched.built = true → s.m.sched.buildEnd = false →
    Ends (.buildDone t) s fun m => m.sched.buildEnd = true ∧ m.sched.tick = s.m.sched.tick)
  ∧ (∀ s t port entry i e, s.m.prog.image = some i → tabFind (s.m.port port).txq entry = some e → e.state = 1 →
    e.launch ≤ (s.m.start t).ltNs → e.kind ≠ 2 → e.relay = false →
    (s.m.gate = true → Ends (.frameLaunch t port entry) s fun m =>
        tabFind (m.port port).txq entry = some { e with state := 2, sent := (s.m.start t).ltNs }
        ∧ m.out = [.frame port e.frame] ∧ (m.port port).txFrames = inc32 (s.m.port port).txFrames)
    ∧ (s.m.gate = false → s.m.controls = true → Ends (.frameLaunch t port entry) s fun m =>
        tabFind (m.port port).txq entry = some { e with state := 3 } ∧ m.out = []
        ∧ m.sched.lateDropped = inc32 s.m.sched.lateDropped
        ∧ (m.port port).lateDropped = inc32 (s.m.port port).lateDropped))

/-- The configuration card (R530, R532, R534, R537, R541, R555, R665).
Choices of the model that it meets: log entries 30, 57, 79, 81. -/
def Obligations.CardReadsAppendsAndLocks : Prop :=
  (∀ s t, s.m.power.boot = .cardRead → s.m.card.card = none →
    Gives (.cardReadDone t) s { s.m.start t with
      power := { s.m.power with boot := .ready }, card := { s.m.card with read := .noCard } })
  ∧ (∀ s t c img, s.m.power.boot = .cardRead → s.m.card.card = some c → cardResult s.m.upd.project c = (.ok, some img) →
    Ends (.cardReadDone t) s fun m => m.power.boot = .ready ∧ m.prog.image = some img ∧ m.card.effImage = some img
      ∧ m.card.read = .ok ∧ m.prog.run = .starting)
  ∧ (∀ s t a c, s.m.writing = some a → s.m.card.card = some c → s.m.card.usable = true → s.m.powered 13 = true →
    (∃ x, a.body = .trim x) → a.key = none → journalBytes c + recSize a.body ≤ journalSize / 2 →
    (∃ sb k, cardSuper c = some (sb, k) ∧ sb.jStart = 0) →
    Ends (.cardAppendDone t true) s fun m => m.card.queue = dropFirst a s.m.card.queue ∧ m.card.tries = 0
      ∧ m.card.nextSeq = s.m.card.nextSeq + 1
      ∧ m.card.card.map Card.journal = some (c.journal ++ [⟨s.m.card.nextSeq, s.m.sbGen, recSize a.body, true, a.body⟩]))
  ∧ (∀ s t a, s.m.writing = some a → s.m.card.tries < 2 → s.m.card.locked = true →
    Gives (.cardAppendDone t false) s { s.m.start t with
      card := { s.m.card with tries := s.m.card.tries + 1, retries := inc32 s.m.card.retries } })
  ∧ (∀ s t a, s.m.writing = some a → 2 ≤ s.m.card.tries →
    Ends (.cardAppendDone t false) s fun m => m.card.writable = false)
  ∧ (∀ s t x c, s.m.card.comp = some x → s.m.card.card = some c → x.step = 1 → s.m.card.usable = true →
    s.m.powered 13 = true →
    Settles (.compactionStepDone t true) s { s.m.start t with card := { s.m.card with comp := some { x with step := 2 } } })
  ∧ (∀ s t x c, s.m.card.comp = some x → s.m.card.card = some c → x.step = 2 → x.kind = .compact → s.m.card.usable = true →
    s.m.powered 13 = true → s.m.card.unread = false → s.m.card.rewriteDue = false →
    Effects (.compactionStepDone t true) s fun m => m.card.card = some (cardFlip c x s.m.savis.serial) ∧ m.card.comp = none
      ∧ m.card.compactions = inc32 s.m.card.compactions)
  ∧ (∀ s t x c, s.m.card.comp = some x → s.m.card.card = some c → x.step ≠ 0 →
    Settles (.compactionStepDone t false) s { s.m.start t with
      card := { s.m.card with comp := some { x with step := 0 }, retryAt := some (max s.m.now t + 10000000000) } })
  ∧ (∀ s t x u, s.m.card.comp = some x → s.m.card.retryAt = some u → x.step = 0 → x.kind = .load → u ≤ max s.m.now t →
    s.m.card.usable = true →
    Ends (.compactionRetry t) s fun m => ∃ y, m.card.comp = some y ∧ y.step = 1 ∧ y.kind = .load ∧ y.image = x.image
      ∧ y.key = x.key ∧ m.card.retryAt = none)
  ∧ (∀ s t, Gives (.cardLockOpen t) s { s.m.start t with card := { s.m.card with locked := false } })
  ∧ (∀ s t, s.m.card.rewriteDue = false →
    Gives (.cardLockClose t) s { s.m.start t with card := { s.m.card with locked := true } })
  ∧ (∀ s t, Gives (.cardRemoved t) s { s.m.start t with
      card := { s.m.card with card := none, locked := false, unread := false, layout := 0, base := false } })
  ∧ (∀ s t c, Ends (.cardInsert t c) s fun m => m.card.card = some c ∧ m.card.locked = false
      ∧ (m.card.unread = true ↔ (s.m.power.boot = .ready ∨ s.m.power.boot = .started)
          ∧ (s.m.card.lastSb = none ∨ (cardSuper c).map Prod.fst ≠ s.m.card.lastSb)))

/-- PTP exchanges (R420, R425, R428, R431-R433, R440, R443, R445); the loss of a time reference and the start of line time (R420, R421,
R425, R426, R443).
Choices of the model that it meets: log entries 7, 32, 33, 34, 47. -/
def Obligations.TimeFollowsItsReferences : Prop :=
  (∀ s t dom offset rate gm, s.m.followsLine = true → s.m.time.keeper = false → s.m.time.lineM = none →
    Effects (.ptpSync t false dom offset rate gm) s fun m => m.time.lineM = some ⟨dom, 1, offset, false, gm⟩
      ∧ m.time.masterDom = dom ∧ m.time.line = s.m.time.line ∧ m.time.cal = s.m.time.cal)
  ∧ (∀ s t dom offset rate gm, s.m.takesExt = true → s.m.time.extM = none → s.m.time.calSt = .unset →
    Effects (.ptpSync t true dom offset rate gm) s fun m => m.time.extM = some ⟨0, 1, offset, false, gm⟩
      ∧ m.time.calSt = .acquiring ∧ m.time.calFrom = .unset ∧ m.time.cal = s.m.time.cal)
  ∧ (∀ s t offset x, s.m.followsLine = true → s.m.time.keeper = false → s.m.time.lineM = some x →
    (x.exchange offset).qual = false →
    Effects (.delayResp t false offset x.gm) s fun m => m.time.lineM = some (x.exchange offset)
      ∧ m.time.line = s.m.time.line)
  ∧ (∀ s t offset x, s.m.takesExt = true → s.m.time.extM = some x → (x.exchange offset).qual = false →
    Effects (.delayResp t true offset x.gm) s fun m => m.time.extM = some (x.exchange offset)
      ∧ m.time.cal = s.m.time.cal)
  ∧ (∀ s t port id seq stamp, s.m.controls = true → s.m.portRole port = .segment → s.m.prog.run = .running →
    Ends (.delayReq t port id seq stamp false) s fun m => m.out = [.delayResp port id seq stamp]
      ∧ (tabGet m.time.ports .zero port).delayRx = inc32 (tabGet s.m.time.ports .zero port).delayRx)
  ∧ (∀ s t gm better valid offset, s.m.takesExt = true → s.m.time.extM = none →
    Gives (.ptpAnnounce t gm better valid offset) s { s.m.start t with
      time := { s.m.time with utcValid := valid, utcOffset := offset } })
  ∧ (∀ s t gm valid offset x, s.m.takesExt = true → s.m.time.extM = some x → x.gm ≠ gm →
    Gives (.ptpAnnounce t gm true valid offset) s { s.m.start t with
      time := { s.m.time with extM := some ⟨0, 0, x.offset, false, gm⟩, utcValid := valid, utcOffset := offset } }
    ∧ Gives (.ptpAnnounce t gm false valid offset) s (s.m.start t))
  ∧ (∀ s t r, s.m.timeRec = some r → s.m.followsLine = true → s.m.time.lineM ≠ none →
    Gives (.delayReqTimer t false) s ((s.m.start t).emit (.delayReq false (s.m.peerPort.getD 0) r.ltPtpDom)))
  ∧ (∀ s t r, s.m.timeRec = some r → s.m.takesExt = true → s.m.time.extM ≠ none → r.extSrc = .eng1 →
    Gives (.delayReqTimer t true) s ((s.m.start t).emit (.delayReq true 4 r.xPtpDom)))
  ∧ (∀ s t x, s.m.controls = true → s.m.time.lineM = some x → x.qual = true →
    Ends (.ptpMasterLost t false) s fun m => m.time.lt = .holdover ∧ m.time.lineM = none ∧ m.time.masterDom = 0xFF
      ∧ m.time.keeperAt = some (max s.m.now t + 1000000000 + 250000000 * s.m.domain)
      ∧ m.time.refLosses = inc32 s.m.time.refLosses ∧ m.time.line = s.m.time.line)
  ∧ (∀ s t x, s.m.controls = true → s.m.time.extM = some x → x.qual = true → s.m.isSource = false →
    Ends (.ptpMasterLost t true) s fun m => m.time.calSt = .holdover ∧ m.time.extM = none
      ∧ m.time.refLosses = inc32 s.m.time.refLosses ∧ m.time.cal = s.m.time.cal ∧ m.time.lt = s.m.time.lt)
  ∧ (∀ s t x, s.m.time.keeperAt = some x → x ≤ max s.m.now t → s.m.followsLine = true → s.m.time.begun = true →
    s.m.time.lineM = none →
    Gives (.keeperStart t) s { s.m.start t with time := { s.m.time with keeper := true, keeperAt := none } })
  ∧ (∀ s t x r, s.m.time.begun = false → s.m.time.waitFrom = some x → s.m.timeRec = some r →
    x + r.ltWaitS * 1000000000 ≤ max s.m.now t →
    Effects (.ltWaitExpiry t) s fun m => m.time.begun = true ∧ m.time.lt = .free ∧ m.time.waitFrom = none
      ∧ m.lt = max s.m.time.l0 s.m.ownL0 * secUnits ∧ m.sched.running = true)
  ∧ (∀ s t, s.m.pair.role = .shadow → s.m.hall.link = .up → s.m.time.lastTimeMsg + 1000000 ≤ max s.m.now t →
    s.m.pair.ready = true → s.m.pair.holdSince = none →
    Settles (.timeMsgTimeout t) s { s.m.start t with pair := { s.m.pair with holdSince := some (max s.m.now t) } })
  ∧ (∀ s t, s.m.pair.role = .shadow → s.m.hall.link = .up → s.m.time.lastTimeMsg + 1000000 ≤ max s.m.now t →
    s.m.pair.ready = false → Effects (.timeMsgTimeout t) s fun m => m.pair.role = .joining ∧ m.prog.run = .joining)

/-- R499, R500: a message with a failed check or a gap in MSEQ counts an error and sets the link DOWN; while the link is not UP
no message is taken; an IDLE that is taken changes nothing else. The link's training and its timers (R495, R496, R500, R509, R520).
Choices of the model that it meets: log entries 8, 25, 30. -/
def Obligations.HallwayLinkTrainsAndChecks : Prop :=
  (∀ s c x cls, heardAs c = some (x, cls) → s.m.hall.link = .up → Garbled s x cls →
    Settles c s (({ s.m.start x.moment with hall := { s.m.hall with chkErr := inc32 s.m.hall.chkErr } } : Mod).linkDown))
  ∧ (∀ s c x cls, heardAs c = some (x, cls) → s.m.hall.link ≠ .up → Settles c s (s.m.start x.moment))
  ∧ (∀ s x, Hears s x 0 → Settles (.mIdle x) s (Heard s x 0))
  ∧ (∀ s t, s.m.hall.link = .down → s.m.powered 11 = true → (s.m.power.boot = .ready ∨ s.m.power.boot = .started) →
    Settles (.hallTrainingRetry t) s { s.m.start t with
      hall := { s.m.hall with link := .training, trainSince := max s.m.now t } })
  ∧ (∀ s t, s.m.hall.link = .training → s.m.hall.trainSince + 50000000 ≤ max s.m.now t →
    Settles (.hallTrainingTimeout t) s ((s.m.start t).linkDown))
  ∧ (∀ s t, s.m.powered 11 = true → s.m.hall.link = .training →
    Effects (.hallLaneTrained t 0) s fun m => m.hall.hl0 = true ∧ m.hall.hl1 = s.m.hall.hl1 ∧ m.hall.link = .hello
      ∧ ∃ y b, m.out = [.hall (.mHello y b)] ∧ m.hall.own = some b ∧ b.side = s.m.side ∧ b.serial = s.m.savis.serial)
  ∧ (∀ s t, s.m.powered 11 = true → s.m.hall.link ≠ .training →
    Settles (.hallLaneTrained t 1) s { s.m.start t with hall := { s.m.hall with hl1 := true, hl0 := s.m.hall.hl0 } })
  ∧ (∀ s t, s.m.hall.hl0 = true → s.m.hall.hl1 = true → s.m.hall.link = .up →
    Effects (.hallLaneLost t 0) s fun m => m.hall.hl0 = false ∧ m.hall.hl1 = true ∧ m.hall.link = .up)
  ∧ (∀ s t, s.m.hall.hl0 = false → s.m.hall.hl1 = true → s.m.hall.link = .up →
    Effects (.hallLaneLost t 1) s fun m => m.hall.hl1 = false ∧ m.hall.link = .down
      ∧ m.hall.linkDowns = inc32 s.m.hall.linkDowns)
  ∧ (∀ s t seq, s.m.hall.hl0 = true →
    Gives (.hallLinkBlock t 0 seq true) s { s.m.start t with
      hall := { s.m.hall with blockSeq := seq, blocksTx := s.m.hall.blocksTx + 1 } }
    ∧ Gives (.hallLinkBlock t 0 seq false) s { s.m.start t with
      hall := { s.m.hall with replays := inc32 s.m.hall.replays } })
  ∧ (∀ s t, s.m.hall.link = .up → s.m.hall.lastTx + 100000 ≤ max s.m.now t →
    Ends (.hallIdleTimer t) s fun m => m.hall.lastTx = max s.m.now t
      ∧ m.out = [.hall (.mIdle ⟨max s.m.now t, (tabGet s.m.hall.txSeq 0 0 + 1) % 2 ^ 32, s.m.sched.tick % 2 ^ 32, true⟩)])
  ∧ (∀ s t b, s.m.hall.link = .hello → s.m.hall.own = some b →
    Ends (.helloResend t) s fun m => ∃ y, m.out = [.hall (.mHello y b)])
  ∧ (∀ s t, s.m.hall.link = .up →
    Ends (.rolePeriodic t) s fun m => ∃ y, m.out = [.hall (.mRole y s.m.pair.role s.m.pair.ready s.m.bolt.armed
      s.m.prog.ownKey (BitVec.ofNat 32 s.m.newel.failWord) s.m.pair.epoch)] ∧ m.pair = s.m.pair)
  ∧ (∀ s t q k t1 t2, s.m.hall.link = .up → s.m.controls = false → s.m.hall.lastTime = some (q, k, t1, t2) →
    Ends (.timeEchoPeriodic t) s fun m =>
      ∃ y, m.out = [.hall (.mTimeEcho y q t1 t2 (timeVal (s.m.start t).lt) ⟨0, 0, 0⟩)])

/-- HELLO and AGREE (R485, R496, R497, R501, R502): the agreement is computed and sent, equal agreements bring the link UP at
the levels agreed, different ones start again.
Choices of the model that it meets: log entry 17. -/
def Obligations.HelloAndAgreeBringTheLinkUp : Prop :=
  (∀ s x b h, s.m.hall.link = .hello → x.chkOk = true → s.m.hall.own = some h → s.m.hall.partnerAgree = none →
    Effects (.mHello x b) s fun m => m.hall.partner = some b ∧ m.hall.agree = some (agreement h b) ∧ m.hall.link = .hello
      ∧ ∃ y, m.out = [.hall (.mAgree y (agreement h b))])
  ∧ (∀ s x b, s.m.hall.link = .hello → x.chkOk = false →
    Settles (.mHello x b) s (((s.m.start x.moment).badMsg).linkDown))
  ∧ (∀ s x b, s.m.hall.link = .hello → x.chkOk = true → s.m.hall.agree = some b → b.result = 0 →
    Effects (.mAgree x b) s fun m => m.hall.link = .up ∧ m.hall.pflNow = b.pfl ∧ m.hall.hofNow = b.hof
      ∧ m.pair.pfl = b.pfl ∧ m.pair.hof = b.hof ∧ m.hall.rxSeq = []
      ∧ (∀ h, s.m.hall.partner = some h → m.pair.partner = some h.role))
  ∧ (∀ s x a b, s.m.hall.link = .hello → x.chkOk = true → s.m.hall.agree = some a → a ≠ b →
    Effects (.mAgree x b) s fun m => m.hall.link = .hello ∧ m.hall.agree = none ∧ m.hall.partnerAgree = none)
  ∧ (∀ s x b, s.m.hall.link = .hello → x.chkOk = true → s.m.hall.agree = some b → b.result = 1 →
    Effects (.mAgree x b) s fun m => m.hall.link = .refused ∧ m.hall.result = 1)

/-- Roles, time and plans between the modules (R423, R426, R456, R479, R500, R509).
Choices of the model that it meets: log entries 5, 7. -/
def Obligations.RoleTimeAndPlanMessagesAreTaken : Prop :=
  (∀ s x role ready armed key fail epoch, Hears s x 0 → s.m.pair.role = .shadow → (role = .owner ∨ role = .alone) →
    Effects (.mRole x role ready armed key fail epoch) s fun m => m.pair.partner = some role ∧ m.pair.partnerReady = ready
      ∧ m.pair.partnerKey = key ∧ m.pair.partnerFail = fail ∧ m.pair.epoch = epoch ∧ m.pair.epochHeld = some epoch
      ∧ m.pair.role = .shadow)
  ∧ (∀ s x ready armed key fail epoch i, Hears s x 0 → s.m.pair.role = .alone → s.m.prog.image = some i →
    Effects (.mRole x .joining ready armed key fail epoch) s fun m => m.pair.role = .owner ∧ m.hall.join = .first
      ∧ m.hall.sender = true ∧ m.hall.fmt = s.m.hall.hofNow)
  ∧ (∀ s x t1 cal rate crate st delay t2, Hears s x 0 → s.m.pair.role = .shadow →
    (diffPs t2 t1 - delay).natAbs ≤ 200000 →
    let offset := diffPs t2 t1 - delay
    let line := (((s.m.start x.moment).lt : Int) - offset * 65536 / 1000).toNat
    Effects (.mTime x t1 cal rate crate st delay t2) s fun m =>
      m.time.line = ⟨max s.m.now x.moment, line, rate⟩ ∧ m.time.cal.base = line ∧ m.time.cal.rate = crate
      ∧ m.time.lt = .tracking ∧ m.time.calSt = .tracking ∧ m.time.calValid = st.getLsbD 23
      ∧ m.time.lastTimeMsg = max s.m.now x.moment ∧ m.pair = s.m.pair)
  ∧ (∀ s x t1 cal rate crate st delay t2, Hears s x 0 → s.m.pair.role = .shadow → s.m.pair.ready = false →
    200000 < (diffPs t2 t1 - delay).natAbs →
    Effects (.mTime x t1 cal rate crate st delay t2) s fun m => m.pair.role = .joining ∧ m.time.lt = .tracking)
  ∧ (∀ s x q t1 t2 t3 t4, Hears s x 0 →
    Settles (.mTimeEcho x q t1 t2 t3 t4) s { Heard s x 0 with
      hall := { (Heard s x 0).hall with delayPs := (diffPs t4 t1 - diffPs t3 t2) / 2 } })
  ∧ (∀ s x tick es, Hears s x 0 → s.m.pair.role = .shadow →
    Settles (.mPlan x true tick es) s { Heard s x 0 with pair := { s.m.pair with plan := { s.m.pair.plan with
      st := .go, released := true, tick := some (s.m.pair.plan.tick.getD tick) } } }
    ∧ Effects (.mPlan x false tick es) s fun m => m.pair.plan = { s.m.pair.plan with entries := es })

/-- What an owner forwards waits at the shadow for its tick or its place (R84, R90, R104, R272, R456, R508).
Choices of the model that it meets: log entries 14, 35. -/
def Obligations.ForwardedDataIsHeld : Prop :=
  (∀ s x gen stn st inp, Hears s x 1 → s.m.follows = true → s.m.sched.tick < gen → TickWaits (s.m.start x.moment) →
    Settles (.mPayload x gen stn st inp) s { Heard s x 1 with
      pantry := { s.m.pantry with payloads := s.m.pantry.payloads ++ [(gen, stn, st, inp)] } })
  ∧ (∀ s x gen a b c, Hears s x 1 → s.m.follows = true → s.m.sched.tick < gen → TickWaits (s.m.start x.moment) →
    Settles (.mClose x gen a b c) s { Heard s x 1 with
      pantry := { s.m.pantry with closes := s.m.pantry.closes ++ [(gen, a, b, c)] } })
  ∧ (∀ s x f, Hears s x 1 → s.m.follows = true → s.m.sched.tick < f.tick → TickWaits (s.m.start x.moment) →
    Settles (.mSample x f) s { Heard s x 1 with
      hall := { (Heard s x 1).hall with samples := s.m.hall.samples ++ [f] }
      pair := { s.m.pair with epoch := f.epoch, epochHeld := some f.epoch } })
  ∧ (∀ s x e c o r n v0 v1, Hears s x 1 → s.m.follows = true →
    Settles (.mLive x e c o r n v0 v1) s { Heard s x 1 with
      hall := { (Heard s x 1).hall with live := s.m.hall.live ++ [⟨e, c, o, r, n, v0, v1⟩] } })
  ∧ (∀ s x k r o f c d, Hears s x 1 → s.m.compares = true → s.m.hall.cut = none → s.m.hall.ownDigs = [] →
    s.m.hall.ownerDigs.length < 64 →
    Settles (.mDigest x k r o f c d) s { Heard s x 1 with
      hall := { (Heard s x 1).hall with ownerDigs := s.m.hall.ownerDigs ++ [⟨k, r, o, f, c, d⟩] } })
  ∧ (∀ s x k r o c c' at_, Hears s x 1 → s.m.pair.role = .shadow → s.m.compares = true → s.m.hall.cut = none →
    s.m.hall.ownDigs = [(at_, ⟨k, r, o, false, c', 0⟩)] → c' ≠ c →
    Effects (.mDigest x k r o false c 0) s fun m => m.newel.mismatch = inc32 s.m.newel.mismatch
      ∧ m.pair.role = .joining)
  ∧ (∀ s t at_ d, s.m.pair.role = .shadow → s.m.compares = true → s.m.hall.ownDigs = [(at_, d)] →
    at_ + 20000 ≤ max s.m.now t → s.m.pair.ready = false →
    Effects (.digestWaitTimeout t) s fun m => m.pair.role = .joining)
  ∧ (∀ s x stn tsp ver reason, Hears s x 2 → s.m.controls = false →
    Settles (.mStnstate x stn tsp ver reason) s ((Heard s x 2).setStn stn fun z =>
      { z with state := tspOf tsp, ver := ver, reason := reason }))

/-- Relay frames and the mirror (R71, R304-R307, R472, R506).
Choices of the model that it meets: log entries 6, 18, 96. -/
def Obligations.RelayFramesAndMirrorsAreTaken : Prop :=
  (∀ s x port a b f, Hears s x 1 → s.m.controls = true → s.m.portRole port = .segment →
    (f.type = 2 ∨ f.type = 4 ∨ f.type = 6 ∨ f.type = 8) →
    Settles (.mRelayUp x port false a b f) s ((Heard s x 1).ringPut port ⟨f, b, true⟩))
  ∧ (∀ s x port entry e, Hears s x 1 → s.m.controls = false → 768 ≤ entry → entry < 1024 →
    (s.m.start x.moment).ltNs ≤ e.launch →
    Settles (.mRelayDn x port entry e) s ((Heard s x 1).setEntry port entry (some { e with state := 1, relay := true })))
  ∧ (∀ s x port entry e, Hears s x 1 → s.m.controls = false → 768 ≤ entry → entry < 1024 → e.kind ≠ 2 →
    e.launch < (s.m.start x.moment).ltNs →
    Effects (.mRelayDn x port entry e) s fun m => m.pantry = s.m.pantry
      ∧ ∃ y, m.out = [.hall (.mRelayRpt y port entry 3 0)])
  ∧ (∀ s x port entry sent i e, Hears s x 1 → s.m.prog.image = some i →
    tabFind (s.m.port port).relayQ entry = some e →
    Effects (.mRelayRpt x port entry 3 sent) s fun m =>
      tabFind (m.port port).relayQ entry = some { e with state := 3, sent := sent }
      ∧ m.sched.lateDropped = inc32 s.m.sched.lateDropped)
  ∧ (∀ s x op idem stn id client o at_ body, Hears s x 2 → s.m.controls = false → op = 1 →
    Effects (.mMirror x op idem true stn id client o at_ body) s fun m =>
      (∃ q, m.savis.reqs = s.m.savis.reqs ++ [q] ∧ q.client = client ∧ q.id = id ∧ q.foreign = true)
      ∧ ∃ y, m.out = [.hall (.mMirrorAck y x.mseq id op)])
  ∧ (∀ s x idem stn id client at_ body, Hears s x 2 → s.m.controls = false → client ≠ 0 →
    Effects (.mMirror x 1 idem false stn id client .pending at_ body) s fun m =>
      (∃ i, (m.stn stn).items = (s.m.stn stn).items ++ [i] ∧ i.reqId = id ∧ i.client = client)
      ∧ ∃ y, m.out = [.hall (.mMirrorAck y x.mseq id 1)])
  ∧ (∀ s x q id stn pos i, Hears s x 2 → s.m.waitingItem id = some (stn, pos, i) → i.client = 0 →
    Effects (.mMirrorAck x q id 1) s fun m =>
      (m.stn stn).items = (s.m.stn stn).items.map fun j => if j.reqId = id then { j with pended := true } else j)

/-- The image, verdicts and the messages of a join (R195, R488, R510-R515, R518, R519, R552).
Choices of the model that it meets: log entries 22, 23, 27. -/
def Obligations.JoinMessagesFillTheJoiner : Prop :=
  (∀ s x, Hears s x 3 → s.m.pair.role = .shadow →
    Effects (.mImage x true none) s fun m => m.prog = s.m.prog ∧ ∃ y, m.out = [.hall (.mVerdict y true 1)])
  ∧ (∀ s x i r inst field, Hears s x 3 → s.m.pair.role = .shadow → (Heard s x 3).changeCheck i = (r, inst, field) → r ≠ 0 →
    Effects (.mImage x true (some i)) s fun m => m.prog.chgState = .refused ∧ m.prog.chgReason = r ∧ m.prog.staged = none
      ∧ ∃ y, m.out = [.hall (.mVerdict y true r)])
  ∧ (∀ s x r, Hears s x 2 → s.m.prog.chgState = .checking → s.m.controls = true → r ≠ 0 →
    Effects (.mVerdict x true r) s fun m => m.prog.chgState = .refused ∧ m.prog.staged = none ∧ m.prog.chgReason = 0x0E)
  ∧ (∀ s x r, Hears s x 2 → s.m.hall.join = .admitting → s.m.hall.sender = true → r ≠ 0 →
    Settles (.mVerdict x false r) s { Heard s x 2 with
      hall := { (Heard s x 2).hall with verdict := some r, join := .none } })
  ∧ (∀ s x fmt donor pages tick i, Hears s x 0 → s.m.pair.role = .joining → s.m.prog.image = some i →
    Effects (.mHoOpen x fmt donor pages tick) s fun m => m.hall.join = .first ∧ m.hall.sender = false ∧ m.hall.fmt = fmt
      ∧ m.hall.donor = donor ∧ m.sched.running = false ∧ m.prog.run = .joining ∧ m.hall.openAt = some (max s.m.now x.moment))
  ∧ (∀ s x page pass words, Hears s x 3 → s.m.joins = true →
    Effects (.mPage x 1 page pass words) s fun m => m.hall.joinPages = inc32 s.m.hall.joinPages
      ∧ ∀ l, (m.lane l).inst = memWrite (s.m.lane l).inst (page * 512) (words.take 512))
  ∧ (∀ s x stn gen bytes, Hears s x 3 → s.m.joins = true → stn < 0x2000 →
    Settles (.mHeld x stn gen bytes) s
      ((((Heard s x 3).enter gen stn bytes).enter (gen + 1) stn bytes).enter (gen + 2) stn bytes))
  ∧ (∀ s x ver ok sec i, Hears s x 3 → s.m.joins = true → s.m.prog.image = some i → ok = true → ver = s.m.hall.fmt →
    sec ≠ .unreadable → Settles (.mSection x ver ok sec) s ((Heard s x 3).takeSection i sec))
  ∧ (∀ s x ver ok sec, Hears s x 3 → s.m.joins = true → (sec = .unreadable ∨ ok = false ∨ ver ≠ s.m.hall.fmt) →
    Effects (.mSection x ver ok sec) s fun m => m.hall.join = .none ∧ m.pair.role = .out ∧ m.pair.outCause = 0x11)
  ∧ (∀ s x tick a b i, Hears s x 0 → s.m.joins = true → s.m.prog.image = some i → s.m.time.begun = true →
    s.m.attic.fault = false → (s.m.start x.moment).ltNs < (tick - 1) * i.tickNs →
    Effects (.mHoCut x tick a b) s fun m => m.hall.join = .compare ∧ m.hall.cut = some tick ∧ m.sched.running = true
      ∧ m.sched.tick = tick - 1 ∧ m.attic.refilling = true)
  ∧ (∀ s x, Hears s x 0 → s.m.hall.sender = true → s.m.hall.join ≠ .none →
    Effects (.mHoEnd x 0) s fun m => m.hall.join = .none ∧ m.hall.last = 0 ∧ m.hall.openAt = none)
  ∧ (∀ s x r, Hears s x 0 → s.m.pair.role = .joining → r ≠ 0 → r ≠ 6 →
    Effects (.mHoEnd x r) s fun m => m.hall.join = .none ∧ m.hall.last = r ∧ m.pair.role = .out)

/-- The partner's lines (R447, R453-R455, R458, R459, R462, R463, R465): what a rise, a fall, the loss of LIVE and the loss of
the Hallway make of each role.
Choices of the model that it meets: log entries 101, 117. -/
def Obligations.PartnerLinesChangeRoles : Prop :=
  (∀ s t, s.m.bolt.ownPartner = true → s.m.pair.role = .shadow → s.m.pair.ready = true → s.m.pair.plan.st ≠ .go →
    Effects (.partnerOwnFall t) s fun m => m.bolt.ownPartner = false ∧ m.bolt.partnerLow = max s.m.now t
      ∧ m.bolt.partnerFall = some (max s.m.now t) ∧ m.pair.decider = true ∧ m.pair.holdSince = none
      ∧ m.pair.fallTick = some ((s.m.start t).ltNs / s.m.tickNs) ∧ m.pair.role = .shadow)
  ∧ (∀ s t, s.m.bolt.ownPartner = true →
    (s.m.pair.role = .joining ∨ (s.m.pair.role = .shadow ∧ s.m.pair.ready = false)) →
    Effects (.partnerOwnFall t) s fun m => m.bolt.ownPartner = false ∧ m.pair.role = .out ∧ m.pair.outCause = 0x0B
      ∧ (s.m.pair.role = .joining → m.hall.last = 2))
  ∧ (∀ s t, s.m.bolt.ownPartner = true → s.m.pair.role ≠ .shadow → s.m.pair.role ≠ .joining →
    Settles (.partnerOwnFall t) s { (s.m.start t).reflexNow with bolt := { s.m.bolt with
      ownPartner := false, partnerLow := max s.m.now t, partnerFall := some (max s.m.now t), ownStuck := false } })
  ∧ (∀ s t r, s.m.bolt.side = true → s.m.bolt.ownSelf = true → s.m.bolt.raisedAt = some r → max s.m.now t ≤ r + 2000 →
    Effects (.partnerOwnRise t) s fun m => m.bolt = { s.m.bolt with
      ownPartner := true, partnerFall := none, ownSelf := false, raisedAt := none, contention := true } ∧ m.pair = s.m.pair)
  ∧ (∀ s t, s.m.bolt.side = false ∨ s.m.bolt.ownSelf = false →
    Effects (.partnerOwnRise t) s fun m => m.bolt = { s.m.bolt with ownPartner := true, partnerFall := none }
      ∧ m.pair.role = s.m.pair.role)
  ∧ (∀ s t, s.m.bolt.livePartner = false →
    Settles (.partnerLiveSeen t) s { s.m.start t with
      bolt := { s.m.bolt with livePartner := true, liveSeen := some (max s.m.now t) } })
  ∧ (∀ s t, s.m.bolt.livePartner = true →
    Effects (.partnerLiveLost t) s fun m => m.bolt = { s.m.bolt with
      livePartner := false, liveSeen := none, liveLast := max s.m.now t - 2000 }
      ∧ m.pair.role = if s.m.pair.role = .owner then .alone else s.m.pair.role)
  ∧ (∀ s t, s.m.bolt.livePartner = true → s.m.hall.lastRx + 1000000 ≤ max s.m.now t → s.m.pair.role = .owner →
    Effects (.hallwayLost t) s fun m => m.pair.role = .alone ∧ m.pair.lastCause = 5 ∧ m.bolt = s.m.bolt)
  ∧ (∀ s t, s.m.bolt.livePartner = true → s.m.hall.lastRx + 1000000 ≤ max s.m.now t →
    (s.m.pair.role = .joining ∨ (s.m.pair.role = .shadow ∧ s.m.pair.decider = false)) →
    Effects (.hallwayLost t) s fun m => m.pair.role = .out ∧ m.pair.outCause = 0x11 ∧ m.bolt.ownSelf = false)
  ∧ (∀ s t, s.m.bolt.ownPartner = true → s.m.bolt.livePartner = false → s.m.bolt.liveLast + 5000 ≤ max s.m.now t →
    Effects (.ownStuck t) s fun m => m.bolt.ownStuck = true ∧ m.pair.role = .out
      ∧ (s.m.pair.role ≠ .out → m.pair.outCause = 0x0B))

/-- The module's own lines (R449-R452, R456, R457, R459): strokes hold the LIVE permit, its loss takes OWN low and the module
OUT, OWN rises once every condition is met, with the next epoch.
Choices of the model that it meets: log entries 16, 115. -/
def Obligations.OwnLinesFollowThePermit : Prop :=
  (∀ s t, Gives (.stroke t) s { s.m.start t with bolt := { s.m.bolt with lastStroke := max s.m.now t } })
  ∧ (∀ s t, s.m.bolt.permit = true → s.m.bolt.lastStroke ≠ 0 → s.m.bolt.lastStroke + 16000 ≤ max s.m.now t →
    Effects (.livenessWatchdog t) s fun m => m.bolt.wdExpired = true ∧ m.bolt.permit = false ∧ m.bolt.liveSelf = false
      ∧ m.bolt.armed = false ∧ m.bolt.ownSelf = false ∧ m.pair.role = .out)
  ∧ (∀ s t, s.m.bolt.permit = true → s.m.bolt.lastStroke ≠ 0 → max s.m.now t < s.m.bolt.lastStroke + 16000 →
    (s.m.start t).lsuLate = false → Settles (.livenessWatchdog t) s (s.m.start t))
  ∧ (∀ s t, s.m.bolt.liveSelf = false →
    Settles (.ownFallNoLive t) s { (s.m.start t).reflexNow with
      bolt := { s.m.bolt with ownSelf := false, raisedAt := none } })
  ∧ (∀ s t, MayRaise s.m (max s.m.now t) →
    Effects (.ownRaise t) s fun m => m.bolt.ownSelf = true ∧ m.bolt.raisedAt = some (max s.m.now t)
      ∧ m.bolt.request = true ∧ m.pair.epoch = s.m.pair.nextEpoch ∧ m.pair.epochHeld = some s.m.pair.nextEpoch
      ∧ m.pair.role = if s.m.pair.role = .shadow then (if s.m.pair.plan.st = .go then .owner else .alone)
          else s.m.pair.role)
  ∧ (∀ s t, ¬MayRaise s.m (max s.m.now t) → Settles (.ownRaise t) s (s.m.start t))

/-- The start rule (R458, R485, R486, R515, R531): a module in OUT that may leave it becomes ALONE, JOINING or stays OUT, by what
it sees of the partner.
Choices of the model that it meets: log entry 30. -/
def Obligations.StartRuleGivesARole : Prop :=
  (∀ s t i, s.m.power.boot = .started → (s.m.start t).mayStart = true → s.m.bolt.ownPartner = false →
    s.m.bolt.livePartner = false → max s.m.power.startedAt s.m.bolt.liveLast + 2000000000 ≤ max s.m.now t →
    s.m.prog.image = some i →
    Effects (.startRule t) s fun m => m.pair.role = .alone ∧ m.pair.lastCause = 1 ∧ m.bolt.request = true
      ∧ m.pair.partner = none)
  ∧ (∀ s t, s.m.power.boot = .started → (s.m.start t).mayStart = true → s.m.bolt.ownPartner = false →
    s.m.bolt.livePartner = false → max s.m.power.startedAt s.m.bolt.liveLast + 2000000000 ≤ max s.m.now t →
    s.m.prog.image = none →
    Effects (.startRule t) s fun m => m.pair.role = .out ∧ m.pair.outCause = 0x10 ∧ m.bolt = s.m.bolt)
  ∧ (∀ s t h i, s.m.power.boot = .started → (s.m.start t).mayStart = true → s.m.bolt.ownPartner = true →
    s.m.hall.link = .up → (s.m.pair.partner = some .owner ∨ s.m.pair.partner = some .alone) →
    s.m.hall.hofNow ≠ 0 → s.m.hall.partner = some h → s.m.prog.image = some i → h.digest = i.digest →
    Effects (.startRule t) s fun m => m.pair.role = .joining ∧ m.pair.lastCause = 2 ∧ m.prog.run = .joining)
  ∧ (∀ s t, s.m.power.boot = .started → (s.m.start t).mayStart = true → s.m.bolt.ownPartner = true →
    s.m.hall.link = .up → s.m.pair.partner = some .owner → s.m.hall.hofNow = 0 →
    Effects (.startRule t) s fun m => m.pair.role = .out ∧ m.pair.outCause = 0x0F)
  ∧ (∀ s t i a, s.m.power.boot = .started → (s.m.start t).mayStart = true → s.m.bolt.ownPartner = false →
    s.m.bolt.livePartner = true → s.m.hall.link = .up → s.m.hall.agree = some a → s.m.prog.image = some i →
    (a.winner = s.m.side → Effects (.startRule t) s fun m => m.pair.role = .alone)
    ∧ (a.winner = 2 → Effects (.startRule t) s fun m => m.pair.role = .out ∧ m.pair.outCause = 0x0C))
  ∧ (∀ s t u, s.m.power.boot = .started → (s.m.start t).mayStart = true → s.m.bolt.ownPartner = false →
    s.m.bolt.livePartner = true → s.m.hall.link ≠ .up → s.m.bolt.liveSeen = some u →
    max s.m.now t < u + 10000000000 → Settles (.startRule t) s (s.m.start t))
  ∧ (∀ s t, s.m.power.boot = .started → (s.m.start t).mayStart = false → Settles (.startRule t) s (s.m.start t))
  ∧ (∀ s t e i, s.m.hall.endedAt = some e → s.m.pair.role = .out → e + 10000000000 ≤ max s.m.now t →
    s.m.bolt.permit = true → s.m.bolt.ownStuck = false → s.m.newel.failed = false → s.m.pair.outCause = 0x11 →
    2 ≤ s.m.servingCount → s.m.bolt.ownPartner = false → s.m.bolt.livePartner = false →
    max s.m.power.startedAt s.m.bolt.liveLast + 2000000000 ≤ max s.m.now t → s.m.prog.image = some i →
    Effects (.joinRetry t) s fun m => m.pair.role = .alone ∧ m.bolt.request = true ∧ m.hall.endedAt = none)

/-- A shadow that loses step, a planned switchover and the steps of a join at the owner (R272, R461, R477-R480, R511, R513, R515).
Choices of the model that it meets: log entries 22, 35, 101. -/
def Obligations.SwitchoversAndJoinsProceed : Prop :=
  (∀ s t h, s.m.pair.holdSince = some h → s.m.pair.role = .shadow → h + s.m.tickNs ≤ max s.m.now t →
    s.m.bolt.ownPartner = true →
    Effects (.readyHoldExpiry t) s fun m => m.pair.role = .joining ∧ m.pair.ready = false ∧ m.pair.lastCause = 6)
  ∧ (∀ s t i, s.m.prog.image = some i → s.m.pair.role = .shadow → s.m.pair.decider = false →
    (s.m.start t).genComplete (s.m.sched.tick + 1) = false →
    s.m.edgeAt i (s.m.sched.tick + 1) + 20000 ≤ (s.m.start t).ltNs →
    (s.m.pair.ready = true → s.m.pair.holdSince = none →
      Settles (.shadowGenerationTimeout t) s { s.m.start t with
        pair := { s.m.pair with holdSince := some (max s.m.now t) } })
    ∧ (s.m.pair.ready = false → Effects (.shadowGenerationTimeout t) s fun m => m.pair.role = .joining))
  ∧ (∀ s t i sw u, s.m.prog.image = some i → s.m.pair.plan.tick = some sw → s.m.pair.plan.st = .go →
    s.m.pair.role = .owner → s.m.pair.shadowTiming = true → 2 ≤ s.m.pair.pfl → s.m.test.dbgOpen = none →
    (s.m.start t).outLast i sw = some u → u + 500 ≤ (s.m.start t).ltNs →
    Effects (.plannedOwnRelease t) s fun m => m.pair.role = .shadow ∧ m.pair.ready = true ∧ m.pair.lastCause = 8
      ∧ m.bolt.ownSelf = false ∧ m.bolt.request = false ∧ m.pair.plan.released = true ∧ m.time.lt = .tracking)
  ∧ (∀ s t i sw u, s.m.prog.image = some i → s.m.pair.plan.tick = some sw → (s.m.start t).outLast i sw = some u →
    (s.m.start t).ltNs < u + 500 → Settles (.plannedOwnRelease t) s (s.m.start t))
  ∧ (∀ s t, s.m.pair.plan.st = .waiting → s.m.pair.plan.since + 30000000000 ≤ max s.m.now t →
    Effects (.switchoverTimeout t) s fun m => m.pair = { s.m.pair with plan := { s.m.pair.plan with
      st := .failed, key := none, tick := none } })
  ∧ (∀ s t pages marked i, s.m.prog.image = some i → s.m.joinSends = true →
    (∀ l, (s.m.lane l).mode ≠ .resync) →
    Ends (.joinPassDone t pages marked) s fun m => m.hall.marked = marked
      ∧ (m.hall.join = .wait ∨ m.hall.join = .converge) ∧ m.lanes = s.m.lanes
      ∧ (s.m.hall.join = .wait → m.hall.join = .wait))
  ∧ (∀ s t pages marked l, (s.m.lane l).mode = .resync →
    Gives (.joinPassDone t pages marked) s (s.m.start t))
  ∧ (∀ s t tEnd i, s.m.prog.image = some i → s.m.hall.sender = true → s.m.hall.join = .wait →
    (∀ l, (s.m.lane l).mode ≠ .resync) → (s.m.sched.tick + 1) % i.kmax = 0 → s.m.tickWorkDone = true →
    s.m.sched.tick * i.tickNs + tEnd ≤ (s.m.start t).ltNs → s.m.finalFits i s.m.hall.marked tEnd = true →
    Ends (.joinFinal t tEnd) s fun m => m.hall.join = .compare ∧ m.hall.cut = some (s.m.sched.tick + 1)
      ∧ m.hall.marked = 0
      ∧ (s.m.hall.link = .up → ∃ y k, m.out.getLast? = some (.hall (.mHoCut y (s.m.sched.tick + 1) k s.m.hall.marked))))
  ∧ (∀ s t u, s.m.hall.openAt = some u → s.m.hall.join ≠ .none → s.m.hall.join ≠ .compare →
    u + 60000000000 ≤ max s.m.now t →
    Effects (.joinTimeout t) s fun m => m.hall.join = .none ∧ m.hall.last = 1
      ∧ (s.m.pair.role = .joining → m.pair.role = .out ∧ m.pair.outCause = 0x11)
      ∧ (s.m.pair.role ≠ .joining → m.pair = s.m.pair))

/-- Lanes and samplers (R86, R89, R91, R105-R107, R115).
Choices of the model that it meets: log entries 45, 56, 74. -/
def Obligations.LanesStopResyncAndAreTested : Prop :=
  (∀ s t l mem, (s.m.lane l).mode = .serving → (s.m.lane l).stopped = none →
    LaneBecomes (.laneStop t l mem) s t l fun x =>
      { x with stopped := some mem, poisoned := if mem then inc32 x.poisoned else x.poisoned })
  ∧ (∀ s t l, LaneBecomes (.delayRegError t l true) s t l fun x => { x with drCorr := inc32 x.drCorr })
  ∧ (∀ s t l, (s.m.lane l).dr = [] →
    LaneBecomes (.delayRegError t l false) s t l fun x => { x with poison := true, poisoned := inc32 x.poisoned })
  ∧ (∀ s t l d rest, (s.m.lane l).dr = d :: rest →
    LaneBecomes (.delayRegError t l false) s t l fun x => { x with dr := { d with bad := true } :: rest })
  ∧ (∀ s t l kib marked, (s.m.lane l).mode = .resync → (s.m.lane l).power = true →
    ((s.m.lane l).phase = .first ∨ (s.m.lane l).phase = .converge) →
    LaneBecomes (.resyncPassDone t l kib marked) s t l fun x =>
      { x with phase := if marked ≤ 128 then .waitEdge else .converge
               marked := marked, copiedKib := add32 x.copiedKib kib })
  ∧ (∀ s t l i, s.m.prog.image = some i → (s.m.lane l).mode = .resync → (s.m.lane l).phase = .waitEdge →
    (s.m.sched.tick + 1) % i.kmax = 0 → s.m.cyclicDone = true → s.m.pair.shadowTiming = false →
    s.m.prog.go ≠ some (s.m.sched.tick + 1) →
    (s.m.start t).ltNs + s.m.cyclesNs ((s.m.lane l).marked * 128) + 1000 ≤ (s.m.sched.tick + 1) * i.tickNs →
    LaneBecomes (.resyncFinalPass t l) s t l fun x =>
      { x with phase := .final, copiedKib := add32 x.copiedKib (4 * x.marked) })
  ∧ (∀ s t l, (s.m.lane l).mode = .resync → (s.m.lane l).outAt + 30000000000 ≤ max s.m.now t →
    Effects (.resyncTimeout t l) s fun m => (m.lane l).mode = .retired ∧ (m.lane l).cause = .resyncTimeout
      ∧ m.powered (laneDomain l) = false ∧ ∀ k, k ≠ l → m.lane k = s.m.lane k)
  ∧ (∀ s t, Settles (.sampleRetry t true) s { s.m.start t with
      newel := { s.m.newel with resamples := inc32 s.m.newel.resamples } })
  ∧ (∀ s t, s.m.newel.failed = false → ModuleFails (.sampleRetry t false) s .samplerSplit)
  ∧ (∀ s t w, let x := s.m.newel.katLane
      Settles (.katTest t (some (x, w)) (some (x, w)) w) s { s.m.start t with newel := { s.m.newel with
        katLane := LaneId.after x, katBusy := max s.m.now t + 120, katRuns := inc32 s.m.newel.katRuns } })
  ∧ (∀ s t v0 v1 w, s.m.newel.failed = false →
    (v0 ≠ some (s.m.newel.katLane, w) ∨ v1 ≠ some (s.m.newel.katLane, w)) →
    ModuleFails (.katTest t v0 v1 w) s .katFail)
  ∧ (∀ s t, s.m.pair.role = .shadow → s.m.pair.ready = false →
    Effects (.shadowStallTimeout t) s fun m => m.pair.role = .joining ∧ m.prog.run = .joining)

/-- The vote (R98, R100-R102, R111, R116): equal records are published, one that differs or misses the deadline takes its lane
out, no majority fails the module.
Choices of the model that it meets: log entries 14, 41, 42, 122. -/
def Obligations.CheckpointsAreVoted : Prop :=
  (∀ s t k f i ws, Votes s i → NoFault f → 2 ≤ s.m.serving.length → (∀ x ∈ s.m.serving, Streams s.m i k x ws) →
    (∀ x ∈ s.m.serving, ∀ z ∈ tabFind (s.m.lane x).ctxs k.idx, z.req = []) → s.m.controls = true →
    Effects (.checkpointVote t (.cls k) f) s fun m => m.newel.counts = inc32 s.m.newel.counts
      ∧ m.newel.unanimous = inc32 s.m.newel.unanimous ∧ m.newel.failed = s.m.newel.failed
      ∧ (m.run k.idx).running = false ∧ ∀ x, (m.lane x).mode = (s.m.lane x).mode)
  ∧ (∀ s t k f i good odd ws ws', Votes s i → NoFault f → good ≠ odd → (∀ x, (s.m.lane x).mode = .serving) →
    (∀ x, x ≠ odd → Streams s.m i k x ws) → Streams s.m i k odd ws' → ws' ≠ ws →
    (∀ x, ∀ z ∈ tabFind (s.m.lane x).ctxs k.idx, z.req = []) → s.m.controls = true →
    Effects (.checkpointVote t (.cls k) f) s fun m => m.newel.majority = inc32 s.m.newel.majority
      ∧ (m.lane odd).mode = (if 2 ≤ ((s.m.lane odd).moments.filter fun u =>
            decide ((s.m.start t).ltNs < u + 86400000000000)).length then .retired else .resync)
      ∧ (m.lane good).mode = .serving ∧ (m.run k.idx).running = false)
  ∧ (∀ s t k f i odd ws, Votes s i → NoFault f → (∀ x, (s.m.lane x).mode = .serving) →
    (∀ x, x ≠ odd → Streams s.m i k x ws) → StillRuns s.m k odd →
    Settles (.checkpointVote t (.cls k) f) s (s.m.start t)
    ∧ ((∀ x, ∀ z ∈ tabFind (s.m.lane x).ctxs k.idx, z.req = []) → s.m.controls = true →
      Effects (.voteDeadline t (.cls k) f) s fun m => (m.lane odd).mode ≠ .serving ∧ (m.lane odd).cause = .timeout
        ∧ m.newel.majority = inc32 s.m.newel.majority ∧ (m.run k.idx).running = false))
  ∧ (∀ s t k f i wa wb wc, Votes s i → NoFault f → s.m.newel.failed = false → (∀ x, (s.m.lane x).mode = .serving) →
    Streams s.m i k .A wa → Streams s.m i k .B wb → Streams s.m i k .C wc → wa ≠ wb → wa ≠ wc → wb ≠ wc →
    ModuleFails (.checkpointVote t (.cls k) f) s .noMajority)
  ∧ (∀ s t k f i x y wx wy, Votes s i → NoFault f → s.m.newel.failed = false → s.m.serving = [x, y] →
    Streams s.m i k x wx → Streams s.m i k y wy → wx ≠ wy →
    ModuleFails (.checkpointVote t (.cls k) f) s .twoLaneDisagree)
  ∧ (∀ s t f i, Votes s i → NoFault f → 2 ≤ s.m.serving.length →
    (∀ x ∈ s.m.serving, (s.m.lane x).poison = false ∧ (s.m.lane x).stopped = none) →
    Settles (.voteDeadline t .supv f) s { s.m.start t with newel := { s.m.newel with
      counts := inc32 s.m.newel.counts, unanimous := inc32 s.m.newel.unanimous } })

/-- A tick (R48, R49, R64, R66, R84, R147, R191, R192): its edge, the completed generation, the release copies in their order.
Choices of the model that it meets: log entries 35, 40, 46, 101. -/
def Obligations.TicksRunInOrder : Prop :=
  (∀ s t i, OwnTick s t i →
    let n := s.m.sched.tick + 1
    Effects (.tickEdge t) s fun m => m.sched.tick = n ∧ m.sched.running = true ∧ m.prog.frozen.tick = n
      ∧ m.prog.frozen.lt = n * i.tickNs * 65536 ∧ m.prog.frozen.key = m.prog.pairKey ∧ m.pantry.complete = false
      ∧ (∀ c, c < 5 → c ∈ m.prog.frozen.releases → (i.cls c).en = true ∧ n % i.k c = 0 ∧ (m.run c).running = true
          ∧ (m.run c).relTick = n ∧ (m.run c).skips = 0)
      ∧ (∀ c, c ∈ m.prog.frozen.skips → c < 5 ∧ n % i.k c = 0 ∧ c ∉ m.prog.frozen.releases))
  ∧ (∀ s t i, s.m.prog.image = some i → s.m.time.begun = true → s.m.sched.running = true → s.m.pair.plan.st ≠ .go →
    (s.m.start t).ltNs < (s.m.sched.tick + 1) * i.tickNs → (∀ r ∈ s.m.savis.reqs, r.cmd = none) →
    Settles (.tickEdge t) s (s.m.start t))
  ∧ (∀ s t i, s.m.prog.image = some i → s.m.sched.running = true → s.m.pantry.complete = false →
    s.m.pair.shadowTiming = false → s.m.sched.tick * i.tickNs + 600 ≤ (s.m.start t).ltNs →
    Ends (.generationComplete t) s fun m => m.pantry.complete = true ∧ m.sched.toCopy = copyOrder s.m.prog.frozen
      ∧ ((∀ c, 1 ≤ c → c < 5 → (s.m.run c).held = none) → m.pantry.snap = s.m.outs))
  ∧ (∀ s t k i x rest, s.m.prog.image = some i → s.m.leader = some x → k.idx < 6 →
    s.m.sched.toCopy = k.idx :: rest →
    Ends (.releaseCopyDone t k) s fun m => m.sched.toCopy = rest
      ∧ ∃ z ∈ tabFind (m.lane x).ctxs k.idx, z.rel = (s.m.releaseCopy i k.idx).1
          ∧ z.snap.relTick = (s.m.run k.idx).relTick ∧ z.snap.clk = (s.m.run k.idx).clk
          ∧ z.snap.first = (s.m.run k.idx).first ∧ z.links = [] ∧ z.req = [] ∧ z.written = [])

/-- Halts, the key switch and online changes (R120, R182, R183, R194-R196, R198, R620).
Choices of the model that it meets: log entries 38, 39, 40, 71, 118. -/
def Obligations.HaltsKeysAndChangesProceed : Prop :=
  (∀ s t, s.m.test.halting = true → s.m.haltReached = true →
    Effects (.haltComplete t) s fun m => m.test.halted = true ∧ m.test.halting = false ∧ m.prog.run = .haltedDebug
      ∧ ∀ x, (m.lane x).mode = if (s.m.lane x).mode = .serving then .halted else (s.m.lane x).mode)
  ∧ (∀ s t, s.m.test.halting = true → s.m.haltReached = false → Settles (.haltComplete t) s (s.m.start t))
  ∧ (∀ s t b k n, s.m.test.dbgOpen = some n → tabFind s.m.test.breaks b = some k → s.m.test.halting = false →
    s.m.test.halted = false → s.m.leadsAt k.eng k.pc = true →
    Effects (.breakpointHit t b) s fun m => m.test.halting = true ∧ m.test.haltKey = none
      ∧ m.test.targets = s.m.haltTargets 1)
  ∧ (∀ s t pos, s.m.hall.link ≠ .up →
    Settles (.keySwitchChange t pos) s { s.m.start t with
      prog := { s.m.prog with ownKey := pos, keyAt := max s.m.now t }, pair := { s.m.pair with keyDiffer := false } })
  ∧ (∀ s t pos, s.m.hall.link = .up → s.m.pair.partner ≠ none → pos ≠ s.m.pair.partnerKey →
    Effects (.keySwitchChange t pos) s fun m => m.prog.ownKey = pos ∧ m.pair.keyDiffer = true
      ∧ m.prog.pairKey = s.m.prog.pairKey)
  ∧ (∀ s t img, s.m.prog.chgState = .checking → s.m.prog.staged = some img → s.m.verdictsIn = true →
    s.m.mayStage = true → s.m.prog.cardStaged = true →
    Gives (.changeStaged t) s { s.m.start t with
      prog := { s.m.prog with lanesStaged := true, chgState := .staged, chgSince := max s.m.now t } })
  ∧ (∀ s t img, s.m.prog.chgState = .checking → s.m.prog.staged = some img → s.m.mayStage = false →
    Gives (.changeStaged t) s (s.m.start t))
  ∧ (∀ s t old new, s.m.prog.go = some (s.m.sched.tick + 1) → s.m.prog.remapped = false → s.m.cyclicDone = true →
    s.m.prog.image = some old → s.m.prog.staged = some new →
    Ends (.changeRemap t) s fun m => m.prog.remapped = true ∧ m.prog.image = some old
      ∧ ∀ x r, (s.m.lane x).inService = true → remap old new (s.m.lane x).inst = .ok r → (m.lane x).inst = r.inst)
  ∧ (∀ s t, s.m.prog.chgState = .staged → s.m.prog.go = none → s.m.prog.chgSince + 30000000000 ≤ max s.m.now t →
    Ends (.changeTimeout t) s fun m => m.prog.chgState = .discarded ∧ m.prog.chgReason = 0x10 ∧ m.prog.staged = none
      ∧ m.prog.image = s.m.prog.image)

/-- Access units (R230, R231, R233-R235): a refused access of a master is captured once and counted, a seal waits for the
edge, a table error refuses its master.
Choices of the model that it meets: log entries 19, 20. -/
def Obligations.AccessesAreChecked : Prop :=
  (∀ s t n ty a len, isMaster n = true → 0x30 ≤ n → (s.m.start t).checkAccess n ty a len = none →
    Gives (.masterAccess t n ty a len) s (s.m.start t))
  ∧ (∀ s t n ty a len cause, isMaster n = true → 0x30 ≤ n → masterLane n = none → n ≠ 0x3B →
    (s.m.start t).checkAccess n ty a len = some cause → s.m.access.viol.getLsbD 31 = false →
    Ends (.masterAccess t n ty a len) s fun m => m.access.viol.getLsbD 31 = true
      ∧ m.access.violAddr = a % 2 ^ 32 ∧ m.access.violTick = s.m.sched.tick % 2 ^ 32 ∧ m.access.violInst = 0
      ∧ m.access.violCount = inc32 s.m.access.violCount ∧ m.lanes = s.m.lanes)
  ∧ (∀ s t n ty a len cause, isMaster n = true → 0x30 ≤ n → masterLane n = none → n ≠ 0x3B →
    (s.m.start t).checkAccess n ty a len = some cause → s.m.access.viol.getLsbD 31 = true →
    Ends (.masterAccess t n ty a len) s fun m => m.access = { s.m.access with
      violCount := inc32 s.m.access.violCount })
  ∧ (∀ s t i edits, s.m.prog.image = some i → s.m.access.sealed = false →
    Gives (.seal t edits) s { s.m.start t with access := { s.m.access with
      pend := edits.foldl RuleBank.edit s.m.access.pend, sealed := true
      sealNext := decide ((s.m.start t).ltNs + 1000 ≤ s.m.edgeAt i (s.m.sched.tick + 1)) } })
  ∧ (∀ s t n, isMaster n = true → masterLane n = none → n ∉ s.m.access.tableErr →
    Gives (.tableError t n false) s { s.m.start t with
      access := { s.m.access with tableErr := s.m.access.tableErr ++ [n] } })
  ∧ (∀ s t n x, isMaster n = true → masterLane n = some x → n ∈ s.m.access.tableErr → (s.m.lane x).inService = true →
    LaneBecomes (.tableError t n false) s t x fun l => { l with poison := true })
  ∧ (∀ s t n, Gives (.tableError t n true) s (s.m.start t))

/-- Frames from the line (R251, R284, R319): the checks in their order, each with its code, and the receive ring.
Choices of the model that it meets: log entry 120. -/
def Obligations.FramesAreCheckedInOrder : Prop :=
  (∀ s t port f, s.m.portRole port ≠ .unused → f.fcsOk = false →
    Gives (.rxFrameStore t port f) s ((s.m.start t).setPort port fun p => { p with fcsErr := inc32 p.fcsErr }))
  ∧ (∀ s t port f, s.m.portRole port ≠ .unused → f.fcsOk = true → f.etype ≠ 0x88F7 →
    (f.vlan = true ∨ f.etype ≠ s.m.etype ∨ f.dst ≠ groupAddr s.m.domain port (s.m.portRole port = .peer)) →
    Gives (.rxFrameStore t port f) s ((s.m.start t).setPort port fun p =>
      { p with rejected := inc32 p.rejected, lastRej := 1 }))
  ∧ (∀ s t port f, s.m.portRole port = .segment → f.fcsOk = true → f.etype ≠ 0x88F7 → f.vlan = false →
    f.etype = s.m.etype → f.dst = groupAddr s.m.domain port false → s.m.controls = true →
    ((f.type = 2 ∨ f.type = 4 ∨ f.type = 6 ∨ f.type = 8) → (s.m.port port).ring.length < 512 →
      Ends (.rxFrameStore t port f) s fun m => (m.port port).ring
        = (s.m.port port).ring ++ [⟨f, (s.m.start t).ltNs, false⟩] ∧ (m.port port).rxFrames = inc32 (s.m.port port).rxFrames
        ∧ ∀ k, k ≠ port → m.port k = s.m.port k)
    ∧ ((f.type = 2 ∨ f.type = 4 ∨ f.type = 6 ∨ f.type = 8) → 512 ≤ (s.m.port port).ring.length →
      Ends (.rxFrameStore t port f) s fun m => (m.port port).ring = (s.m.port port).ring
        ∧ m.pantry.rxFull = inc32 s.m.pantry.rxFull)
    ∧ (f.type = 9 → Ends (.rxFrameStore t port f) s fun m => (m.port port).ring = (s.m.port port).ring
        ∧ (m.port port).lastRej = 2 ∧ (m.port port).rejected = inc32 (s.m.port port).rejected))
  ∧ (∀ s t port e rest r, Front s port 2 e rest → From s port e.frame r →
    (e.frame.ver ≠ (s.m.stn r.station).ver → RejectsFront (.cycIn t port) s port rest 2)
    ∧ (e.frame.ver = (s.m.stn r.station).ver → e.frame.len ≠ 8 + r.inLen → RejectsFront (.cycIn t port) s port rest 3)
    ∧ (e.frame.ver = (s.m.stn r.station).ver → e.frame.len = 8 + r.inLen → e.frame.len = e.frame.payload.length →
        e.frame.len ≤ 1482 → e.frame.e2e ≠ e.frame.e2eOf → RejectsFront (.cycIn t port) s port rest 4)
    ∧ (Shaped s e.frame r → ¬EpochOk s e.frame → RejectsFront (.cycIn t port) s port rest 6)
    ∧ (Shaped s e.frame r → EpochOk s e.frame → ¬SeqOk s e.frame r → RejectsFront (.cycIn t port) s port rest 7))
  ∧ (∀ s t port e rest, Front s port 2 e rest → s.m.frameStn port e.frame = none → 1 ≤ e.frame.ver → e.frame.ver ≤ 3 →
    e.frame.len = e.frame.payload.length → e.frame.len ≤ 1482 → e.frame.e2e = e.frame.e2eOf →
    RejectsFront (.cycIn t port) s port rest 5)

/-- Cyclic inputs and peer blocks (R252, R253, R261, R305, R317, R464) and the links of the ports (R305).
Choices of the model that it meets: log entry 44. -/
def Obligations.CyclicInputsEnterTheirGeneration : Prop :=
  (∀ s t port e rest r, Front s port 2 e rest → Accepted s port e.frame r → s.m.controls = true → InTime s e →
    (s.m.stn r.station).goodGen ≠ some (s.m.sched.tick + 1) → (s.m.stn r.station).dropped = false →
    byteAt e.frame.payload 4 ≠ 2 →
    Ends (.cycIn t port) s fun m => (m.port port).ring = rest
      ∧ (m.stn r.station).goodGen = some (s.m.sched.tick + 1) ∧ (m.stn r.station).gotGen = some (s.m.sched.tick + 1)
      ∧ (m.stn r.station).slot (s.m.sched.tick + 1)
          = some ⟨s.m.sched.tick + 1, e.frame.payload.take 8, (e.frame.payload.drop 8).take r.inLen⟩
      ∧ (m.stn r.station).lastSeq = some e.frame.seq.toNat
      ∧ (∀ i, s.m.prog.image = some i → m.pantry.buf (s.m.sched.tick + 1)
          = (s.m.pantry.buf (s.m.sched.tick + 1)).scatter (i.ranges r.station false)
              ((e.frame.payload.drop 8).take r.inLen))
      ∧ m.pantry.buf s.m.sched.tick = s.m.pantry.buf s.m.sched.tick)
  ∧ (∀ s t port e rest r, Front s port 2 e rest → Accepted s port e.frame r → s.m.controls = true → InTime s e →
    (s.m.stn r.station).goodGen = some (s.m.sched.tick + 1) →
    Ends (.cycIn t port) s fun m => m.pantry.duplicates = inc32 s.m.pantry.duplicates ∧ (m.port port).ring = rest
      ∧ ∀ n, m.pantry.buf n = s.m.pantry.buf n)
  ∧ (∀ s t port e rest r, Front s port 2 e rest → Accepted s port e.frame r → s.m.controls = true → ¬InTime s e →
    Ends (.cycIn t port) s fun m => m.pantry.lateIn = inc32 s.m.pantry.lateIn ∧ (m.port port).ring = rest
      ∧ ∀ n, m.pantry.buf n = s.m.pantry.buf n)
  ∧ (∀ s t port e rest r, Front s port 2 e rest → Accepted s port e.frame r → s.m.pair.role = .shadow → InTime s e →
    Ends (.cycIn t port) s fun m => (m.stn r.station).standby
        = some ⟨s.m.sched.tick + 1, e.frame.payload.take 8, (e.frame.payload.drop 8).take r.inLen⟩
      ∧ (∀ n, m.pantry.buf n = s.m.pantry.buf n))
  ∧ (∀ s t port e rest i c src, Front s port 9 e rest → e.frame.ver = 1 → e.frame.len = e.frame.payload.length →
    e.frame.len ≤ 1482 → 4 + leNat ((e.frame.payload.drop 2).take 2) ≤ e.frame.len → e.frame.e2e = e.frame.e2eOf →
    s.m.prog.image = some i → i.peer = some c → c.srcs.find? (fun x => x.domain = byteAt e.frame.payload 0) = some src →
    let block := padTo src.len ((e.frame.payload.drop 4).take (leNat ((e.frame.payload.drop 2).take 2)))
    let q := s.m.sched.tick + 1
    (e.stamp + 6000 ≤ q * s.m.tickNs →
      Ends (.peerFrame t port) s fun m => tabFind m.pantry.peers src.domain = some ⟨true, 0, e.frame.tick.toNat, block, some q⟩
        ∧ m.pantry.buf q = { s.m.pantry.buf q with imgIn := memWrite (s.m.pantry.buf q).imgIn src.start block })
    ∧ (q * s.m.tickNs < e.stamp + 6000 →
      Ends (.peerFrame t port) s fun m =>
        tabFind m.pantry.peers src.domain = some ⟨true, 0, e.frame.tick.toNat, block, some (q + 1)⟩
        ∧ ∀ n, m.pantry.buf n = s.m.pantry.buf n))
  ∧ (∀ s t port, s.m.portRole port = .segment →
    Ends (.portLinkChange t port false) s fun m => (m.port port).link = false
      ∧ ∀ k, (m.stn k).path = if k / 512 = port ∧ (s.m.stn k).path ≠ .none then .relay else (s.m.stn k).path)
  ∧ (∀ s t port, s.m.powered (7 + port) = true → (∀ j ∈ s.m.test.portJobs, j.port ≠ port) →
    Gives (.portLinkChange t port true) s ((s.m.start t).setPort port fun p => { p with link := true }))

/-- The start of stations (R298, R300-R302): ANNOUNCE, START, READY, revalidation and their timeouts.
Choices of the model that it meets: log entries 36, 37, 43. -/
def Obligations.StationsStartAndRevalidate : Prop :=
  (∀ s t port e rest r i, Front s port 6 e rest → From s port e.frame r → e.frame.ver = 1 →
    e.frame.len = e.frame.payload.length → e.frame.len ≤ 1482 → e.frame.e2e = e.frame.e2eOf → s.m.controls = true →
    s.m.prog.image = some i → (s.m.stn r.station).state = .absent →
    (announceCheck i r e.frame.payload = 0 →
      Ends (.announce t port) s fun m => (m.stn r.station).state = .starting ∧ (m.stn r.station).sends = 1
        ∧ (m.stn r.station).ver = agreedVer (byteAt e.frame.payload 0) (byteAt e.frame.payload 1)
        ∧ (m.stn r.station).src = e.frame.src ∧ (m.port port).ring = rest)
    ∧ (∀ code, announceCheck i r e.frame.payload = code → code ≠ 0 →
      Ends (.announce t port) s fun m => (m.stn r.station).state = .refused ∧ (m.stn r.station).reason = code
        ∧ (m.port port).ring = rest))
  ∧ (∀ s t port e rest r, Front s port 8 e rest → Accepted s port e.frame r → s.m.controls = true →
    (s.m.stn r.station).sends ≠ 0 → (s.m.stn r.station).state = .starting → (s.m.stn r.station).started = false →
    (byteAt e.frame.payload 0 = 0 →
      Ends (.ready t port) s fun m => (m.stn r.station).started = true ∧ (m.stn r.station).sends = 0
        ∧ (m.stn r.station).goodRun = 0 ∧ (m.stn r.station).state = .starting)
    ∧ (byteAt e.frame.payload 0 = 2 →
      Ends (.ready t port) s fun m => (m.stn r.station).state = .refused ∧ (m.stn r.station).reason = 8))
  ∧ (∀ s t port e rest r, Front s port 8 e rest → Accepted s port e.frame r → s.m.controls = true →
    (s.m.stn r.station).sends ≠ 0 → (s.m.stn r.station).state = .revalidating →
    (byteAt e.frame.payload 0 = 0 →
      Ends (.ready t port) s fun m => (m.stn r.station).state = .run
        ∧ (m.stn r.station).starts = inc32 (s.m.stn r.station).starts ∧ (m.stn r.station).sends = 0)
    ∧ (byteAt e.frame.payload 0 = 2 →
      Ends (.ready t port) s fun m => (m.stn r.station).state = .starting ∧ (m.stn r.station).reason = 8
        ∧ (m.stn r.station).goodRun = 0))
  ∧ (∀ s t k i, s.m.prog.image = some i → s.m.controls = true → s.m.gate = true → (s.m.stn k).state = .refused →
    Ends (.discoverTimer t) s fun m => (m.stn k).state = .absent)
  ∧ (∀ s t, s.m.gate = false → Gives (.discoverTimer t) s (s.m.start t))
  ∧ (∀ s t k r, s.m.stnRec k = some r → s.m.controls = true → (s.m.stn k).state = .starting →
    (s.m.stn k).started = false → 0 < (s.m.stn k).sends → (s.m.stn k).sentAt + 20000000 ≤ (s.m.start t).ltNs →
    ((s.m.stn k).sends < 3 → Ends (.startTimeout t k) s fun m =>
      (m.stn k).sends = (s.m.stn k).sends + 1 ∧ (m.stn k).state = .starting ∧ (m.stn k).sentAt = (s.m.start t).ltNs)
    ∧ ((s.m.stn k).sends = 3 → Ends (.startTimeout t k) s fun m =>
      (m.stn k).state = .refused ∧ (m.stn k).reason = 7 ∧ (m.stn k).sends = 0))
  ∧ (∀ s t k r, s.m.stnRec k = some r → s.m.controls = true → (s.m.stn k).state = .revalidating →
    0 < (s.m.stn k).sends → (s.m.stn k).sentAt + 2000000 ≤ (s.m.start t).ltNs →
    ((s.m.stn k).sends < 3 → Ends (.revalTimeout t k) s fun m =>
      (m.stn k).sends = (s.m.stn k).sends + 1 ∧ (m.stn k).state = .revalidating)
    ∧ ((s.m.stn k).sends = 3 → Ends (.revalTimeout t k) s fun m =>
      (m.stn k).state = .starting ∧ (m.stn k).reason = 7 ∧ (m.stn k).goodRun = 0))

/-- Acyclic items (R72, R170, R309, R310): the head of a station's queue goes in flight and is sent, again every 5 ms where it is
idempotent, and ends with the reply of the station or its timeout.
Choices of the model that it meets: log entries 62, 68. -/
def Obligations.AcyclicItemsRunToTheirOutcome : Prop :=
  (∀ s t k j rest, s.m.controls = true → (s.m.stn k).state = .run → s.m.pair.plan.st ≠ .waiting →
    s.m.redundant = false → (s.m.stn k).flight = none → (s.m.stn k).items = j :: rest → j.waiting = false →
    j.testUntil = none → HasEntry s k →
    Ends (.acyItemSend t k) s fun m => (m.stn k).flight = some { j with waiting := true } ∧ (m.stn k).items = rest)
  ∧ (∀ s t k j rest, s.m.controls = true → (s.m.stn k).state = .run → s.m.pair.plan.st ≠ .waiting →
    s.m.redundant = true → (s.m.stn k).flight = none → (s.m.stn k).items = j :: rest → j.waiting = false →
    j.testUntil = none → j.sentAcked = false → j.sentMark = false →
    Ends (.acyItemSend t k) s fun m => (m.stn k).flight = some { j with sentMark := true } ∧ (m.stn k).items = rest
      ∧ m.pantry.ports = s.m.pantry.ports)
  ∧ (∀ s t k j u, s.m.controls = true → s.m.pair.plan.st ≠ .waiting → (s.m.stn k).flight = some j → j.lastSend = some u →
    j.idem = true → j.testUntil = none → u + 5000000 ≤ (s.m.start t).ltNs → j.expired (s.m.start t).ltNs = false →
    HasEntry s k →
    Ends (.acyResend t k) s fun m => (m.stn k).flight = some { j with waiting := true })
  ∧ (∀ s t k j c u, s.m.controls = true → (s.m.stn k).flight = some j → j.cls = some c → j.firstSend = some u →
    u + j.timeoutMs * 1000000 ≤ (s.m.start t).ltNs →
    Ends (.acyTimeout t k) s fun m => (m.stn k).flight = none ∧ tabFind m.prog.reqTab j.reqId = some .failedTimeout
      ∧ (m.stn k).acyFailed = inc32 (s.m.stn k).acyFailed)
  ∧ (∀ s t k j u, s.m.controls = true → (s.m.stn k).flight = some j → j.testUntil = some u → u ≤ (s.m.start t).ltNs →
    HasEntry s k →
    Ends (.testWaitEnd t k) s fun m =>
      (m.stn k).flight = some { j with testUntil := none, reissued := true, waiting := true })
  ∧ (∀ s t port e rest r j c, Front s port 4 e rest → Accepted s port e.frame r → s.m.controls = true →
    (s.m.stn r.station).flight = some j → j.cls = some c → j.reqId = leNat (e.frame.payload.take 4) →
    j.firstSend.isSome = true →
    (byteAt e.frame.payload 4 = 0 → Ends (.acyRsp t port) s fun m => (m.stn r.station).flight = none
      ∧ tabFind m.prog.reqTab j.reqId = some (if j.delayed then .delayed else .done)
      ∧ (m.stn r.station).acyDone = inc32 (s.m.stn r.station).acyDone)
    ∧ (byteAt e.frame.payload 4 = 1 → Ends (.acyRsp t port) s fun m => (m.stn r.station).flight = none
      ∧ tabFind m.prog.reqTab j.reqId = some .failedStation)
    ∧ (byteAt e.frame.payload 4 = 2 → Ends (.acyRsp t port) s fun m => (m.stn r.station).flight = none
      ∧ tabFind m.prog.reqTab j.reqId = some .rejectedAccess))
  ∧ (∀ s t port e rest r j, Front s port 4 e rest → Accepted s port e.frame r → s.m.controls = true →
    (s.m.stn r.station).flight = some j → j.reqId ≠ leNat (e.frame.payload.take 4) →
    Ends (.acyRsp t port) s fun m => (m.stn r.station).flight = some j ∧ m.prog.reqTab = s.m.prog.reqTab)

/-- Commands of masters (R328-R331, R334): each is acknowledged with its CSEQ and a result; one that passes the checks acts, one
that does not changes nothing else; the same CSEQ again does nothing.
Choices of the model that it meets: log entries 15, 103. -/
def Obligations.MastersTakeCommands : Prop :=
  (∀ s l k n v acc dec inp r, HasMaster s k inp r → LsuOn s l → n < 256 → n ≠ (mst s.m l k r).ack →
    0 < acc → acc < 2 ^ 63 → 0 < dec →
    ((r.vmax = 0 ∨ v.natAbs ≤ r.vmax) → MasterIs (.velocity k n v acc dec) s l k r { mst s.m l k r with
      ack := n, result := 0, g := v, acc := acc, dec := dec })
    ∧ (r.vmax ≠ 0 → r.vmax < v.natAbs → MasterIs (.velocity k n v acc dec) s l k r { mst s.m l k r with
      ack := n, result := 8 }))
  ∧ (∀ s l k n dec inp r, HasMaster s k inp r → LsuOn s l → n < 256 → n ≠ (mst s.m l k r).ack →
    (0 < dec → MasterIs (.stop k n dec) s l k r { mst s.m l k r with ack := n, result := 0, g := 0, dec := dec })
    ∧ (dec ≤ 0 → MasterIs (.stop k n dec) s l k r { mst s.m l k r with ack := n, result := 8 }))
  ∧ (∀ s l k n inp r, HasMaster s k inp r → LsuOn s l → n < 256 → n ≠ (mst s.m l k r).ack →
    MasterIs (.quickStop k n) s l k r { mst s.m l k r with
      ack := n, result := 0, g := 0, acc := r.haltDec, dec := r.haltDec })
  ∧ (∀ s l k n count frac inp r, HasMaster s k inp r → LsuOn s l → n < 256 → n ≠ (mst s.m l k r).ack → frac < 2 ^ 32 →
    ((mst s.m l k r).v = 0 → (mst s.m l k r).a = 0 → followerOn (s.m.lane l).lsu.axes k = false →
      MasterIs (.setpos k n count frac) s l k r { mst s.m l k r with
        ack := n, result := 0, p := count * 2 ^ 48 + frac * 2 ^ 16, g := 0 })
    ∧ (((mst s.m l k r).v ≠ 0 ∨ followerOn (s.m.lane l).lsu.axes k = true) →
      MasterIs (.setpos k n count frac) s l k r { mst s.m l k r with ack := n, result := 8 }))
  ∧ (∀ s l k n inp r, HasMaster s k inp r → (s.m.lane l).inService = true → (s.m.lane l).lsu.haltRamp = true → n < 256 →
    n ≠ (mst s.m l k r).ack → MasterIs (.quickStop k n) s l k r { mst s.m l k r with ack := n, result := 9 })
  ∧ (∀ s l k inp r, HasMaster s k inp r → (s.m.lane l).inService = true → (mst s.m l k r).ack < 256 →
    MasterIs (.quickStop k (mst s.m l k r).ack) s l k r (mst s.m l k r))
  ∧ (∀ s t l k inp r y, HasMaster s k inp r → (s.m.lane l).inService = true → r.kind = .external →
    tabFind (s.m.lane l).lsu.masters k = some y → y.seen = true → y.state ≠ .lost → r.holdTicks ≤ y.hold →
    sourceStation inp.slots (pointArea r.src) (pointOfs r.src) (srcSize r.srcType) = none →
    MasterIs (.masterLost t k) s l k r { y with state := .lost })

/-- Commands of axes (R338-R341, R343): engagement at a held position, a waiting engagement, phase changes, registration, and
the refusals of an engagement.
Choices of the model that it meets: log entries 15, 103, 104. -/
def Obligations.AxesTakeCommands : Prop :=
  (∀ s l a n k (num : Int) den inp r p, HasAxis s a inp r → LsuOn s l → n < 256 → n ≠ (ast s.m l a).ack → Follows s l inp k p →
    num ≠ 0 → -(2 ^ 31) ≤ num → num < 2 ^ 31 → 0 < den → den < 2 ^ 32 → (ast s.m l a).state = .disengaged →
    AxisIs (.gear a n k false 0 num den) s l a { ast s.m l a with
      ack := n, result := 0, state := .geared, master := k, mref := p, r0 := 0, r1 := (num : Rat) / (den : Rat)
      dist := r.engDist, wait := none }
    ∧ ∀ angle, angle < 2 ^ 32 → AxisIs (.gear a n k true angle num den) s l a { ast s.m l a with
      ack := n, result := 0, wait := some ⟨n, k, some angle, .gear num den⟩ })
  ∧ (∀ s l a n k angle den inp r, HasAxis s a inp r → LsuOn s l → n < 256 → n ≠ (ast s.m l a).ack → k < 256 →
    inp.master k = none → AxisIs (.gear a n k false angle 1 den) s l a { ast s.m l a with ack := n, result := 2 })
  ∧ (∀ s l a n k den inp r, HasAxis s a inp r → LsuOn s l → n < 256 → n ≠ (ast s.m l a).ack → k < 256 →
    (inp.master k).isSome = true → AxisIs (.gear a n k false 0 0 den) s l a { ast s.m l a with ack := n, result := 3 })
  ∧ (∀ s l a n k id inp r p t, HasAxis s a inp r → LsuOn s l → n < 256 → n ≠ (ast s.m l a).ack → Follows s l inp k p →
    id < 2 ^ 16 → camOf inp.cfg id = some t → (ast s.m l a).state = .disengaged →
    AxisIs (.cam a n k false 0 id) s l a { ast s.m l a with
      ack := n, result := 0, state := .cammed, master := k, mref := p, cam := t.id
      b := (ast s.m l a).b - camEval t 0, c := camEval t 0, wait := none })
  ∧ (∀ s l a n k id inp r, HasAxis s a inp r → LsuOn s l → n < 256 → n ≠ (ast s.m l a).ack → k < 256 →
    (inp.master k).isSome = true → id < 2 ^ 16 → camOf inp.cfg id = none →
    AxisIs (.cam a n k false 0 id) s l a { ast s.m l a with ack := n, result := 4 })
  ∧ (∀ s l a n ramp (d : Int) inp r, HasAxis s a inp r → LsuOn s l → n < 256 → n ≠ (ast s.m l a).ack → ramp < 2 ^ 32 →
    -(2 ^ 63) ≤ d → d < 2 ^ 63 →
    ((ast s.m l a).state ≠ .notReady →
      let x := { ast s.m l a with ack := n, result := 0 }
      AxisIs (.phase a n ramp d) s l a { x with
        phi0 := x.phi, dphi := x.phi0 + x.dphi - x.phi + d, rampR := max 1 ramp, rampI := 0 })
    ∧ ((ast s.m l a).state = .notReady →
      AxisIs (.phase a n ramp d) s l a { ast s.m l a with ack := n, result := 5 }))
  ∧ (∀ s l a n inp r y, HasAxis s a inp r → LsuOn s l → n < 256 → n ≠ (ast s.m l a).ack →
    ((ast s.m l a).state = .geared → tabFind (s.m.lane l).lsu.masters (ast s.m l a).master = some y →
      AxisIs (.disengage a n) s l a { ast s.m l a with
        ack := n, result := 0, state := .disengaging, b := (ast s.m l a).b + (ast s.m l a).c, c := 0
        mref := ptAt y.pts 0, r0 := (ast s.m l a).r1, r1 := 0, dist := r.engDist, wait := none })
    ∧ ((ast s.m l a).state = .cammed → AxisIs (.disengage a n) s l a { ast s.m l a with
        ack := n, result := 0, wait := some ⟨n, (ast s.m l a).master, none, .disengage⟩ })
    ∧ ((ast s.m l a).state = .disengaged → (ast s.m l a).wait = none →
      AxisIs (.disengage a n) s l a { ast s.m l a with ack := n, result := 5 }))
  ∧ (∀ s l a n inp r, HasAxis s a inp r → LsuOn s l → n < 256 → n ≠ (ast s.m l a).ack →
    ((regOf inp.cfg a).isSome = true →
      AxisIs (.regOn a n) s l a { ast s.m l a with ack := n, result := 0, regOn := true }
      ∧ AxisIs (.regOff a n) s l a { ast s.m l a with ack := n, result := 0, regOn := false })
    ∧ (regOf inp.cfg a = none →
      AxisIs (.regOn a n) s l a { ast s.m l a with ack := n, result := 1 }
      ∧ AxisIs (.regOff a n) s l a { ast s.m l a with ack := n, result := 1 }))

/-- The reflex plane (R366-R372, R374, R376): pins, launched edges, accepted captures, arm bits; a copy that differs is counted
and stops nothing.
Choices of the model that it meets: log entries 29, 113. -/
def Obligations.ReflexPlaneFollowsItsInputs : Prop :=
  (∀ s t pin v, pin < 16 → Ends (.reflexPinChange t pin v) s fun m =>
    OnlyPin m.reflex.pinsIn s.m.reflex.pinsIn pin v ∧ m.reflex.arm = s.m.reflex.arm ∧ m.reflex.cmp = s.m.reflex.cmp)
  ∧ (∀ s t u x rest, u < 32 → tabGet s.m.reflex.edges [] u = x :: rest →
    (x.at_ ≤ ((s.m.start t).ltNs : Int) → Ends (.edgeLaunch t u) s fun m =>
      m.reflex.cmp.getLsbD u = x.level ∧ (∀ k, k ≠ u → m.reflex.cmp.getLsbD k = s.m.reflex.cmp.getLsbD k)
      ∧ tabGet m.reflex.edges [] u = rest
      ∧ m.reflex.cmpEdges = if x.silent then s.m.reflex.cmpEdges else inc32 s.m.reflex.cmpEdges)
    ∧ (((s.m.start t).ltNs : Int) < x.at_ → Gives (.edgeLaunch t u) s (s.m.start t).reflexNow))
  ∧ (∀ s t ch lt rising held tb pol filt src, s.m.reflex.table = some tb → tb.capcfg[ch]? = some (src, pol, filt) →
    (if rising then pol = 1 ∨ pol = 3 else pol = 2 ∨ pol = 3) →
    (filt ≤ held →
      let n := (tabGet s.m.reflex.capSeq 0 ch + 1) % 2 ^ 15
      Gives (.edgeCapture t ch lt rising held) s { s.m.start t with reflex := { s.m.reflex with
        capSeq := tabSet s.m.reflex.capSeq ch n, capLast := tabSet s.m.reflex.capLast ch ⟨lt, n⟩
        capNew := tabSet s.m.reflex.capNew ch (tabGet s.m.reflex.capNew [] ch ++ [⟨lt, n⟩])
        capStamps := inc32 s.m.reflex.capStamps } })
    ∧ (held < filt → Gives (.edgeCapture t ch lt rising held) s (s.m.start t)))
  ∧ (∀ s t tb cls bits, s.m.reflex.table = some tb → s.m.reflex.armPend = [(cls, bits)] →
    Ends (.armApply t) s fun m => m.reflex.armPend = []
      ∧ ∀ c, c < 64 → m.reflex.arm.getLsbD c
        = if (tb.cells[c]?).map CellCfg.owner = some cls then bits.getLsbD c else s.m.reflex.arm.getLsbD c)
  ∧ (∀ s t pin l tb o, s.m.reflex.table = some tb → tb.outmap[pin]? = some o →
    Gives (.reflexMismatch t pin l) s { s.m.start t with reflex := { s.m.reflex with
      copyDiff := true, mismatch := inc32 s.m.reflex.mismatch } })
  ∧ (∀ s t, Ends (.reflexConfigRewrite t) s fun m => m.reflex.copyDiff = false ∧ m.reflex.table = s.m.reflex.table
      ∧ m.reflex.arm = s.m.reflex.arm ∧ m.reflex.mismatch = s.m.reflex.mismatch)
  ∧ (∀ (r : Reflex) t c k, r.table = some t → c < 64 → t.cells[c]? = some k → k.mode = 0 →
    (∀ x ∈ k.sel, x < 0x10 ∨ 0x80 ≤ x) →
    r.cells.getLsbD c = k.lut.getLsbD (cellIndex r.inputs (fun _ => false) k.sel))
  ∧ (∀ (a b c : W64) k, (vote3 a b c).getLsbD k = (((a.getLsbD k && b.getLsbD k) || (a.getLsbD k && c.getLsbD k))
      || (b.getLsbD k && c.getLsbD k)))

/-- Start-up (R449, R571-R573, R583, R591, R602, R609, R660): power on, BIST, the bank choice, the watchdog of the start, a power
fail, the fuses of a bank that has proved good.
Choices of the model that it meets: log entries 51, 52, 53, 54, 98. -/
def Obligations.PowerUpRunsTheBootSteps : Prop :=
  (∀ s t side held, s.m.power.boot = .off → s.m.power.failing = false → (held = false ∨ s.m.prog.ownKey ≠ .service) →
    Ends (.powerOnStart t side held) s fun m => m.power.boot = .bist ∧ m.power.resetCause = 1 ∧ m.power.on = 0x3F#14
      ∧ m.power.leverOpen = false ∧ m.bolt.side = side ∧ m.bolt.permit = false ∧ m.pair.role = .out ∧ KeepsStored s.m m)
  ∧ (∀ s t side, s.m.power.boot = .off → s.m.power.failing = true →
    Ends (.powerOnStart t side false) s fun m => ResetBy s.m m 2)
  ∧ (∀ s t side, s.m.power.boot = .off → s.m.prog.ownKey = .service →
    Ends (.powerOnStart t side true) s fun m => m.power.boot = .porch ∧ m.power.on = 0x21#14 ∧ m.upd.porch = true
      ∧ m.upd.porchByKey = true ∧ LeavesRole m 0x0E)
  ∧ (∀ s t side held, s.m.power.boot ≠ .off → Gives (.powerOnStart t side held) s (s.m.start t))
  ∧ (∀ s t r, s.m.power.boot = .bist → r.pass = true →
    Effects (.bistDone t r) s fun m => m.power.boot = .rom ∧ m.bolt.bistLatch = true ∧ m.bolt.permit = true
      ∧ m.bolt.liveSelf = true ∧ m.powered 11 = true ∧ m.powered 13 = true ∧ m.test.bistPass = true
      ∧ ∀ l, (m.lane l).mode = if r.lanePass l.num then .serving else .off)
  ∧ (∀ s t r, s.m.power.boot = .bist → r.pass = false →
    Effects (.bistDone t r) s fun m => m.power.boot = .bistFail ∧ m.bolt.bistLatch = false ∧ m.bolt.permit = false
      ∧ m.bolt.liveSelf = false ∧ m.bolt.ownSelf = false ∧ ∀ l, (m.lane l).mode = .off)
  ∧ (∀ s t ok1, s.m.power.boot = .rom → s.m.upd.bank0.st = .good → s.m.upd.bank0.pkg = none → s.m.upd.bank1.st = .empty →
    (Effects (.firmwareStart t true ok1) s fun m => m.power.boot = .cardRead ∧ m.upd.runBank = false
      ∧ m.upd.bank0 = s.m.upd.bank0 ∧ m.power.handedOver = max s.m.now t ∧ m.powered 12 = true ∧ m.powered 14 = true)
    ∧ (Effects (.firmwareStart t false ok1) s fun m => m.power.boot = .porch ∧ m.upd.bank0.st = .failed
      ∧ m.upd.bank0.reason = 0x0A ∧ m.upd.porch = true ∧ m.upd.porchByKey = false))
  ∧ (∀ s t ok0, s.m.power.boot = .rom → s.m.upd.bank1.st = .trial → s.m.upd.bank1.tries < 3 → s.m.upd.bank1.pkg = none →
    s.m.upd.bank0.st = .good → Effects (.firmwareStart t ok0 true) s fun m => m.power.boot = .cardRead
      ∧ m.upd.runBank = true ∧ m.upd.bank1 = { s.m.upd.bank1 with tries := s.m.upd.bank1.tries + 1 })
  ∧ (∀ s t, (s.m.power.boot = .cardRead ∨ s.m.power.boot = .ready) → s.m.power.handedOver + 60000000000 ≤ max s.m.now t →
    Ends (.startWatchdog t) s fun m => ResetBy s.m m 4)
  ∧ (∀ s t, s.m.power.boot ≠ .off →
    Ends (.powerFail t) s fun m => m.power.boot = .off ∧ m.power.failing = true ∧ m.power.on = 1#14
      ∧ m.bolt.permit = false ∧ m.bolt.ownSelf = false ∧ m.pair.role = .out ∧ KeepsStored s.m m)
  ∧ (∀ s t, Ends (.svcSwitchOff t) s fun m => m.power.boot = .off ∧ m.power.on = 0 ∧ m.power.failing = false
      ∧ KeepsStored s.m m)
  ∧ (∀ s t, Gives (.leverOpen t) s { s.m.start t with power := { s.m.power with leverOpen := true } })
  ∧ (∀ s t u h, s.m.upd.trialFrom = some u → s.m.upd.runBank = true → s.m.upd.bank1.st = .trial →
    s.m.upd.bank1.pkg = some h → u + 10000000000 ≤ (s.m.start t).ltNs →
    Gives (.trialGood t) s { s.m.start t with upd := { s.m.upd with
      bank1 := { s.m.upd.bank1 with st := .good }, svnFused := max s.m.upd.svnFused h.svn
      revoked := s.m.upd.revoked ||| BitVec.ofNat 3 (pkgRevokes h) } })

/-- Supplies, clocks and power domains (R590, R593-R597, R600, R601, R605, R607).
Choices of the model that it meets: log entries 51, 56, 116. -/
def Obligations.ClocksAndDomainsAreSupervised : Prop :=
  (∀ s t mv, 18000 ≤ s.m.power.feed1 → mv < 18000 →
    Gives (.feedChange t false mv) s { s.m.start t with
      power := { s.m.power with feed1 := mv, feedDrops := inc32 s.m.power.feedDrops } })
  ∧ (∀ s t mv, 18000 ≤ mv → Gives (.feedChange t true mv) s { s.m.start t with
      power := { s.m.power with feed2 := mv } })
  ∧ (∀ s t low, s.m.power.boot ≠ .off → s.m.power.sag = false →
    Gives (.sag t low) s { s.m.start t with
      power := { s.m.power with sag := true, sagAt := max s.m.now t, railLow := low }
      sched := { s.m.sched with sagEvents := inc32 s.m.sched.sagEvents } })
  ∧ (∀ s t, s.m.power.sagAt + 1000000 ≤ max s.m.now t →
    Gives (.sagRecovery t) s { s.m.start t with
      power := { s.m.power with sag := s.m.power.l1Lost && s.m.power.sag, railLow := false } })
  ∧ (∀ s t, max s.m.now t < s.m.power.sagAt + 1000000 → Gives (.sagRecovery t) s (s.m.start t))
  ∧ (∀ s t, s.m.power.boot ≠ .off →
    (Ends (.clockLoss t true) s fun m => m.power.sag = true ∧ m.power.l1Lost = true ∧ m.pair = s.m.pair)
    ∧ (Ends (.clockLoss t false) s fun m => ResetBy s.m m 7)
    ∧ Ends (.hearthWatchdog t) s fun m => ResetBy s.m m 9)
  ∧ (∀ s t d, (d = 5 ∨ d = 6) → s.m.powered d = true → Effects (.domainTrip t d) s fun m => ResetBy s.m m 8)
  ∧ (∀ s t, s.m.powered 2 = true → (s.m.lane .A).mode = .serving → s.m.serving.length = 3 →
    Effects (.domainTrip t 2) s fun m => m.powered 2 = false ∧ (m.lane .A).power = false ∧ (m.lane .A).stopped ≠ none
      ∧ m.lane .B = s.m.lane .B ∧ m.lane .C = s.m.lane .C ∧ m.power.trips = inc32 s.m.power.trips)
  ∧ (∀ s t, s.m.powered 3 = true → (s.m.lane .B).mode = .serving → s.m.serving.length ≤ 2 → s.m.newel.failed = false →
    ModuleFails (.domainTrip t 3) s .lanesBelowTwo)
  ∧ (∀ s t p, p < 4 → s.m.powered (7 + p) = true →
    Effects (.domainTrip t (7 + p)) s fun m => m.powered (7 + p) = false ∧ (m.port p).link = false
      ∧ p ∈ m.power.sfpFault ∧ m.power.trips = inc32 s.m.power.trips)
  ∧ (∀ s t, s.m.powered 11 = true →
    Effects (.domainTrip t 11) s fun m => m.hall.hl0 = false ∧ m.hall.hl1 = false ∧ m.hall.link = .down
      ∧ m.powered 11 = false ∧ (s.m.pair.role = .owner → m.pair.role = .alone))
  ∧ (∀ s t, s.m.powered 13 = true →
    Effects (.domainTrip t 13) s fun m => m.attic.fault = true ∧ m.powered 13 = false ∧ m.attic.home = s.m.attic.home)
  ∧ (∀ s t u, s.m.powered 12 = true → tabFind s.m.power.tripAt 12 = some u →
    (max s.m.now t < u + 1000000000 → Effects (.domainTrip t 12) s fun m => ResetBy s.m m 8)
    ∧ (u + 1000000000 ≤ max s.m.now t → Effects (.domainTrip t 12) s fun m => m.powered 12 = false
      ∧ m.conv.calBusy = false ∧ m.conv.passActive = false ∧ m.pair = s.m.pair))
  ∧ (∀ s t u, s.m.power.tripped.getLsbD 11 = true → tabFind s.m.power.tripAt 12 = some u →
    (u + 10000000 ≤ max s.m.now t → Ends (.domainRestore t 12) s fun m => m.powered 12 = true
      ∧ m.power.tripped.getLsbD 11 = false)
    ∧ (max s.m.now t < u + 10000000 → Gives (.domainRestore t 12) s (s.m.start t)))
  ∧ (∀ s t p, p < 4 → s.m.powered (7 + p) = true →
    (Ends (.sfpFault t p) s fun m => m.powered (7 + p) = false ∧ (m.port p).link = false ∧ p ∈ m.power.sfpFault
      ∧ tabFind m.power.sfpAt p = some (max s.m.now t))
    ∧ Ends (.sfpRemoved t p) s fun m => m.powered (7 + p) = false ∧ p ∉ m.power.sfpFault ∧ p ∉ m.power.sfpTried
      ∧ (ptime m p).opticOk = false)
  ∧ (∀ s t p ok, p < 4 → s.m.powered (7 + p) = false → s.m.portRole p ≠ .unused → p ∈ s.m.power.sfpFault →
    p ∉ s.m.power.sfpTried → tabGet s.m.power.sfpAt 0 p + 10000000000 ≤ max s.m.now t →
    Ends (.sfpRetry t p false ok) s fun m => m.powered (7 + p) = true ∧ p ∉ m.power.sfpFault ∧ p ∈ m.power.sfpTried
      ∧ (ptime m p).opticOk = ok)
  ∧ (∀ s t p ok, p ∈ s.m.power.sfpFault → p ∈ s.m.power.sfpTried → Gives (.sfpRetry t p false ok) s (s.m.start t))

/-- Firmware downloads, the lane rotation test, port tests and scan (R437, R567-R569, R612, R613, R616-R619).
Choices of the model that it meets: log entries 45, 74, 76. -/
def Obligations.DownloadsAndTestsProceed : Prop :=
  (∀ s t i k, s.m.upd.dlQueue = [(i, k)] →
    Ends (.fwBlockWritten t true) s fun m => m.upd = { s.m.upd with
      dlQueue := [], dlTry := 0, dlDone := s.m.upd.dlDone ++ [i] })
  ∧ (∀ s t i k rest, s.m.upd.dlQueue = (i, k) :: rest →
    (s.m.upd.dlTry < 2 → Gives (.fwBlockWritten t false) s { s.m.start t with
      upd := { s.m.upd with dlTry := s.m.upd.dlTry + 1 } })
    ∧ (2 ≤ s.m.upd.dlTry → s.m.upd.dlBank = true → Ends (.fwBlockWritten t false) s fun m =>
      m.upd.dl = .failed ∧ m.upd.dlReason = 9 ∧ m.upd.dlQueue = []
      ∧ m.upd.bank1 = { s.m.upd.bank1 with st := .failed, reason := 9 } ∧ m.upd.bank0 = s.m.upd.bank0))
  ∧ (∀ s t, s.m.upd.dl = .verifying → s.m.upd.dlBank = true →
    (Ends (.fwSignVerified t true) s fun m => m.upd.dl = .staged ∧ m.upd.bank1 = { s.m.upd.bank1 with st := .staged }
      ∧ m.upd.bank0 = s.m.upd.bank0 ∧ m.upd.stagedCount = inc32 s.m.upd.stagedCount)
    ∧ Ends (.fwSignVerified t false) s fun m => m.upd.dl = .failed ∧ m.upd.dlReason = 0x0A
      ∧ m.upd.bank1 = { s.m.upd.bank1 with st := .failed, reason := 0x0A } ∧ m.upd.bank0 = s.m.upd.bank0)
  ∧ (∀ s t, (s.m.upd.dl = .receiving ∨ s.m.upd.dl = .verifying) → s.m.upd.dlLast + 600000000000 ≤ max s.m.now t →
    Ends (.dlIdleTimeout t) s fun m => m.upd.dl = .failed ∧ m.upd.dlReason = 0x0C ∧ m.upd.dlQueue = [])
  ∧ (∀ s t, s.m.upd.dlLast + 600000000000 > max s.m.now t → Gives (.dlIdleTimeout t) s (s.m.start t))
  ∧ (∀ s t, s.m.test.rot = .power → s.m.test.rotAt + 1000000 ≤ max s.m.now t →
    Effects (.rotPowerOn t) s fun m => m.test.rot = .bist ∧ m.test.rotRuns = inc32 s.m.test.rotRuns
      ∧ (m.lane s.m.test.rotLane).power = true ∧ m.powered (laneDomain s.m.test.rotLane) = true)
  ∧ (∀ s t ms, s.m.test.rot = .bist →
    (Effects (.rotBistDone t true ms) s fun m => m.test.rot = .resync ∧ m.test.rotMs = ms
      ∧ (m.lane s.m.test.rotLane).mode = .resync ∧ (m.lane s.m.test.rotLane).phase = .reset
      ∧ (m.lane s.m.test.rotLane).bistOk = true)
    ∧ Effects (.rotBistDone t false ms) s fun m => m.test.rot = .failed ∧ m.test.rotFails = inc32 s.m.test.rotFails
      ∧ (m.lane s.m.test.rotLane).mode = .retired ∧ (m.lane s.m.test.rotLane).bistOk = false
      ∧ m.powered (laneDomain s.m.test.rotLane) = false)
  ∧ (∀ s t j rt fac, s.m.test.portJobs = [j] → j.trim = none →
    Ends (.portTestDone t j.port rt fac) s fun m => m.test.portJobs = [] ∧ m.test.portTests = inc32 s.m.test.portTests
      ∧ (ptime m j.port).loopOk = decide (((rt : Int) - (fac : Int)).natAbs ≤ 2000))
  ∧ (∀ s t, Ends (.scanTestEntry t) s fun m => m.test.scan = true ∧ m.pantry = Pantry.zero ∧ m.savis.anchors = []
      ∧ m.upd.project = none ∧ ∀ l, (m.lane l).inst = [] ∧ (m.lane l).dr = [])
  ∧ (∀ s t, Gives (.bypass t) s { s.m.start t with test := { s.m.test with ir := .bypass } }
      ∧ Gives (.samplePreload t) s { s.m.start t with test := { s.m.test with ir := .sample } }
      ∧ Ends (.idcode t) s fun m => m.test.ir = .idcode
          ∧ m.out = [.tdo (BitVec.ofNat 32 (s.m.savis.hwRev % 16 * 2 ^ 28 + 0x4820C4D))])
  ∧ (∀ s t, (Effects (.extest t) s fun m => m.test.ir = .extest ∧ LeavesRole m 0x0E)
      ∧ (Effects (.clamp t) s fun m => m.test.ir = .clamp ∧ LeavesRole m 0x0E)
      ∧ Effects (.highz t) s fun m => m.test.ir = .highz ∧ LeavesRole m 0x0E)

/-- Sessions of the Savis link (R627, R629, R631, R634, R636-R639, R642, R649-R651).
Choices of the model that it meets: log entries 87, 88, 95. -/
def Obligations.SavisSessionsOpenAndClose : Prop :=
  (∀ s t conn eng2 ok ou client, tabFind s.m.savis.conns conn = none → (∀ p ∈ s.m.savis.sess, p.2.conn ≠ conn) →
    s.m.answersIp eng2 (s.m.ownIp eng2) = true → s.m.savis.anchors ≠ [] → (ok = true ∨ s.m.time.calValid = false) →
    Gives (.tlsHandshake t conn eng2 false true true ok ou client) s { s.m.start t with savis := { s.m.savis with
      conns := tabSet s.m.savis.conns conn ⟨eng2, false, roleOf ou, client⟩ } }
    ∧ Gives (.tlsHandshake t conn eng2 false false true ok ou client) s
        (({ s.m.start t with savis := { s.m.savis with
          conns := tabDel s.m.savis.conns conn, tlsFails := inc32 s.m.savis.tlsFails } } : Mod).emit (.closed conn)))
  ∧ (∀ s t conn id lo hi c role k, tabFind s.m.savis.conns conn = some c → c.role = some role → id ≠ 0 →
    s.m.savis.freeSess = some k → s.m.upd.porch = false → 1 ≤ lo → lo ≤ min hi 4 →
    Ends (.openSession t conn id lo hi) s fun m =>
      (∃ y ∈ tabFind m.savis.sess k, y.conn = conn ∧ y.role = role ∧ y.ver = min hi 4 ∧ y.client = c.client
        ∧ y.subs = []) ∧ tabFind m.savis.conns conn = none ∧ m.savis.opens = inc32 s.m.savis.opens
      ∧ (∀ j, j ≠ k → tabFind m.savis.sess j = tabFind s.m.savis.sess j)
      ∧ ∃ d cal v, m.out = [.reply k id 2 0 0 true d cal v])
  ∧ (∀ s t conn id lo hi c role, tabFind s.m.savis.conns conn = some c → c.role = some role → id ≠ 0 → s.m.upd.porch = false →
    4 < lo → Ends (.openSession t conn id lo hi) s fun m => m.savis.sess = s.m.savis.sess
      ∧ tabFind m.savis.conns conn = none ∧ .closed conn ∈ m.out
      ∧ ∃ cal v, .reply (8 + conn) id 9 7 0 true [] cal v ∈ m.out)
  ∧ (∀ s t k x, tabFind s.m.savis.sess k = some x → s.m.test.dbgOpen ≠ some k →
    (Effects (.savisClose t k) s fun m => m.savis.sess = tabDel s.m.savis.sess k ∧ m.out = [.closed x.conn])
    ∧ (Effects (.framingError t k) s fun m => m.savis.sess = tabDel s.m.savis.sess k ∧ m.out = [.closed x.conn])
    ∧ (x.last + 60000000000 ≤ max s.m.now t →
        Effects (.sessionTimeout t k) s fun m => m.savis.sess = tabDel s.m.savis.sess k ∧ m.out = [.closed x.conn])
    ∧ (max s.m.now t < x.last + 60000000000 → Settles (.sessionTimeout t k) s (s.m.start t)))
  ∧ (∀ s t k x, tabFind s.m.savis.sess k = some x → s.m.test.dbgOpen = some k → s.m.pair.role = .alone →
    Effects (.savisClose t k) s fun m => m.savis.sess = tabDel s.m.savis.sess k ∧ m.test.dbgOpen = none
      ∧ m.test.halted = false ∧ m.test.breaks = [])
  ∧ (∀ s t up, Gives (.engLinkChange t false up) s { s.m.start t with savis := { s.m.savis with eng1 := up } }
    ∧ Gives (.engLinkChange t true up) s { s.m.start t with savis := { s.m.savis with eng2 := up } })
  ∧ (∀ s t eng2 ip,
    (s.m.answersIp eng2 ip = true → Gives (.arpRequest t eng2 ip) s ((s.m.start t).emit (.arp eng2 ip false))
      ∧ Gives (.icmpEcho t eng2 ip) s ((s.m.start t).emit (.echo eng2 ip)))
    ∧ (s.m.answersIp eng2 ip = false → Gives (.arpRequest t eng2 ip) s (s.m.start t)
      ∧ Gives (.icmpEcho t eng2 ip) s (s.m.start t)))
  ∧ (∀ s t client id q o, q ∈ s.m.savis.reqs → q.client = client → q.id = id → q.outcome = some o →
    Ends (.outcomeExpiry t client id) s fun m =>
      (q.ended + 60000000000 ≤ max s.m.now t → q ∉ m.savis.reqs)
      ∧ (max s.m.now t < q.ended + 60000000000 → q ∈ m.savis.reqs))
  ∧ (∀ s t u, s.m.savis.upload = some u → u.last + 600000000000 ≤ max s.m.now t →
    Gives (.imgUploadTimeout t) s { s.m.start t with savis := { s.m.savis with upload := none } })
  ∧ (∀ s t k no z y a out, tabFind s.m.savis.sess k = some z → tabFind z.subs no = some y → y.change = false →
    y.due ≤ max s.m.now t → y.unsent = false → y.body.count = 0 → y.body.ofs = 0 → objImage y.body.obj = some (a, out) →
    y.body.len ≤ 1024 → y.body.first + y.body.len ≤ areaSize a →
    let data := memRead ((s.m.readImage out).get a) y.body.first y.body.len
    Ends (.notifyDue t k no true) s fun m => m.out = [.notify k no y.reqId y.skipped s.m.sched.tick data]
      ∧ ∃ w ∈ tabFind m.savis.sess k, tabFind w.subs no = some { y with
        last := data, due := y.due + y.period * 1000000, unsent := false, skipped := 0 })

/-- What every request passes (R70, R184, R585, R634, R635, R637, R640-R643, R647): roles, modes, the owner, versions, known keys
and a full queue, each with its outcome and reason, and nothing else changed.
Choices of the model that it meets: log entries 62, 63, 64, 65, 66, 67. -/
def Obligations.RequestsPassTheGeneralChecks : Prop :=
  (∀ s c r x, engineerReq c = some r → Fresh s r x → x.role ≠ .engineer → 1 ≤ x.ver →
    Effects c s fun m => Answered m r x .rejectedAccess 1 [] ∧ OnlyTold s.m m)
  ∧ (∀ s c r x, ownerReq c = some r → Fresh s r x → x.role = .engineer → 1 ≤ x.ver → s.m.controls = false →
    Effects c s fun m => Answered m r x .rejectedAccess 3 [] ∧ OnlyTold s.m m)
  ∧ (∀ s c r ks x, modeReq c = some (r, ks) → Fresh s r x → x.role = .engineer → 1 ≤ x.ver → s.m.controls = true →
    s.m.prog.pairKey ∉ ks → Effects c s fun m => Answered m r x .rejectedAccess 2 [] ∧ OnlyTold s.m m)
  ∧ (∀ s c r x q o, engineerReq c = some r → tabFind s.m.savis.sess r.session = some x → r.id ≠ 0 →
    s.m.savis.reqs.find? (fun q => q.client = x.client && q.id = r.id) = some q → q.outcome = some o →
    max s.m.now r.moment < q.ended + 60000000000 →
    (∀ p ∈ s.m.savis.reqs, p.cmd = none ∧ (p.client = x.client → p.id = r.id → p.outcome ≠ none)) →
    Effects c s fun m => Replied m r o q.reason q.data ∧ m.savis.reqs = s.m.savis.reqs ∧ OnlyTold s.m m)
  ∧ (∀ s c r x, engineerReq c = some r → tabFind s.m.savis.sess r.session = some x → r.id ≠ 0 → 1 ≤ x.ver →
    (∀ q ∈ s.m.savis.reqs, ¬(q.client = x.client ∧ q.id = r.id)) → (∀ q ∈ s.m.savis.reqs, q.cmd = none) →
    s.m.queueFull r.session x.client = true →
    Effects c s fun m => Replied m r .refusedFull 9 [] ∧ m.savis.reqs = s.m.savis.reqs ∧ OnlyTold s.m m
      ∧ m.savis.refused = inc32 s.m.savis.refused)
  ∧ (∀ s r bs x, Fresh s r x → x.ver < 3 →
    Effects (.readMulti r bs) s fun m => Replied m r .rejectedAccess 7 [] ∧ m.savis.reqs = s.m.savis.reqs
      ∧ m.savis.rejected = inc32 s.m.savis.rejected)
  ∧ (∀ s r x, tabFind s.m.savis.sess r.session = some x → r.id = 0 → s.m.test.dbgOpen ≠ some r.session →
    Effects (.ping r) s fun m => tabFind m.savis.sess r.session = none ∧ m.out = [.closed x.conn])
  ∧ (∀ s r x, tabFind s.m.savis.sess r.session = some x → r.id ≠ 0 → 1 ≤ x.ver → r.bodyOk = true →
    s.m.savis.anchors ≠ [] → s.m.upd.porch = false →
    Effects (.ping r) s fun m => Replied m r .done 0 [] ∧ m.savis.reqs = s.m.savis.reqs
      ∧ tabFind m.savis.sess r.session = some { x with last := max s.m.now r.moment } ∧ OnlyTold s.m m)
  ∧ (∀ s r x no, tabFind s.m.savis.sess r.session = some x → r.id ≠ 0 → 2 ≤ x.ver → r.bodyOk = true → no < 16 →
    s.m.savis.anchors ≠ [] → s.m.upd.porch = false →
    Effects (.unsubscribe r no) s fun m => Replied m r .done 0 []
      ∧ tabFind m.savis.sess r.session = some { x with last := max s.m.now r.moment, subs := tabDel x.subs no })

/-- Reads, writes, outcomes and subscriptions (R236, R585, R642, R645, R646, R650).
Choices of the model that it meets: log entries 60, 61. -/
def Obligations.ReadsWritesAndSubscriptions : Prop :=
  (∀ s r b x a out, Fresh s r x → 1 ≤ x.ver → b.count = 0 → b.ofs = 0 → objImage b.obj = some (a, out) → b.len ≤ 32768 →
    b.first + b.len ≤ areaSize a →
    Effects (.read r b) s fun m => Answered m r x .done 0 (memRead ((s.m.readImage out).get a) b.first b.len) ∧ OnlyTold s.m m)
  ∧ (∀ s r x ofs len, Fresh s r x → 1 ≤ x.ver → ofs % 4 = 0 → len % 4 = 0 → ofs + len ≤ 0x2C →
    Effects (.read r ⟨0x18, 0, 1, ofs, len⟩) s fun m => Answered m r x .done 0 ((s.m.objAccess.drop ofs).take len)
      ∧ OnlyTold s.m m)
  ∧ (∀ s r b x, Fresh s r x → 1 ≤ x.ver → objShape b.obj = none → objImage b.obj = none →
    Turned (.read r b) s r x .rejectedAccess 8)
  ∧ (∀ s r b x n size, Fresh s r x → 1 ≤ x.ver → objShape b.obj = some (n, size) →
    (b.count = 0 ∨ n < b.first + b.count ∨ size < b.ofs + b.len) → Turned (.read r b) s r x .rejectedAccess 5)
  ∧ (∀ s r b x a out, Fresh s r x → 3 ≤ x.ver → b.count = 0 → b.ofs = 0 → objImage b.obj = some (a, out) → b.len ≤ 16384 →
    b.first + b.len ≤ areaSize a →
    (let d := memRead ((s.m.readImage out).get a) b.first b.len
     Effects (.readMulti r [b, b]) s fun m => Answered m r x .done 0 (d ++ d) ∧ OnlyTold s.m m))
  ∧ (∀ s r bs x, Fresh s r x → 3 ≤ x.ver → 16 < bs.length → Turned (.readMulti r bs) s r x .rejectedAccess 5)
  ∧ (∀ s r x v, ByEngineer s r x →
    (v.getLsbD 31 = true →
      (Effects (.violValidClear r v) s fun m => Answered m r x .done 0 [] ∧ m.access = { s.m.access with
        viol := 0, violAddr := 0, violTick := 0, violInst := 0, violCount := 0 })
      ∧ Effects (.write r 0x18 0 0x14 v) s fun m => Answered m r x .done 0 [] ∧ m.access = { s.m.access with
        viol := 0, violAddr := 0, violTick := 0, violInst := 0, violCount := 0 })
    ∧ (v.getLsbD 31 = false → Turned (.violValidClear r v) s r x .done 0))
  ∧ (∀ s r x obj first ofs v n size, ByEngineer s r x → objShape obj = some (n, size) → obj ≠ 0x18 → first < n → ofs % 4 = 0 →
    ofs + 4 ≤ size → Turned (.write r obj first ofs v) s r x .rejectedAccess 6)
  ∧ (∀ s r x id q o, Fresh s r x → 1 ≤ x.ver → id ≠ r.id →
    s.m.savis.reqs.find? (fun q => q.client = x.client && q.id = id) = some q → q.outcome = some o →
    max s.m.now r.moment < q.ended + 60000000000 →
    Effects (.outcome r id) s fun m => Replied m r o q.reason q.data ∧ m.savis.reqs = s.m.savis.reqs ∧ OnlyTold s.m m)
  ∧ (∀ s r x id, Fresh s r x → 1 ≤ x.ver → id ≠ r.id → (∀ q ∈ s.m.savis.reqs, ¬(q.client = x.client ∧ q.id = id)) →
    Effects (.outcome r id) s fun m => (∃ cal v, .reply r.session r.id 0xFF 0 0 true [] cal v ∈ m.out)
      ∧ m.savis.reqs = s.m.savis.reqs)
  ∧ (∀ s r x no b a out ms, Fresh s r x → 2 ≤ x.ver → no < 16 → 10 ≤ ms → ms ≤ 60000 → b.count = 0 → b.ofs = 0 →
    objImage b.obj = some (a, out) → b.len ≤ 1024 → b.first + b.len ≤ areaSize a → s.m.savis.subs < 64 →
    Effects (.subscribe r no b false ms) s fun m => Answered m r x .done 0 []
      ∧ ∃ y z, tabFind m.savis.sess r.session = some y ∧ tabFind y.subs no = some z ∧ z.reqId = r.id ∧ z.body = b
          ∧ z.period = ms ∧ z.change = false ∧ z.due = max s.m.now r.moment + ms * 1000000)
  ∧ (∀ s r x, tabFind s.m.savis.sess r.session = some x → r.id ≠ 0 → r.bodyOk = true → s.m.upd.porch = true → 1 ≤ x.ver →
    x.role = .engineer → s.m.savis.anchors ≠ [] → (∀ q ∈ s.m.savis.reqs, ¬(q.client = x.client ∧ q.id = r.id)) →
    (∀ q ∈ s.m.savis.reqs, q.cmd = none) → s.m.queueFull r.session x.client = false →
    (s.m.savis.reqs.filter SReq.runs).length < 8 →
    (Effects (.status r) s fun m => Answered m r x .done 0 s.m.objUpdate ∧ OnlyTold s.m m)
    ∧ (s.m.upd.porchByKey = true → Effects (.projClear r) s fun m => Answered m r x .done 0 [] ∧ m.upd.project = none)
    ∧ Effects (.porchReset r) s fun m => Replied m r .done 0 [] ∧ ResetBy s.m m 6)

/-- Station items and block images (R69-R71, R190, R194, R195, R308-R310, R534, R649).
Choices of the model that it meets: log entries 68, 78, 79, 82. -/
def Obligations.ItemsAndImagesAreTaken : Prop :=
  (∀ s r x stn idem ms idx sub, ItemReady s r x stn ms idx sub [] →
    ItemTaken (.itemPread r stn idem ms idx sub []) s r x stn (newItem r x 1 idem ms idx sub [])
    ∧ ItemTaken (.itemDiag r stn idem ms idx sub []) s r x stn (newItem r x 4 idem ms idx sub []))
  ∧ (∀ s r x stn idem ms idx sub data, ItemReady s r x stn ms idx sub data →
    ItemTaken (.itemPwrite r stn idem ms idx sub data) s r x stn (newItem r x 2 idem ms idx sub data)
    ∧ ItemTaken (.itemCommand r stn idem ms idx sub data) s r x stn (newItem r x 3 idem ms idx sub data))
  ∧ (∀ s r x stn idem ms idx sub data, Fresh s r x → x.role = .operator → 1 ≤ x.ver → s.m.controls = true →
    data.length ≤ verData (s.m.stn stn).ver → 8 ≤ (s.m.stn stn).items.length →
    Effects (.itemPwrite r stn idem ms idx sub data) s fun m => Replied m r .refusedFull 9 [] ∧ OnlyTold s.m m)
  ∧ (∀ s r x load len, ByEngineer s r x → s.m.controls = true → s.m.prog.pairKey = (if load then .halt else .edit) →
    0 < len → len ≤ 67043264 → s.m.savis.upload = none → s.m.card.comp = none → s.m.cardWritable = true →
    Effects (.imgOpen r load len) s fun m => Answered m r x .done 0 []
      ∧ m.savis.upload = some ⟨load, len, 0, max s.m.now r.moment⟩)
  ∧ (∀ s r x u len, ByEngineer s r x → s.m.controls = true → s.m.savis.upload = some u → 0 < len → len ≤ 65536 →
    u.next + len ≤ u.length →
    (s.m.card.usable = true → s.m.powered 13 = true →
      Effects (.imgBlock r u.next len true) s fun m => Answered m r x .done 0 []
        ∧ m.savis.upload = some { u with next := u.next + len, last := max s.m.now r.moment })
    ∧ Effects (.imgBlock r u.next len false) s fun m => Answered m r x .failedTimeout 0 [] ∧ m.savis.upload = none
        ∧ m.card.writable = false)
  ∧ (∀ s r x u ofs len ok, ByEngineer s r x → s.m.controls = true → s.m.savis.upload = some u → ofs ≠ u.next →
    Effects (.imgBlock r ofs len ok) s fun m => Answered m r x .rejectedAccess 5 []
      ∧ m.savis.upload = some { u with last := max s.m.now r.moment })
  ∧ (∀ s r x img, ByEngineer s r x → s.m.pair.role = .alone → s.m.prog.pairKey = .edit →
    s.m.uploadEnds false img.digest img = true → s.m.prog.chgState ≠ .checking → s.m.prog.chgState ≠ .staged →
    s.m.cardWritable = true →
    (s.m.changeCheck img).1 = 0 →
    Effects (.imgEndChange r img.digest img) s fun m => Runs m r x ∧ m.savis.upload = none ∧ m.prog.chgState = .checking
      ∧ m.prog.staged = some img ∧ m.prog.chgKey = some (x.client, r.id) ∧ m.prog.image = s.m.prog.image)
  ∧ (∀ s r x img, ByEngineer s r x → s.m.controls = true → s.m.prog.pairKey = .halt →
    s.m.uploadEnds true img.digest img = true → s.m.prog.load = none → s.m.cardWritable = true →
    imageCheck s.m.upd.project img = 0 →
    (Effects (.imgEndCold r img.digest img) s fun m => Runs m r x ∧ m.prog.load = some img ∧ m.prog.loadMapped = false
        ∧ m.prog.chgState = .checking ∧ m.prog.image = s.m.prog.image ∧ m.savis.upload = none)
    ∧ (s.m.prog.image = none →
      Effects (.imgEndMapped r img.digest img) s fun m => Runs m r x ∧ m.prog.load = some img ∧ m.prog.loadMapped = true
        ∧ m.prog.chgState = .checking ∧ m.savis.upload = none))
  ∧ (∀ s r x img code, ByEngineer s r x → s.m.controls = true → s.m.prog.pairKey = .halt →
    s.m.uploadEnds true img.digest img = true → s.m.prog.load = none → s.m.cardWritable = true →
    imageCheck s.m.upd.project img = code → code ≠ 0 →
    Effects (.imgEndCold r img.digest img) s fun m => Answered m r x .rejectedAccess 0 [] ∧ m.prog.chgState = .refused
      ∧ m.prog.chgReason = code ∧ m.prog.load = none ∧ m.prog.image = s.m.prog.image)
  ∧ (∀ s r x u, ByEngineer s r x → s.m.controls = true → s.m.savis.upload = some u →
    Effects (.imgAbandon r) s fun m => Answered m r x .done 0 [] ∧ m.savis.upload = none)
  ∧ (∀ s r x, ByEngineer s r x → s.m.controls = true → s.m.savis.upload = none →
    Turned (.imgAbandon r) s r x .rejectedAccess 5)

/-- Restarts, the planned switchover and resets by command (R184, R188-R190, R477, R601, R647).
Choices of the model that it meets: log entries 39, 80, 81, 83. -/
def Obligations.RestartsAndSwitchoverByCommand : Prop :=
  (∀ s r x i, ByEngineer s r x → s.m.pair.role = .alone → s.m.prog.pairKey = .halt → s.m.prog.load = none →
    s.m.prog.image = some i → s.m.hall.join = .none →
    (Effects (.restartCold r) s fun m => Answered m r x .done 0 (leBytes 1 8) ∧ m.prog.restart = 1
      ∧ m.prog.image = some i ∧ ∀ l, (m.lane l).inst = instInit i ∧ (m.lane l).ctxs = [])
    ∧ ((s.m.start r.moment).committed = none →
      (Effects (.restartAuto r) s fun m => Answered m r x .done 0 (leBytes 1 8) ∧ m.prog.restart = 1
        ∧ ∀ l, (m.lane l).inst = instInit i)
      ∧ Turned (.restartWarm r) s r x .rejectedAccess 0)
    ∧ (∀ c home, (s.m.start r.moment).committed = some (c, home) → c.digest = i.digest →
      (Effects (.restartWarm r) s fun m => Answered m r x .done 0 (leBytes 2 8) ∧ m.prog.restart = 2
        ∧ ∀ l, (m.lane l).inst = instWarm i home)
      ∧ Effects (.restartAuto r) s fun m => Answered m r x .done 0 (leBytes 2 8) ∧ m.prog.restart = 2
        ∧ ∀ l, (m.lane l).inst = instWarm i home))
  ∧ (∀ s r x i, ByEngineer s r x → s.m.controls = true → s.m.prog.pairKey = .halt → s.m.prog.load = some i →
    Turned (.restartCold r) s r x .refusedFull 9)
  ∧ (∀ s r x, ByEngineer s r x → s.m.pair.role = .owner → s.m.pair.partner = some .shadow → s.m.pair.partnerReady = true →
    s.m.prog.pairKey = .edit → s.m.pair.plan.st ≠ .waiting → s.m.pair.plan.st ≠ .go → s.m.relayPath = false →
    s.m.prog.chgState ≠ .staged →
    Effects (.switchover r) s fun m => Runs m r x ∧ m.pair.plan.st = .waiting ∧ m.pair.plan.key = some (x.client, r.id)
      ∧ m.pair.plan.since = max s.m.now r.moment ∧ m.pair.role = .owner)
  ∧ (∀ s r x, ByEngineer s r x → s.m.pair.role = .alone → s.m.prog.pairKey = .edit → s.m.pair.plan.st ≠ .waiting →
    s.m.pair.plan.st ≠ .go →
    Effects (.switchover r) s fun m => Answered m r x .rejectedAccess 4 [] ∧ m.pair.plan.st = .refused
      ∧ m.pair.role = .alone)
  ∧ (∀ s r x, ByEngineer s r x → s.m.pair.role = .out →
    Effects (.hearthReset r) s fun m => Replied m r .done 0 [] ∧ ResetBy s.m m 3)
  ∧ (∀ s r x, ByEngineer s r x → s.m.pair.role = .alone → s.m.prog.pairKey = .service → s.m.serviceBusy = false →
    Effects (.hearthReset r) s fun m => Replied m r .done 0 [] ∧ ResetBy s.m m 3)
  ∧ (∀ s r x, ByEngineer s r x → s.m.pair.role = .owner → s.m.prog.pairKey = .service →
    Turned (.hearthReset r) s r x .rejectedAccess 4)

/-- Trims, calendar steps, card, network and trust anchor requests (R397, R398, R430, R438, R535, R536, R541, R630, R633).
Choices of the model that it meets: log entries 59, 80, 84, 86. -/
def Obligations.TrimsStepsAndSettingsByCommand : Prop :=
  (∀ s r x ch z p, ByEngineer s r x → s.m.prog.pairKey = .edit → ch < 8 → z.natAbs ≤ 200000 → p.natAbs ≤ 10000 →
    s.m.cardWritable = true → s.m.trimBusy ch = false →
    (s.m.conv.calBusy = false → Effects (.loopTrim r s.m.bolt.side ch z p) s fun m => Runs m r x
      ∧ m.loop ch = { s.m.loop ch with zeroTrim := z, spanTrim := p }
      ∧ m.card.queue.map Append.body = s.m.card.queue.map Append.body ++ [.trim ⟨false, s.m.savis.serial, ch, z, p⟩])
    ∧ (s.m.conv.calBusy = true → Effects (.loopTrim r s.m.bolt.side ch z p) s fun m => Runs m r x
      ∧ m.loops = s.m.loops ∧ m.conv.trimWait = s.m.conv.trimWait ++ [⟨ch, z, p, (x.client, r.id)⟩]))
  ∧ (∀ s r x ch z p, ByEngineer s r x → s.m.prog.pairKey = .edit → ch < 8 → z.natAbs ≤ 200000 → p.natAbs ≤ 10000 →
    s.m.cardWritable = true → s.m.trimBusy ch = true →
    Turned (.loopTrim r s.m.bolt.side ch z p) s r x .busyTest 0)
  ∧ (∀ s r x ch z p side, ByEngineer s r x → s.m.prog.pairKey = .edit → (8 ≤ ch ∨ 200000 < z.natAbs ∨ 10000 < p.natAbs) →
    Turned (.loopTrim r side ch z p) s r x .rejectedAccess 5)
  ∧ (∀ s r x port tx rx, ByEngineer s r x → s.m.prog.pairKey = .service → port < 4 → tx.natAbs ≤ 50000 → rx.natAbs ≤ 50000 →
    s.m.cardWritable = true → s.m.card.layout = 2 →
    (s.m.portTested port = false → Effects (.latTrim r s.m.bolt.side port tx rx) s fun m => Runs m r x
      ∧ ptime m port = { ptime s.m port with txTrim := tx, rxTrim := rx }
      ∧ m.card.queue.map Append.body = s.m.card.queue.map Append.body ++ [.trim ⟨true, s.m.savis.serial, port, tx, rx⟩])
    ∧ (s.m.portTested port = true → Effects (.latTrim r s.m.bolt.side port tx rx) s fun m => Runs m r x
      ∧ m.time = s.m.time ∧ m.test.portJobs = s.m.test.portJobs ++ [⟨port, false, some (tx, rx), (x.client, r.id), true⟩]))
  ∧ (∀ s r x v, ByEngineer s r x → s.m.pair.role = .alone → s.m.prog.pairKey = .service → s.m.time.step = none →
    v.ns < 1000000000 → v.frac < 65536 →
    (Effects (.setTime r v) s fun m => Runs m r x ∧ m.time.step = some ⟨some v.units, some (x.client, r.id)⟩
      ∧ m.time.cal = s.m.time.cal)
    ∧ (s.m.refQual = true → Effects (.restep r) s fun m => Runs m r x ∧ m.time.step = some ⟨none, some (x.client, r.id)⟩)
    ∧ (s.m.refQual = false → Turned (.restep r) s r x .rejectedAccess 0))
  ∧ (∀ s r x v, ByEngineer s r x → s.m.prog.pairKey = .run → v.ns < 1000000000 → v.frac < 65536 →
    Turned (.setTime r v) s r x .rejectedAccess 2 ∧ Turned (.restep r) s r x .rejectedAccess 2)
  ∧ (∀ s r x c sc img, ByEngineer s r x → s.m.card.comp = none → s.m.card.rewriteDue = false → s.m.savis.upload = none →
    s.m.card.usable = true → s.m.card.unread = false → s.m.card.card = some c → cardScan c (some s.m.cutSeq) = some sc →
    sc.image = some img → Effects (.cardCompact r true) s fun m => Runs m r x ∧ ∃ y, m.card.comp = some y
      ∧ y.kind = .command ∧ y.layout = 2 ∧ y.image = img ∧ y.step = 1 ∧ y.key = some (x.client, r.id))
  ∧ (∀ s r x i, ByEngineer s r x → s.m.card.comp = none → s.m.card.rewriteDue = false → s.m.savis.upload = none →
    s.m.card.usable = true → s.m.prog.image = some i → Effects (.cardRewrite r) s fun m => Runs m r x
      ∧ ∃ y, m.card.comp = some y ∧ y.kind = .rewrite ∧ y.image = i ∧ y.key = some (x.client, r.id))
  ∧ (∀ s r x y, ByEngineer s r x → s.m.card.comp = some y →
    Turned (.cardCompact r true) s r x .refusedFull 9 ∧ Turned (.cardRewrite r) s r x .refusedFull 9)
  ∧ (∀ s r x addr pfx gw, ByEngineer s r x → s.m.prog.pairKey = .service → s.m.test.dbgOpen = none → 8 ≤ pfx → pfx ≤ 30 →
    addr < 2 ^ 32 → gw < 2 ^ 32 →
    Effects (.netSet r s.m.side false 0 addr pfx gw) s fun m => Answered m r x .done 0 []
      ∧ m.savis.net = { s.m.savis.net with own1 := addr, pfx1 := pfx, gw1 := gw })
  ∧ (∀ s r x addr pfx gw, ByEngineer s r x → s.m.prog.pairKey = .service → (pfx < 8 ∨ 30 < pfx) →
    Turned (.netSet r s.m.side false 0 addr pfx gw) s r x .rejectedAccess 5)
  ∧ (∀ s r x as, ByEngineer s r x → s.m.prog.pairKey = .halt → as.length ≤ 4 →
    (s.m.cmdPartner = false → Effects (.caSet r as) s fun m => Answered m r x .done 0 [] ∧ m.savis.anchors = as)
    ∧ (s.m.cmdPartner = true → s.m.savis.caPend = none → Effects (.caSet r as) s fun m => Runs m r x
      ∧ m.savis.anchors = s.m.savis.anchors ∧ m.savis.caPend = some (as, (x.client, r.id))
      ∧ ∃ y, .hall (.mCmd y x.client r.id 0x0902 (as.map Int.ofNat)) ∈ m.out))

/-- Firmware and project key requests (R566-R569, R573-R575, R581).
Choices of the model that it meets: log entries 55, 75, 76, 85. -/
def Obligations.FirmwareRequestsStepTheDownload : Prop :=
  (∀ s r x h, ByEngineer s r x → s.m.upd.dl = .idle → headerCheck s.m.upd s.m.savis.hwRev h = 0 →
    s.m.upd.running.st = .good → s.m.upd.runBank = false →
    Effects (.fwOpen r h) s fun m => Answered m r x .done 0 [] ∧ m.upd.dl = .receiving ∧ m.upd.dlPkg = some h
      ∧ m.upd.dlDone = [] ∧ m.upd.dlBank = true ∧ m.upd.bank0 = s.m.upd.bank0
      ∧ m.upd.bank1 = { s.m.upd.bank1 with st := .writing, tries := 0, fwVer := h.fwVer, svn := h.svn, reason := 0, pkg := some h })
  ∧ (∀ s r x h why, ByEngineer s r x → s.m.upd.dl = .idle → headerCheck s.m.upd s.m.savis.hwRev h = why → why ≠ 0 →
    Effects (.fwOpen r h) s fun m => Answered m r x .rejectedAccess 0 [] ∧ m.upd = { s.m.upd with dlReason := why })
  ∧ (∀ s r x h g, ByEngineer s r x → s.m.upd.dl = .receiving → s.m.upd.dlPkg = some g →
    (h = g → Effects (.fwOpen r h) s fun m => Answered m r x .done 0 []
      ∧ m.upd = { s.m.upd with dlLast := max s.m.now r.moment })
    ∧ (h ≠ g → Turned (.fwOpen r h) s r x .refusedFull 9))
  ∧ (∀ s r x h i crc, ByEngineer s r x → s.m.upd.dl = .receiving → s.m.upd.dlPkg = some h → i < h.nblk →
    h.blkCrc[i]? = some crc → i ∉ s.m.upd.dlDone →
    Effects (.fwBlock r i crc) s fun m => Runs m r x ∧ m.upd = { s.m.upd with
      dlLast := max s.m.now r.moment, dlQueue := s.m.upd.dlQueue ++ [(i, (x.client, r.id))] })
  ∧ (∀ s r x h i crc, ByEngineer s r x → s.m.upd.dl = .receiving → s.m.upd.dlPkg = some h → h.blkCrc[i]? ≠ some crc →
    Effects (.fwBlock r i crc) s fun m => Answered m r x .rejectedAccess 0 [] ∧ m.upd = { s.m.upd with
      dlLast := max s.m.now r.moment, blkRejected := inc32 s.m.upd.blkRejected, dlReason := 8 })
  ∧ (∀ s r x, ByEngineer s r x → s.m.upd.dl = .receiving →
    (s.m.upd.complete = true → Effects (.fwSign r) s fun m => Runs m r x ∧ m.upd = { s.m.upd with
      dlLast := max s.m.now r.moment, dl := .verifying, dlKey := some (x.client, r.id) })
    ∧ (s.m.upd.complete = false → Effects (.fwSign r) s fun m => Answered m r x .rejectedAccess 0 [] ∧ m.upd.dlReason = 7
      ∧ m.upd.dl = .receiving))
  ∧ (∀ s r x, ByEngineer s r x → s.m.upd.dl = .receiving → s.m.upd.dlQueue = [] → s.m.upd.dlKey = none →
    Effects (.fwAbandon r) s fun m => Answered m r x .done 0 [] ∧ m.upd.dl = .failed ∧ m.upd.dlReason = 0x0C
      ∧ m.upd.bank0 = s.m.upd.bank0 ∧ m.upd.bank1 = s.m.upd.bank1)
  ∧ (∀ s r x minPfl, ByEngineer s r x → s.m.prog.pairKey = .service → s.m.pair.role = .alone → s.m.serviceBusy = false →
    minPfl ≤ 3 → s.m.upd.bank1.st = .staged →
    Effects (.fwActivate r 1 minPfl) s fun m => Replied m r .done 0 [0, 0, 0, 0, 0, 0, 0, 0] ∧ m.power.boot = .bist
      ∧ m.power.resetCause = 5 ∧ m.pair.role = .out ∧ m.upd.bank0 = s.m.upd.bank0
      ∧ m.upd.bank1 = { s.m.upd.bank1 with
          st := .trial, tries := 0, seq := 1 + max s.m.upd.bank0.seq s.m.upd.bank1.seq })
  ∧ (∀ s r x minPfl, ByEngineer s r x → s.m.prog.pairKey = .service → s.m.pair.role = .alone → s.m.serviceBusy = false →
    minPfl ≤ 3 → s.m.upd.bank1.st = .failed → Turned (.fwActivate r 1 minPfl) s r x .rejectedAccess 0)
  ∧ (∀ s r x d i g, ByEngineer s r x → s.m.pair.role = .alone → s.m.prog.pairKey = .halt → s.m.prog.image = some i →
    i.sign = some g → g.pubDigest = d → g.sigOk = true →
    (Effects (.projEnroll r d true true) s fun m => Answered m r x .done 0 [] ∧ m.upd.project = some d)
    ∧ (s.m.upd.project ≠ none → Turned (.projEnroll r d true false) s r x .rejectedAccess 0))

/-- Self-test and debug requests (R119-R123, R611, R616, R617, R620-R622).
Choices of the model that it meets: log entries 8, 24, 70, 71, 72, 73. -/
def Obligations.TestAndDebugRequestsAct : Prop :=
  (∀ s r x, Services s r x → s.m.pair.role = .shadow → s.m.pair.ready = true → s.m.pair.partner = some .owner →
    (∀ l, (s.m.lane l).mode = .serving) →
    (Effects (.rotTest r (some .B)) s fun m => Runs m r x ∧ m.test.rot = .waitEdge ∧ m.test.rotLane = .B
      ∧ m.test.rotLeft = [] ∧ m.test.rotKey = some (x.client, r.id) ∧ m.lanes = s.m.lanes)
    ∧ Effects (.rotTest r none) s fun m => Runs m r x ∧ m.test.rot = .waitEdge ∧ m.test.rotLane = .A
      ∧ m.test.rotLeft = [.B, .C])
  ∧ (∀ s r x l, Services s r x → s.m.pair.role = .alone → Turned (.rotTest r l) s r x .rejectedAccess 4)
  ∧ (∀ s r x port pcs, ByEngineer s r x → port < 4 → s.m.powered (7 + port) = true → (s.m.port port).link = false →
    Effects (.portTest r port pcs) s fun m => Runs m r x
      ∧ m.test.portJobs = s.m.test.portJobs ++ [⟨port, pcs, none, (x.client, r.id), s.m.portTested port⟩])
  ∧ (∀ s r x port pcs, ByEngineer s r x → port < 4 → (s.m.port port).link = true →
    Turned (.portTest r port pcs) s r x .rejectedAccess 0)
  ∧ (∀ s r x real, Services s r x → (s.m.pair.role = .alone ∨ s.m.pair.role = .shadow) →
    Effects (.dbgOpen r real) s fun m => Answered m r x .done 0 [] ∧ m.test.dbgOpen = some r.session ∧ m.test.breaks = []
      ∧ m.test.clockReal = (real && decide (s.m.pair.role = .alone)))
  ∧ (∀ s r x real n, ByEngineer s r x → s.m.prog.pairKey = .service → s.m.pair.role = .alone → s.m.test.dbgOpen = some n →
    Effects (.dbgOpen r real) s fun m => Answered m r x .busyTest 0 [] ∧ m.test.dbgOpen = some n
      ∧ m.test.reqBusy = inc32 s.m.test.reqBusy)
  ∧ (∀ s r x, Debugs s r x → s.m.pair.role = .alone →
    Effects (.dbgClose r) s fun m => Answered m r x .done 0 [] ∧ m.test.dbgOpen = none ∧ m.test.breaks = []
      ∧ m.test.halted = false ∧ m.test.halting = false)
  ∧ (∀ s r x n, Debugs s r x → s.m.serviceOk = true → 0 < n → n < 2 ^ 32 → s.m.test.halting = false →
    (s.m.test.halted = false → Effects (.dbgHalt r n) s fun m => Runs m r x ∧ m.test.halting = true ∧ m.test.halted = false
      ∧ m.test.haltKey = some (x.client, r.id) ∧ m.test.targets = s.m.haltTargets n)
    ∧ (s.m.test.halted = true → Effects (.dbgStep r n) s fun m => Runs m r x ∧ m.test.halting = true
      ∧ m.test.halted = false ∧ m.test.haltKey = some (x.client, r.id)))
  ∧ (∀ s r x n, Debugs s r x → s.m.test.halted = false → s.m.test.halting = false →
    Turned (.dbgStep r n) s r x .rejectedAccess 0)
  ∧ (∀ s r x, Debugs s r x → s.m.pair.role = .alone → s.m.test.halted = true → s.m.test.halting = false →
    s.m.test.haltKey = none →
    Effects (.dbgResume r) s fun m => Answered m r x .done 0 [] ∧ m.test.halted = false ∧ m.pair.role = .alone
      ∧ (s.m.prog.run = .haltedDebug → m.prog.run = .running) ∧ ∀ l, (s.m.lane l).mode = .halted → (m.lane l).mode = .serving)
  ∧ (∀ s r x, Debugs s r x → s.m.pair.role = .shadow → s.m.test.halted = true → s.m.test.haltKey = none →
    Effects (.dbgResume r) s fun m => Answered m r x .done 0 [] ∧ m.pair.role = .joining ∧ m.prog.run = .joining)
  ∧ (∀ s r x sel eng pc, Debugs s r x → sel < 8 → eng < 16 → pc < 2 ^ 24 →
    (Effects (.dbgBreak r sel eng pc true) s fun m => Answered m r x .done 0 []
      ∧ tabFind m.test.breaks sel = some ⟨eng, pc⟩)
    ∧ Effects (.dbgBreak r sel eng pc false) s fun m => Answered m r x .done 0 [] ∧ tabFind m.test.breaks sel = none)
  ∧ (∀ s r x ofs len, Debugs s r x → ofs % 64 = 0 → len % 4 = 0 → 0 < len → len ≤ 64 → ofs + len ≤ 0x1400000 →
    s.m.checkAccess 0x45 .r (0x12000000 + ofs) len = none →
    Effects (.dbgRead r (0x12000000 + ofs) len) s fun m => Answered m r x .done 0 (areaBytes (s.m.lane .A).inst ofs len)
      ∧ m.lanes = s.m.lanes)
  ∧ (∀ s r x addr len, Debugs s r x → (32768 < len ∨ len % 4 ≠ 0) → Turned (.dbgRead r addr len) s r x .rejectedAccess 5)
  ∧ (∀ s r x addr bytes, Debugs s r x → s.m.test.halted = false → addr + bytes.length ≤ 2 ^ 32 → bytes.length ≤ 32768 →
    bytes.length % 4 = 0 → Turned (.dbgWrite r addr bytes) s r x .rejectedAccess 0)
  ∧ (∀ s r x ofs bytes, Debugs s r x → s.m.test.halted = true → bytes.length % 4 = 0 → 0 < bytes.length →
    bytes.length ≤ 64 → ofs % 64 = 0 → ofs + bytes.length ≤ 0x1400000 →
    s.m.checkAccess 0x45 .w (0x18000000 + ofs) bytes.length = none →
    Effects (.dbgWrite r (0x18000000 + ofs) bytes) s fun m => Answered m r x .done 0 []
      ∧ ∀ l, (s.m.lane l).inService = true → Memory.wf (s.m.lane l).inst = true →
          areaBytes (m.lane l).inst ofs bytes.length = bytes)

/-- Requests passed on to the partner (R500, R581, R582, R630, R633, R647): the partner acts and answers, and the module enrols
what its partner has enrolled; request 0 is what an owner tells a module in OUT (log entry 23).
Choices of the model that it meets: log entries 23, 26, 96. -/
def Obligations.PassedRequestsAreAnswered : Prop :=
  (∀ s x k id as, Hears s x 2 → id ≠ 0 → (∀ q ∈ s.m.savis.reqs, ¬(q.client = k ∧ q.id = id)) →
    Effects (.mCmd x k id 0x0902 as) s fun m => m.savis.anchors = as.map Int.toNat ∧ TellsPartner m k id .done)
  ∧ (∀ s x k id ch z p, Hears s x 2 → id ≠ 0 → (∀ q ∈ s.m.savis.reqs, ¬(q.client = k ∧ q.id = id)) → ch < 8 →
    s.m.cardWritable = true →
    (s.m.trimBusy ch = true → Effects (.mCmd x k id 0x0401 [(ch : Int), z, p]) s fun m =>
      TellsPartner m k id .busyTest ∧ m.loops = s.m.loops ∧ m.card = s.m.card)
    ∧ (s.m.trimBusy ch = false → s.m.conv.calBusy = false →
      Effects (.mCmd x k id 0x0401 [(ch : Int), z, p]) s fun m =>
        m.loop ch = { s.m.loop ch with zeroTrim := z, spanTrim := p }
        ∧ (∃ q ∈ m.savis.reqs, q.client = k ∧ q.id = id ∧ q.outcome = none ∧ q.viaCmd = true)
        ∧ m.card.queue.map Append.body = s.m.card.queue.map Append.body ++ [.trim ⟨false, s.m.savis.serial, ch, z, p⟩]))
  ∧ (∀ s x k id, ∀ d : Nat, Hears s x 2 → id ≠ 0 → (∀ q ∈ s.m.savis.reqs, ¬(q.client = k ∧ q.id = id)) →
    Effects (.mCmd x k id 0x0606 [(d : Int)]) s fun m =>
      (s.m.imageSigned d = true → m.upd.project = some d ∧ TellsPartner m k id .done)
      ∧ (s.m.imageSigned d = false → m.upd.project = s.m.upd.project ∧ TellsPartner m k id .rejectedAccess))
  ∧ (∀ s x k, ∀ d : Nat, Hears s x 2 → (s.m.pair.role = .out ∨ s.m.pair.role = .joining) →
    (s.m.upd.project = none → Settles (.mCmd x k 0 0x0606 [(d : Int)]) s
      { Heard s x 2 with upd := { s.m.upd with project := some d } })
    ∧ (s.m.upd.project = some d → Settles (.mCmd x k 0 0x0606 [(d : Int)]) s (Heard s x 2))
    ∧ (∀ g, s.m.upd.project = some g → g ≠ d → Effects (.mCmd x k 0 0x0606 [(d : Int)]) s fun m =>
        m.pair.role = .out ∧ m.pair.outCause = 0x0F ∧ m.upd = s.m.upd))
  ∧ (∀ s x k method as, Hears s x 2 → s.m.pair.role ≠ .out → s.m.pair.role ≠ .joining →
    Settles (.mCmd x k 0 method as) s (Heard s x 2))
  ∧ (∀ s x k id as, Hears s x 2 → (k, id) ∈ s.m.savis.cmdOut → s.m.savis.caPend = some (as, (k, id)) →
    (Effects (.mCmdRsp x k id .done []) s fun m => m.savis.anchors = as ∧ m.savis.caPend = none
      ∧ (k, id) ∉ m.savis.cmdOut)
    ∧ (Effects (.mCmdRsp x k id .rejectedAccess []) s fun m => m.savis.anchors = s.m.savis.anchors
      ∧ m.savis.caPend = none ∧ (k, id) ∉ m.savis.cmdOut))
  ∧ (∀ s x k id o data q, Hears s x 2 → (k, id) ∈ s.m.savis.cmdOut → q ∈ s.m.savis.reqs → q.client = k → q.id = id →
    q.outcome = none → o.final = true →
    Effects (.mCmdRsp x k id o data) s fun m => ∃ r ∈ m.savis.reqs, r.client = k ∧ r.id = id ∧ r.outcome = some o
      ∧ r.data = data.take 256)
  ∧ (∀ s x k id o data, Hears s x 2 → (k, id) ∉ s.m.savis.cmdOut →
    Settles (.mCmdRsp x k id o data) s (Heard s x 2))

/-- The step: it carries out the command at the front with the rest of the queue; with an empty queue the block idles (the
model's choice, log entry 2). No row of the table gives bits, so no word spells a command.
Choices of the model that it meets: log entry 2. -/
def Obligations.StepRunsTheFrontCommand : Prop :=
  (∀ s c, Sys2Proof.Machine.step { s with pending := c :: s.pending } = exec c s)
  ∧ (∀ s : State, s.pending = [] → Sys2Proof.Machine.step s = .next s)
  ∧ (∀ s : State, ∀ n w, decodeTableWord n w = none ∧ s.withFetchWord n w = s)

/-- Every command completes in every state and leaves the queue alone: none faults, none is refused.
Choices of the model that it meets: log entry 30. -/
def Obligations.EveryCommandCompletes : Prop :=
  ∀ c s, ∃ m, Gives c s m

/-- The words of PAIR show the pair field by field (R491-R493), in every state whose fields are in their ranges. -/
def Obligations.PairWordsShowThePair : Prop :=
  ∀ m : Mod, m.pair.pfl < 4 → m.pair.lastFrom < 16 → m.pair.lastTo < 16 → m.pair.lastCause < 256 →
    let r := objWord m.objPair 0
    let b := objWord m.objPair 1
    let l := objWord m.objPair 3
    field r 29 3 = m.pair.role.code ∧ field r 26 3 = partnerCode m
    ∧ field r 25 1 = m.side ∧ field r 24 1 = bit (m.pair.role = .shadow && m.pair.ready)
    ∧ field r 23 1 = bit m.redundantReady ∧ field r 21 2 = m.pair.pfl ∧ field r 20 1 = bit (m.hall.link = .up)
    ∧ field r 16 4 = planCode m.pair.plan.st
    ∧ field r 0 16 = 0
    ∧ field b 31 1 = bit m.bolt.ownSelf ∧ field b 30 1 = bit m.bolt.ownPartner ∧ field b 29 1 = bit m.bolt.liveSelf
    ∧ field b 28 1 = bit m.bolt.livePartner ∧ field b 27 1 = bit m.gate
    ∧ field b 26 1 = bit (!m.bolt.ownSelf && m.bolt.ownPartner) ∧ field b 25 1 = bit m.bolt.armed
    ∧ field b 24 1 = bit m.bolt.bistLatch ∧ field b 23 1 = bit m.bolt.ownStuck ∧ field b 22 1 = bit m.bolt.contention
    ∧ field b 21 1 = bit m.bolt.wdExpired ∧ field b 0 21 = 0
    ∧ field l 28 4 = m.pair.lastFrom ∧ field l 24 4 = m.pair.lastTo ∧ field l 16 8 = m.pair.lastCause ∧ field l 0 16 = 0
    ∧ (m = State.reset.m → r = 0x1C000000 ∧ b = 0 ∧ l = 0xF0000000)

/-- What bringing the sessions, READY and the partner up to date leaves of a command's effect (R460, R476, R500, R573, R629): where
no switchover happened and no session came by the pair service address to a module that does not control the domain, it changes
only READY, ARMED, the start of a trial's ten seconds, the connections by that address, and what goes to the partner. -/
def Obligations.SettlingKeepsTheEffect : Prop :=
  ∀ a m : Mod, Mod.switched a m = false → (m.controls = true ∨ ∀ x ∈ m.savis.sess, x.2.psa = false) →
    let r := Mod.settle a m
    (∃ ready before armed since conns, { r with out := m.out, hall := m.hall } = { m with
        pair := { m.pair with ready := ready, readyBefore := before }
        bolt := { m.bolt with armed := armed }
        upd := { m.upd with trialFrom := since }
        savis := { m.savis with conns := conns } })
    ∧ (m.controls = true → r.savis = m.savis)
    ∧ ((r.out = m.out ∧ r.hall = m.hall)
      ∨ (m.hall.link = .up ∧ ∃ y, r.out = m.out ++ [.hall (.mRole y r.pair.role r.pair.ready r.bolt.armed r.prog.ownKey
          (BitVec.ofNat 32 r.newel.failWord) r.pair.epoch)]))

/-- An operation of block code changes its own lane alone, and there only lane memory, executions, counts and the starts taken;
a register write reaches no other register, W0 stays zero (R79, R80, R133).
Choices of the model that it meets: log entry 4. -/
def Obligations.OperationsStayInTheirLane : Prop :=
  (∀ c e s m, opOf c = some e → Gives c s m →
    { m with lanes := s.m.lanes } = { s.m with out := [] } ∧ (∀ l, l ≠ e.lane → m.lane l = s.m.lane l)
    ∧ ∃ inst ops ctxs gates, m.lane e.lane
        = { s.m.lane e.lane with inst := inst, ops := ops, ctxs := ctxs, gates := gates })
  ∧ (∀ (v : View) (d k : Reg) (x : W64), Memory.wf v.eng.regs = true →
    (v.w d x).r k = if k = 0 then 0 else if k = d then x else v.r k)
  ∧ (∀ (v : View) (d : Reg) (x : W64), (v.w d x).inst = v.inst ∧ (v.w d x).ctx = v.ctx ∧ v.w 0 x = v
    ∧ (v.w d x).eng.pc = v.eng.pc ∧ (v.w d x).eng.fsr = v.eng.fsr ∧ (v.w d x).eng.calls = v.eng.calls)

/-- Byte and word memories keep their one form and read back what was written; the reset memories have it. -/
def Obligations.MemoriesKeepOneFormAndReadBack : Prop :=
  (∀ (w : Nat) (m : Mem w) a v b, Memory.wf m = true → memGet (memSet m a v) b = if b = a then v else memGet m b)
  ∧ (∀ (w : Nat) (m : Mem w) a v, Memory.wf m = true → Memory.wf (memSet m a v) = true)
  ∧ (∀ (w : Nat) (m : Mem w) a vs b, Memory.wf m = true → Memory.wf (memWrite m a vs) = true
    ∧ memGet (memWrite m a vs) b = if a ≤ b ∧ b < a + vs.length then vs.getD (b - a) 0 else memGet m b)
  ∧ (∀ (w : Nat) (m n : Mem w), Memory.wf m = true → Memory.wf n = true → (∀ b, memGet m b = memGet n b) → m = n)
  ∧ (∀ (v : View) h i x k, Memory.wf v.inst = true →
    memGet (v.poke h i x).inst k = if k = h / 8 + i then x else memGet v.inst k)
  ∧ (∀ l, Memory.wf (State.reset.m.lane l).inst = true) ∧ Memory.wf State.reset.m.attic.home = true

/-- From any state in which it holds, every step keeps OWN behind the permit and LIVE (R449, R451, R452, R459), and the retained words in
their one form (R542, R547). -/
def Obligations.OwnershipAndRetainedWordsStaySound : Prop :=
  (∀ s t : State, s.m.bolt.sound = true → Sys2Proof.Machine.step s = .next t → t.m.bolt.sound = true)
  ∧ (∀ s t : State, s.m.attic.sound = true → Sys2Proof.Machine.step s = .next t → t.m.attic.sound = true)

/-- No step unblows a fuse (R563, R573): the security version never sinks, a revoked key stays revoked. -/
def Obligations.FusesStayBlown : Prop :=
  ∀ s t : State, Sys2Proof.Machine.step s = .next t → Update.fusesStay s.m.upd t.m.upd

/-- What only hardware sets (R182, R448, R654): the key position moves by the key switch alone, SIDE is taken at power-up alone, the
serial number and revision never change. -/
def Obligations.HardwareSettingsStay : Prop :=
  ∀ c s m, Gives c s m →
    ((∀ t p, c ≠ .keySwitchChange t p) → m.prog.ownKey = s.m.prog.ownKey)
    ∧ ((s.m.power.boot ≠ .off ∨ ∀ t b h, c ≠ .powerOnStart t b h) → m.bolt.side = s.m.bolt.side)
    ∧ m.savis.serial = s.m.savis.serial ∧ m.savis.hwRev = s.m.savis.hwRev ∧ m.savis.order = s.m.savis.order

/-- The state after reset: it meets what every step keeps, with role OUT and every line low (R447, R491, R492); its status words read as
their tables say (R76, R127, R129, R130, R176, R212, R442, R491, R493, R557, R606, R607). -/
def Obligations.ResetIsSafeAndReadsAsTabled : Prop :=
  (State.reset.Safe ∧ State.reset.m.pair.role = .out ∧ State.reset.m.bolt.ownSelf = false
      ∧ State.reset.m.bolt.liveSelf = false ∧ State.reset.m.bolt.permit = false ∧ State.reset.pending = [])
  ∧ (let m := State.reset.m
    objWord m.objSched 3 = 0x80000000 ∧ (∀ k, k < 3 → objWord (m.objLane k) 0 = 0)
    ∧ objWord m.objNewel 0 = 0 ∧ objWord m.objNewel 7 = 0x00E00000 ∧ objWord m.objEngine 1 = 0x00000E00
    ∧ objWord m.objProgram 0 = 0 ∧ objWord m.objTime 0 = 0x0000FF00
    ∧ objWord m.objPair 0 = 0x1C000000 ∧ objWord m.objPair 1 = 0 ∧ objWord m.objPair 3 = 0xF0000000
    ∧ objWord m.objAttic 0 = 0 ∧ objWord m.objPower 0 = 0x20000000 ∧ objWord m.objPower 1 = 1)
end

