-- ==== Sys2Proof/Laws/State.lean ====
section
/-! SUPPORT. Each named update of the module, field by field, so that no later proof unfolds a record update. Where an update
leaves a field alone the lemma says so; the field that it writes reads as its definition says. -/

namespace Sys2Proof.Machine

open Sys2Proof

/-- A plain effect is the next state. -/
@[simp] theorem State.does_eq (s : State) (f : Mod → Mod) : s.does f = .next { s with m := f s.m } := rfl

/-- An effect the pair may see is settled. -/
@[simp] theorem State.doesPair_eq (s : State) (f : Mod → Mod) : s.doesPair f = .next { s with m := Mod.settle s.m (f s.m) } := rfl

@[simp] theorem Mod.start_now (m : Mod) (t : Nat) :
    (m.start t).now = max m.now t := rfl
@[simp] theorem Mod.start_out (m : Mod) (t : Nat) :
    (m.start t).out = [] := rfl
@[simp] theorem Mod.start_free (m : Mod) (t : Nat) : (m.start t).free = m.free := rfl
@[simp] theorem Mod.start_power (m : Mod) (t : Nat) : (m.start t).power = m.power := rfl
@[simp] theorem Mod.start_sched (m : Mod) (t : Nat) : (m.start t).sched = m.sched := rfl
@[simp] theorem Mod.start_lanes (m : Mod) (t : Nat) : (m.start t).lanes = m.lanes := rfl
@[simp] theorem Mod.start_newel (m : Mod) (t : Nat) : (m.start t).newel = m.newel := rfl
@[simp] theorem Mod.start_prog (m : Mod) (t : Nat) : (m.start t).prog = m.prog := rfl
@[simp] theorem Mod.start_access (m : Mod) (t : Nat) : (m.start t).access = m.access := rfl
@[simp] theorem Mod.start_pantry (m : Mod) (t : Nat) : (m.start t).pantry = m.pantry := rfl
@[simp] theorem Mod.start_reflex (m : Mod) (t : Nat) : (m.start t).reflex = m.reflex := rfl
@[simp] theorem Mod.start_loops (m : Mod) (t : Nat) : (m.start t).loops = m.loops := rfl
@[simp] theorem Mod.start_wins (m : Mod) (t : Nat) : (m.start t).wins = m.wins := rfl
@[simp] theorem Mod.start_conv (m : Mod) (t : Nat) : (m.start t).conv = m.conv := rfl
@[simp] theorem Mod.start_time (m : Mod) (t : Nat) : (m.start t).time = m.time := rfl
@[simp] theorem Mod.start_bolt (m : Mod) (t : Nat) : (m.start t).bolt = m.bolt := rfl
@[simp] theorem Mod.start_pair (m : Mod) (t : Nat) : (m.start t).pair = m.pair := rfl
@[simp] theorem Mod.start_hall (m : Mod) (t : Nat) : (m.start t).hall = m.hall := rfl
@[simp] theorem Mod.start_card (m : Mod) (t : Nat) : (m.start t).card = m.card := rfl
@[simp] theorem Mod.start_attic (m : Mod) (t : Nat) : (m.start t).attic = m.attic := rfl
@[simp] theorem Mod.start_upd (m : Mod) (t : Nat) : (m.start t).upd = m.upd := rfl
@[simp] theorem Mod.start_test (m : Mod) (t : Nat) : (m.start t).test = m.test := rfl
@[simp] theorem Mod.start_savis (m : Mod) (t : Nat) : (m.start t).savis = m.savis := rfl

@[simp] theorem Mod.quiet_out (m : Mod) :
    (m.quiet).out = [] := rfl
@[simp] theorem Mod.quiet_now (m : Mod) : (m.quiet).now = m.now := rfl
@[simp] theorem Mod.quiet_free (m : Mod) : (m.quiet).free = m.free := rfl
@[simp] theorem Mod.quiet_power (m : Mod) : (m.quiet).power = m.power := rfl
@[simp] theorem Mod.quiet_sched (m : Mod) : (m.quiet).sched = m.sched := rfl
@[simp] theorem Mod.quiet_lanes (m : Mod) : (m.quiet).lanes = m.lanes := rfl
@[simp] theorem Mod.quiet_newel (m : Mod) : (m.quiet).newel = m.newel := rfl
@[simp] theorem Mod.quiet_prog (m : Mod) : (m.quiet).prog = m.prog := rfl
@[simp] theorem Mod.quiet_access (m : Mod) : (m.quiet).access = m.access := rfl
@[simp] theorem Mod.quiet_pantry (m : Mod) : (m.quiet).pantry = m.pantry := rfl
@[simp] theorem Mod.quiet_reflex (m : Mod) : (m.quiet).reflex = m.reflex := rfl
@[simp] theorem Mod.quiet_loops (m : Mod) : (m.quiet).loops = m.loops := rfl
@[simp] theorem Mod.quiet_wins (m : Mod) : (m.quiet).wins = m.wins := rfl
@[simp] theorem Mod.quiet_conv (m : Mod) : (m.quiet).conv = m.conv := rfl
@[simp] theorem Mod.quiet_time (m : Mod) : (m.quiet).time = m.time := rfl
@[simp] theorem Mod.quiet_bolt (m : Mod) : (m.quiet).bolt = m.bolt := rfl
@[simp] theorem Mod.quiet_pair (m : Mod) : (m.quiet).pair = m.pair := rfl
@[simp] theorem Mod.quiet_hall (m : Mod) : (m.quiet).hall = m.hall := rfl
@[simp] theorem Mod.quiet_card (m : Mod) : (m.quiet).card = m.card := rfl
@[simp] theorem Mod.quiet_attic (m : Mod) : (m.quiet).attic = m.attic := rfl
@[simp] theorem Mod.quiet_upd (m : Mod) : (m.quiet).upd = m.upd := rfl
@[simp] theorem Mod.quiet_test (m : Mod) : (m.quiet).test = m.test := rfl
@[simp] theorem Mod.quiet_savis (m : Mod) : (m.quiet).savis = m.savis := rfl

@[simp] theorem Mod.emit_out (m : Mod) (o : Out) :
    (m.emit o).out = m.out ++ [o] := rfl
@[simp] theorem Mod.emit_now (m : Mod) (o : Out) : (m.emit o).now = m.now := rfl
@[simp] theorem Mod.emit_free (m : Mod) (o : Out) : (m.emit o).free = m.free := rfl
@[simp] theorem Mod.emit_power (m : Mod) (o : Out) : (m.emit o).power = m.power := rfl
@[simp] theorem Mod.emit_sched (m : Mod) (o : Out) : (m.emit o).sched = m.sched := rfl
@[simp] theorem Mod.emit_lanes (m : Mod) (o : Out) : (m.emit o).lanes = m.lanes := rfl
@[simp] theorem Mod.emit_newel (m : Mod) (o : Out) : (m.emit o).newel = m.newel := rfl
@[simp] theorem Mod.emit_prog (m : Mod) (o : Out) : (m.emit o).prog = m.prog := rfl
@[simp] theorem Mod.emit_access (m : Mod) (o : Out) : (m.emit o).access = m.access := rfl
@[simp] theorem Mod.emit_pantry (m : Mod) (o : Out) : (m.emit o).pantry = m.pantry := rfl
@[simp] theorem Mod.emit_reflex (m : Mod) (o : Out) : (m.emit o).reflex = m.reflex := rfl
@[simp] theorem Mod.emit_loops (m : Mod) (o : Out) : (m.emit o).loops = m.loops := rfl
@[simp] theorem Mod.emit_wins (m : Mod) (o : Out) : (m.emit o).wins = m.wins := rfl
@[simp] theorem Mod.emit_conv (m : Mod) (o : Out) : (m.emit o).conv = m.conv := rfl
@[simp] theorem Mod.emit_time (m : Mod) (o : Out) : (m.emit o).time = m.time := rfl
@[simp] theorem Mod.emit_bolt (m : Mod) (o : Out) : (m.emit o).bolt = m.bolt := rfl
@[simp] theorem Mod.emit_pair (m : Mod) (o : Out) : (m.emit o).pair = m.pair := rfl
@[simp] theorem Mod.emit_hall (m : Mod) (o : Out) : (m.emit o).hall = m.hall := rfl
@[simp] theorem Mod.emit_card (m : Mod) (o : Out) : (m.emit o).card = m.card := rfl
@[simp] theorem Mod.emit_attic (m : Mod) (o : Out) : (m.emit o).attic = m.attic := rfl
@[simp] theorem Mod.emit_upd (m : Mod) (o : Out) : (m.emit o).upd = m.upd := rfl
@[simp] theorem Mod.emit_test (m : Mod) (o : Out) : (m.emit o).test = m.test := rfl
@[simp] theorem Mod.emit_savis (m : Mod) (o : Out) : (m.emit o).savis = m.savis := rfl

@[simp] theorem Mod.cardQueue_card (m : Mod) (a : Append) :
    (m.cardQueue a).card = { m.card with queue := m.card.queue ++ [a] } := rfl
@[simp] theorem Mod.cardQueue_now (m : Mod) (a : Append) : (m.cardQueue a).now = m.now := rfl
@[simp] theorem Mod.cardQueue_out (m : Mod) (a : Append) : (m.cardQueue a).out = m.out := rfl
@[simp] theorem Mod.cardQueue_free (m : Mod) (a : Append) : (m.cardQueue a).free = m.free := rfl
@[simp] theorem Mod.cardQueue_power (m : Mod) (a : Append) : (m.cardQueue a).power = m.power := rfl
@[simp] theorem Mod.cardQueue_sched (m : Mod) (a : Append) : (m.cardQueue a).sched = m.sched := rfl
@[simp] theorem Mod.cardQueue_lanes (m : Mod) (a : Append) : (m.cardQueue a).lanes = m.lanes := rfl
@[simp] theorem Mod.cardQueue_newel (m : Mod) (a : Append) : (m.cardQueue a).newel = m.newel := rfl
@[simp] theorem Mod.cardQueue_prog (m : Mod) (a : Append) : (m.cardQueue a).prog = m.prog := rfl
@[simp] theorem Mod.cardQueue_access (m : Mod) (a : Append) : (m.cardQueue a).access = m.access := rfl
@[simp] theorem Mod.cardQueue_pantry (m : Mod) (a : Append) : (m.cardQueue a).pantry = m.pantry := rfl
@[simp] theorem Mod.cardQueue_reflex (m : Mod) (a : Append) : (m.cardQueue a).reflex = m.reflex := rfl
@[simp] theorem Mod.cardQueue_loops (m : Mod) (a : Append) : (m.cardQueue a).loops = m.loops := rfl
@[simp] theorem Mod.cardQueue_wins (m : Mod) (a : Append) : (m.cardQueue a).wins = m.wins := rfl
@[simp] theorem Mod.cardQueue_conv (m : Mod) (a : Append) : (m.cardQueue a).conv = m.conv := rfl
@[simp] theorem Mod.cardQueue_time (m : Mod) (a : Append) : (m.cardQueue a).time = m.time := rfl
@[simp] theorem Mod.cardQueue_bolt (m : Mod) (a : Append) : (m.cardQueue a).bolt = m.bolt := rfl
@[simp] theorem Mod.cardQueue_pair (m : Mod) (a : Append) : (m.cardQueue a).pair = m.pair := rfl
@[simp] theorem Mod.cardQueue_hall (m : Mod) (a : Append) : (m.cardQueue a).hall = m.hall := rfl
@[simp] theorem Mod.cardQueue_attic (m : Mod) (a : Append) : (m.cardQueue a).attic = m.attic := rfl
@[simp] theorem Mod.cardQueue_upd (m : Mod) (a : Append) : (m.cardQueue a).upd = m.upd := rfl
@[simp] theorem Mod.cardQueue_test (m : Mod) (a : Append) : (m.cardQueue a).test = m.test := rfl
@[simp] theorem Mod.cardQueue_savis (m : Mod) (a : Append) : (m.cardQueue a).savis = m.savis := rfl

@[simp] theorem Mod.cardAppend_card (m : Mod) (b : JBody) (key : Option (Nat × Nat)) (undo : Option Trim) :
    (m.cardAppend b key undo).card = { m.card with queue := m.card.queue ++ [⟨b, key, undo, false⟩] } := rfl
@[simp] theorem Mod.cardAppend_now (m : Mod) (b : JBody) (key : Option (Nat × Nat)) (undo : Option Trim) : (m.cardAppend b key undo).now = m.now := rfl
@[simp] theorem Mod.cardAppend_out (m : Mod) (b : JBody) (key : Option (Nat × Nat)) (undo : Option Trim) : (m.cardAppend b key undo).out = m.out := rfl
@[simp] theorem Mod.cardAppend_free (m : Mod) (b : JBody) (key : Option (Nat × Nat)) (undo : Option Trim) : (m.cardAppend b key undo).free = m.free := rfl
@[simp] theorem Mod.cardAppend_power (m : Mod) (b : JBody) (key : Option (Nat × Nat)) (undo : Option Trim) : (m.cardAppend b key undo).power = m.power := rfl
@[simp] theorem Mod.cardAppend_sched (m : Mod) (b : JBody) (key : Option (Nat × Nat)) (undo : Option Trim) : (m.cardAppend b key undo).sched = m.sched := rfl
@[simp] theorem Mod.cardAppend_lanes (m : Mod) (b : JBody) (key : Option (Nat × Nat)) (undo : Option Trim) : (m.cardAppend b key undo).lanes = m.lanes := rfl
@[simp] theorem Mod.cardAppend_newel (m : Mod) (b : JBody) (key : Option (Nat × Nat)) (undo : Option Trim) : (m.cardAppend b key undo).newel = m.newel := rfl
@[simp] theorem Mod.cardAppend_prog (m : Mod) (b : JBody) (key : Option (Nat × Nat)) (undo : Option Trim) : (m.cardAppend b key undo).prog = m.prog := rfl
@[simp] theorem Mod.cardAppend_access (m : Mod) (b : JBody) (key : Option (Nat × Nat)) (undo : Option Trim) : (m.cardAppend b key undo).access = m.access := rfl
@[simp] theorem Mod.cardAppend_pantry (m : Mod) (b : JBody) (key : Option (Nat × Nat)) (undo : Option Trim) : (m.cardAppend b key undo).pantry = m.pantry := rfl
@[simp] theorem Mod.cardAppend_reflex (m : Mod) (b : JBody) (key : Option (Nat × Nat)) (undo : Option Trim) : (m.cardAppend b key undo).reflex = m.reflex := rfl
@[simp] theorem Mod.cardAppend_loops (m : Mod) (b : JBody) (key : Option (Nat × Nat)) (undo : Option Trim) : (m.cardAppend b key undo).loops = m.loops := rfl
@[simp] theorem Mod.cardAppend_wins (m : Mod) (b : JBody) (key : Option (Nat × Nat)) (undo : Option Trim) : (m.cardAppend b key undo).wins = m.wins := rfl
@[simp] theorem Mod.cardAppend_conv (m : Mod) (b : JBody) (key : Option (Nat × Nat)) (undo : Option Trim) : (m.cardAppend b key undo).conv = m.conv := rfl
@[simp] theorem Mod.cardAppend_time (m : Mod) (b : JBody) (key : Option (Nat × Nat)) (undo : Option Trim) : (m.cardAppend b key undo).time = m.time := rfl
@[simp] theorem Mod.cardAppend_bolt (m : Mod) (b : JBody) (key : Option (Nat × Nat)) (undo : Option Trim) : (m.cardAppend b key undo).bolt = m.bolt := rfl
@[simp] theorem Mod.cardAppend_pair (m : Mod) (b : JBody) (key : Option (Nat × Nat)) (undo : Option Trim) : (m.cardAppend b key undo).pair = m.pair := rfl
@[simp] theorem Mod.cardAppend_hall (m : Mod) (b : JBody) (key : Option (Nat × Nat)) (undo : Option Trim) : (m.cardAppend b key undo).hall = m.hall := rfl
@[simp] theorem Mod.cardAppend_attic (m : Mod) (b : JBody) (key : Option (Nat × Nat)) (undo : Option Trim) : (m.cardAppend b key undo).attic = m.attic := rfl
@[simp] theorem Mod.cardAppend_upd (m : Mod) (b : JBody) (key : Option (Nat × Nat)) (undo : Option Trim) : (m.cardAppend b key undo).upd = m.upd := rfl
@[simp] theorem Mod.cardAppend_test (m : Mod) (b : JBody) (key : Option (Nat × Nat)) (undo : Option Trim) : (m.cardAppend b key undo).test = m.test := rfl
@[simp] theorem Mod.cardAppend_savis (m : Mod) (b : JBody) (key : Option (Nat × Nat)) (undo : Option Trim) : (m.cardAppend b key undo).savis = m.savis := rfl

@[simp] theorem Mod.setLane_lanes (m : Mod) (x : LaneId) (f : Lane → Lane) :
    (m.setLane x f).lanes = m.lanes.put x (f (m.lanes.get x)) := rfl
@[simp] theorem Mod.setLane_now (m : Mod) (x : LaneId) (f : Lane → Lane) : (m.setLane x f).now = m.now := rfl
@[simp] theorem Mod.setLane_out (m : Mod) (x : LaneId) (f : Lane → Lane) : (m.setLane x f).out = m.out := rfl
@[simp] theorem Mod.setLane_free (m : Mod) (x : LaneId) (f : Lane → Lane) : (m.setLane x f).free = m.free := rfl
@[simp] theorem Mod.setLane_power (m : Mod) (x : LaneId) (f : Lane → Lane) : (m.setLane x f).power = m.power := rfl
@[simp] theorem Mod.setLane_sched (m : Mod) (x : LaneId) (f : Lane → Lane) : (m.setLane x f).sched = m.sched := rfl
@[simp] theorem Mod.setLane_newel (m : Mod) (x : LaneId) (f : Lane → Lane) : (m.setLane x f).newel = m.newel := rfl
@[simp] theorem Mod.setLane_prog (m : Mod) (x : LaneId) (f : Lane → Lane) : (m.setLane x f).prog = m.prog := rfl
@[simp] theorem Mod.setLane_access (m : Mod) (x : LaneId) (f : Lane → Lane) : (m.setLane x f).access = m.access := rfl
@[simp] theorem Mod.setLane_pantry (m : Mod) (x : LaneId) (f : Lane → Lane) : (m.setLane x f).pantry = m.pantry := rfl
@[simp] theorem Mod.setLane_reflex (m : Mod) (x : LaneId) (f : Lane → Lane) : (m.setLane x f).reflex = m.reflex := rfl
@[simp] theorem Mod.setLane_loops (m : Mod) (x : LaneId) (f : Lane → Lane) : (m.setLane x f).loops = m.loops := rfl
@[simp] theorem Mod.setLane_wins (m : Mod) (x : LaneId) (f : Lane → Lane) : (m.setLane x f).wins = m.wins := rfl
@[simp] theorem Mod.setLane_conv (m : Mod) (x : LaneId) (f : Lane → Lane) : (m.setLane x f).conv = m.conv := rfl
@[simp] theorem Mod.setLane_time (m : Mod) (x : LaneId) (f : Lane → Lane) : (m.setLane x f).time = m.time := rfl
@[simp] theorem Mod.setLane_bolt (m : Mod) (x : LaneId) (f : Lane → Lane) : (m.setLane x f).bolt = m.bolt := rfl
@[simp] theorem Mod.setLane_pair (m : Mod) (x : LaneId) (f : Lane → Lane) : (m.setLane x f).pair = m.pair := rfl
@[simp] theorem Mod.setLane_hall (m : Mod) (x : LaneId) (f : Lane → Lane) : (m.setLane x f).hall = m.hall := rfl
@[simp] theorem Mod.setLane_card (m : Mod) (x : LaneId) (f : Lane → Lane) : (m.setLane x f).card = m.card := rfl
@[simp] theorem Mod.setLane_attic (m : Mod) (x : LaneId) (f : Lane → Lane) : (m.setLane x f).attic = m.attic := rfl
@[simp] theorem Mod.setLane_upd (m : Mod) (x : LaneId) (f : Lane → Lane) : (m.setLane x f).upd = m.upd := rfl
@[simp] theorem Mod.setLane_test (m : Mod) (x : LaneId) (f : Lane → Lane) : (m.setLane x f).test = m.test := rfl
@[simp] theorem Mod.setLane_savis (m : Mod) (x : LaneId) (f : Lane → Lane) : (m.setLane x f).savis = m.savis := rfl

@[simp] theorem Mod.allLane_lanes (m : Mod) (f : Lane → Lane) :
    (m.allLane f).lanes = ⟨f m.lanes.a, f m.lanes.b, f m.lanes.c⟩ := rfl
@[simp] theorem Mod.allLane_now (m : Mod) (f : Lane → Lane) : (m.allLane f).now = m.now := rfl
@[simp] theorem Mod.allLane_out (m : Mod) (f : Lane → Lane) : (m.allLane f).out = m.out := rfl
@[simp] theorem Mod.allLane_free (m : Mod) (f : Lane → Lane) : (m.allLane f).free = m.free := rfl
@[simp] theorem Mod.allLane_power (m : Mod) (f : Lane → Lane) : (m.allLane f).power = m.power := rfl
@[simp] theorem Mod.allLane_sched (m : Mod) (f : Lane → Lane) : (m.allLane f).sched = m.sched := rfl
@[simp] theorem Mod.allLane_newel (m : Mod) (f : Lane → Lane) : (m.allLane f).newel = m.newel := rfl
@[simp] theorem Mod.allLane_prog (m : Mod) (f : Lane → Lane) : (m.allLane f).prog = m.prog := rfl
@[simp] theorem Mod.allLane_access (m : Mod) (f : Lane → Lane) : (m.allLane f).access = m.access := rfl
@[simp] theorem Mod.allLane_pantry (m : Mod) (f : Lane → Lane) : (m.allLane f).pantry = m.pantry := rfl
@[simp] theorem Mod.allLane_reflex (m : Mod) (f : Lane → Lane) : (m.allLane f).reflex = m.reflex := rfl
@[simp] theorem Mod.allLane_loops (m : Mod) (f : Lane → Lane) : (m.allLane f).loops = m.loops := rfl
@[simp] theorem Mod.allLane_wins (m : Mod) (f : Lane → Lane) : (m.allLane f).wins = m.wins := rfl
@[simp] theorem Mod.allLane_conv (m : Mod) (f : Lane → Lane) : (m.allLane f).conv = m.conv := rfl
@[simp] theorem Mod.allLane_time (m : Mod) (f : Lane → Lane) : (m.allLane f).time = m.time := rfl
@[simp] theorem Mod.allLane_bolt (m : Mod) (f : Lane → Lane) : (m.allLane f).bolt = m.bolt := rfl
@[simp] theorem Mod.allLane_pair (m : Mod) (f : Lane → Lane) : (m.allLane f).pair = m.pair := rfl
@[simp] theorem Mod.allLane_hall (m : Mod) (f : Lane → Lane) : (m.allLane f).hall = m.hall := rfl
@[simp] theorem Mod.allLane_card (m : Mod) (f : Lane → Lane) : (m.allLane f).card = m.card := rfl
@[simp] theorem Mod.allLane_attic (m : Mod) (f : Lane → Lane) : (m.allLane f).attic = m.attic := rfl
@[simp] theorem Mod.allLane_upd (m : Mod) (f : Lane → Lane) : (m.allLane f).upd = m.upd := rfl
@[simp] theorem Mod.allLane_test (m : Mod) (f : Lane → Lane) : (m.allLane f).test = m.test := rfl
@[simp] theorem Mod.allLane_savis (m : Mod) (f : Lane → Lane) : (m.allLane f).savis = m.savis := rfl

@[simp] theorem Mod.setRun_sched (m : Mod) (c : Nat) (f : ClsRun → ClsRun) :
    (m.setRun c f).sched = { m.sched with runs := tabMod m.sched.runs ClsRun.zero c f } := rfl
@[simp] theorem Mod.setRun_now (m : Mod) (c : Nat) (f : ClsRun → ClsRun) : (m.setRun c f).now = m.now := rfl
@[simp] theorem Mod.setRun_out (m : Mod) (c : Nat) (f : ClsRun → ClsRun) : (m.setRun c f).out = m.out := rfl
@[simp] theorem Mod.setRun_free (m : Mod) (c : Nat) (f : ClsRun → ClsRun) : (m.setRun c f).free = m.free := rfl
@[simp] theorem Mod.setRun_power (m : Mod) (c : Nat) (f : ClsRun → ClsRun) : (m.setRun c f).power = m.power := rfl
@[simp] theorem Mod.setRun_lanes (m : Mod) (c : Nat) (f : ClsRun → ClsRun) : (m.setRun c f).lanes = m.lanes := rfl
@[simp] theorem Mod.setRun_newel (m : Mod) (c : Nat) (f : ClsRun → ClsRun) : (m.setRun c f).newel = m.newel := rfl
@[simp] theorem Mod.setRun_prog (m : Mod) (c : Nat) (f : ClsRun → ClsRun) : (m.setRun c f).prog = m.prog := rfl
@[simp] theorem Mod.setRun_access (m : Mod) (c : Nat) (f : ClsRun → ClsRun) : (m.setRun c f).access = m.access := rfl
@[simp] theorem Mod.setRun_pantry (m : Mod) (c : Nat) (f : ClsRun → ClsRun) : (m.setRun c f).pantry = m.pantry := rfl
@[simp] theorem Mod.setRun_reflex (m : Mod) (c : Nat) (f : ClsRun → ClsRun) : (m.setRun c f).reflex = m.reflex := rfl
@[simp] theorem Mod.setRun_loops (m : Mod) (c : Nat) (f : ClsRun → ClsRun) : (m.setRun c f).loops = m.loops := rfl
@[simp] theorem Mod.setRun_wins (m : Mod) (c : Nat) (f : ClsRun → ClsRun) : (m.setRun c f).wins = m.wins := rfl
@[simp] theorem Mod.setRun_conv (m : Mod) (c : Nat) (f : ClsRun → ClsRun) : (m.setRun c f).conv = m.conv := rfl
@[simp] theorem Mod.setRun_time (m : Mod) (c : Nat) (f : ClsRun → ClsRun) : (m.setRun c f).time = m.time := rfl
@[simp] theorem Mod.setRun_bolt (m : Mod) (c : Nat) (f : ClsRun → ClsRun) : (m.setRun c f).bolt = m.bolt := rfl
@[simp] theorem Mod.setRun_pair (m : Mod) (c : Nat) (f : ClsRun → ClsRun) : (m.setRun c f).pair = m.pair := rfl
@[simp] theorem Mod.setRun_hall (m : Mod) (c : Nat) (f : ClsRun → ClsRun) : (m.setRun c f).hall = m.hall := rfl
@[simp] theorem Mod.setRun_card (m : Mod) (c : Nat) (f : ClsRun → ClsRun) : (m.setRun c f).card = m.card := rfl
@[simp] theorem Mod.setRun_attic (m : Mod) (c : Nat) (f : ClsRun → ClsRun) : (m.setRun c f).attic = m.attic := rfl
@[simp] theorem Mod.setRun_upd (m : Mod) (c : Nat) (f : ClsRun → ClsRun) : (m.setRun c f).upd = m.upd := rfl
@[simp] theorem Mod.setRun_test (m : Mod) (c : Nat) (f : ClsRun → ClsRun) : (m.setRun c f).test = m.test := rfl
@[simp] theorem Mod.setRun_savis (m : Mod) (c : Nat) (f : ClsRun → ClsRun) : (m.setRun c f).savis = m.savis := rfl

@[simp] theorem Mod.reply_now (m : Mod) (session id outcome reason qpos : Nat) (final : Bool) (data : List Byte) : (m.reply session id outcome reason qpos final data).now = m.now := rfl
@[simp] theorem Mod.reply_free (m : Mod) (session id outcome reason qpos : Nat) (final : Bool) (data : List Byte) : (m.reply session id outcome reason qpos final data).free = m.free := rfl
@[simp] theorem Mod.reply_power (m : Mod) (session id outcome reason qpos : Nat) (final : Bool) (data : List Byte) : (m.reply session id outcome reason qpos final data).power = m.power := rfl
@[simp] theorem Mod.reply_sched (m : Mod) (session id outcome reason qpos : Nat) (final : Bool) (data : List Byte) : (m.reply session id outcome reason qpos final data).sched = m.sched := rfl
@[simp] theorem Mod.reply_lanes (m : Mod) (session id outcome reason qpos : Nat) (final : Bool) (data : List Byte) : (m.reply session id outcome reason qpos final data).lanes = m.lanes := rfl
@[simp] theorem Mod.reply_newel (m : Mod) (session id outcome reason qpos : Nat) (final : Bool) (data : List Byte) : (m.reply session id outcome reason qpos final data).newel = m.newel := rfl
@[simp] theorem Mod.reply_prog (m : Mod) (session id outcome reason qpos : Nat) (final : Bool) (data : List Byte) : (m.reply session id outcome reason qpos final data).prog = m.prog := rfl
@[simp] theorem Mod.reply_access (m : Mod) (session id outcome reason qpos : Nat) (final : Bool) (data : List Byte) : (m.reply session id outcome reason qpos final data).access = m.access := rfl
@[simp] theorem Mod.reply_pantry (m : Mod) (session id outcome reason qpos : Nat) (final : Bool) (data : List Byte) : (m.reply session id outcome reason qpos final data).pantry = m.pantry := rfl
@[simp] theorem Mod.reply_reflex (m : Mod) (session id outcome reason qpos : Nat) (final : Bool) (data : List Byte) : (m.reply session id outcome reason qpos final data).reflex = m.reflex := rfl
@[simp] theorem Mod.reply_loops (m : Mod) (session id outcome reason qpos : Nat) (final : Bool) (data : List Byte) : (m.reply session id outcome reason qpos final data).loops = m.loops := rfl
@[simp] theorem Mod.reply_wins (m : Mod) (session id outcome reason qpos : Nat) (final : Bool) (data : List Byte) : (m.reply session id outcome reason qpos final data).wins = m.wins := rfl
@[simp] theorem Mod.reply_conv (m : Mod) (session id outcome reason qpos : Nat) (final : Bool) (data : List Byte) : (m.reply session id outcome reason qpos final data).conv = m.conv := rfl
@[simp] theorem Mod.reply_time (m : Mod) (session id outcome reason qpos : Nat) (final : Bool) (data : List Byte) : (m.reply session id outcome reason qpos final data).time = m.time := rfl
@[simp] theorem Mod.reply_bolt (m : Mod) (session id outcome reason qpos : Nat) (final : Bool) (data : List Byte) : (m.reply session id outcome reason qpos final data).bolt = m.bolt := rfl
@[simp] theorem Mod.reply_pair (m : Mod) (session id outcome reason qpos : Nat) (final : Bool) (data : List Byte) : (m.reply session id outcome reason qpos final data).pair = m.pair := rfl
@[simp] theorem Mod.reply_hall (m : Mod) (session id outcome reason qpos : Nat) (final : Bool) (data : List Byte) : (m.reply session id outcome reason qpos final data).hall = m.hall := rfl
@[simp] theorem Mod.reply_card (m : Mod) (session id outcome reason qpos : Nat) (final : Bool) (data : List Byte) : (m.reply session id outcome reason qpos final data).card = m.card := rfl
@[simp] theorem Mod.reply_attic (m : Mod) (session id outcome reason qpos : Nat) (final : Bool) (data : List Byte) : (m.reply session id outcome reason qpos final data).attic = m.attic := rfl
@[simp] theorem Mod.reply_upd (m : Mod) (session id outcome reason qpos : Nat) (final : Bool) (data : List Byte) : (m.reply session id outcome reason qpos final data).upd = m.upd := rfl
@[simp] theorem Mod.reply_test (m : Mod) (session id outcome reason qpos : Nat) (final : Bool) (data : List Byte) : (m.reply session id outcome reason qpos final data).test = m.test := rfl
@[simp] theorem Mod.reply_savis (m : Mod) (session id outcome reason qpos : Nat) (final : Bool) (data : List Byte) : (m.reply session id outcome reason qpos final data).savis = m.savis := rfl

@[simp] theorem Mod.setReq_now (m : Mod) (key : Nat × Nat) (f : SReq → SReq) : (m.setReq key f).now = m.now := rfl
@[simp] theorem Mod.setReq_out (m : Mod) (key : Nat × Nat) (f : SReq → SReq) : (m.setReq key f).out = m.out := rfl
@[simp] theorem Mod.setReq_free (m : Mod) (key : Nat × Nat) (f : SReq → SReq) : (m.setReq key f).free = m.free := rfl
@[simp] theorem Mod.setReq_power (m : Mod) (key : Nat × Nat) (f : SReq → SReq) : (m.setReq key f).power = m.power := rfl
@[simp] theorem Mod.setReq_sched (m : Mod) (key : Nat × Nat) (f : SReq → SReq) : (m.setReq key f).sched = m.sched := rfl
@[simp] theorem Mod.setReq_lanes (m : Mod) (key : Nat × Nat) (f : SReq → SReq) : (m.setReq key f).lanes = m.lanes := rfl
@[simp] theorem Mod.setReq_newel (m : Mod) (key : Nat × Nat) (f : SReq → SReq) : (m.setReq key f).newel = m.newel := rfl
@[simp] theorem Mod.setReq_prog (m : Mod) (key : Nat × Nat) (f : SReq → SReq) : (m.setReq key f).prog = m.prog := rfl
@[simp] theorem Mod.setReq_access (m : Mod) (key : Nat × Nat) (f : SReq → SReq) : (m.setReq key f).access = m.access := rfl
@[simp] theorem Mod.setReq_pantry (m : Mod) (key : Nat × Nat) (f : SReq → SReq) : (m.setReq key f).pantry = m.pantry := rfl
@[simp] theorem Mod.setReq_reflex (m : Mod) (key : Nat × Nat) (f : SReq → SReq) : (m.setReq key f).reflex = m.reflex := rfl
@[simp] theorem Mod.setReq_loops (m : Mod) (key : Nat × Nat) (f : SReq → SReq) : (m.setReq key f).loops = m.loops := rfl
@[simp] theorem Mod.setReq_wins (m : Mod) (key : Nat × Nat) (f : SReq → SReq) : (m.setReq key f).wins = m.wins := rfl
@[simp] theorem Mod.setReq_conv (m : Mod) (key : Nat × Nat) (f : SReq → SReq) : (m.setReq key f).conv = m.conv := rfl
@[simp] theorem Mod.setReq_time (m : Mod) (key : Nat × Nat) (f : SReq → SReq) : (m.setReq key f).time = m.time := rfl
@[simp] theorem Mod.setReq_bolt (m : Mod) (key : Nat × Nat) (f : SReq → SReq) : (m.setReq key f).bolt = m.bolt := rfl
@[simp] theorem Mod.setReq_pair (m : Mod) (key : Nat × Nat) (f : SReq → SReq) : (m.setReq key f).pair = m.pair := rfl
@[simp] theorem Mod.setReq_hall (m : Mod) (key : Nat × Nat) (f : SReq → SReq) : (m.setReq key f).hall = m.hall := rfl
@[simp] theorem Mod.setReq_card (m : Mod) (key : Nat × Nat) (f : SReq → SReq) : (m.setReq key f).card = m.card := rfl
@[simp] theorem Mod.setReq_attic (m : Mod) (key : Nat × Nat) (f : SReq → SReq) : (m.setReq key f).attic = m.attic := rfl
@[simp] theorem Mod.setReq_upd (m : Mod) (key : Nat × Nat) (f : SReq → SReq) : (m.setReq key f).upd = m.upd := rfl
@[simp] theorem Mod.setReq_test (m : Mod) (key : Nat × Nat) (f : SReq → SReq) : (m.setReq key f).test = m.test := rfl

@[simp] theorem Mod.setLoop_loops (m : Mod) (c : Nat) (f : Loop → Loop) :
    (m.setLoop c f).loops = tabMod m.loops Loop.zero c f := rfl
@[simp] theorem Mod.setLoop_now (m : Mod) (c : Nat) (f : Loop → Loop) : (m.setLoop c f).now = m.now := rfl
@[simp] theorem Mod.setLoop_out (m : Mod) (c : Nat) (f : Loop → Loop) : (m.setLoop c f).out = m.out := rfl
@[simp] theorem Mod.setLoop_free (m : Mod) (c : Nat) (f : Loop → Loop) : (m.setLoop c f).free = m.free := rfl
@[simp] theorem Mod.setLoop_power (m : Mod) (c : Nat) (f : Loop → Loop) : (m.setLoop c f).power = m.power := rfl
@[simp] theorem Mod.setLoop_sched (m : Mod) (c : Nat) (f : Loop → Loop) : (m.setLoop c f).sched = m.sched := rfl
@[simp] theorem Mod.setLoop_lanes (m : Mod) (c : Nat) (f : Loop → Loop) : (m.setLoop c f).lanes = m.lanes := rfl
@[simp] theorem Mod.setLoop_newel (m : Mod) (c : Nat) (f : Loop → Loop) : (m.setLoop c f).newel = m.newel := rfl
@[simp] theorem Mod.setLoop_prog (m : Mod) (c : Nat) (f : Loop → Loop) : (m.setLoop c f).prog = m.prog := rfl
@[simp] theorem Mod.setLoop_access (m : Mod) (c : Nat) (f : Loop → Loop) : (m.setLoop c f).access = m.access := rfl
@[simp] theorem Mod.setLoop_pantry (m : Mod) (c : Nat) (f : Loop → Loop) : (m.setLoop c f).pantry = m.pantry := rfl
@[simp] theorem Mod.setLoop_reflex (m : Mod) (c : Nat) (f : Loop → Loop) : (m.setLoop c f).reflex = m.reflex := rfl
@[simp] theorem Mod.setLoop_wins (m : Mod) (c : Nat) (f : Loop → Loop) : (m.setLoop c f).wins = m.wins := rfl
@[simp] theorem Mod.setLoop_conv (m : Mod) (c : Nat) (f : Loop → Loop) : (m.setLoop c f).conv = m.conv := rfl
@[simp] theorem Mod.setLoop_time (m : Mod) (c : Nat) (f : Loop → Loop) : (m.setLoop c f).time = m.time := rfl
@[simp] theorem Mod.setLoop_bolt (m : Mod) (c : Nat) (f : Loop → Loop) : (m.setLoop c f).bolt = m.bolt := rfl
@[simp] theorem Mod.setLoop_pair (m : Mod) (c : Nat) (f : Loop → Loop) : (m.setLoop c f).pair = m.pair := rfl
@[simp] theorem Mod.setLoop_hall (m : Mod) (c : Nat) (f : Loop → Loop) : (m.setLoop c f).hall = m.hall := rfl
@[simp] theorem Mod.setLoop_card (m : Mod) (c : Nat) (f : Loop → Loop) : (m.setLoop c f).card = m.card := rfl
@[simp] theorem Mod.setLoop_attic (m : Mod) (c : Nat) (f : Loop → Loop) : (m.setLoop c f).attic = m.attic := rfl
@[simp] theorem Mod.setLoop_upd (m : Mod) (c : Nat) (f : Loop → Loop) : (m.setLoop c f).upd = m.upd := rfl
@[simp] theorem Mod.setLoop_test (m : Mod) (c : Nat) (f : Loop → Loop) : (m.setLoop c f).test = m.test := rfl
@[simp] theorem Mod.setLoop_savis (m : Mod) (c : Nat) (f : Loop → Loop) : (m.setLoop c f).savis = m.savis := rfl

@[simp] theorem Mod.putView_now (m : Mod) (e : EngRef) (v : View) (cost : Nat) (retired : Bool) : (m.putView e v cost retired).now = m.now := rfl
@[simp] theorem Mod.putView_out (m : Mod) (e : EngRef) (v : View) (cost : Nat) (retired : Bool) : (m.putView e v cost retired).out = m.out := rfl
@[simp] theorem Mod.putView_free (m : Mod) (e : EngRef) (v : View) (cost : Nat) (retired : Bool) : (m.putView e v cost retired).free = m.free := rfl
@[simp] theorem Mod.putView_power (m : Mod) (e : EngRef) (v : View) (cost : Nat) (retired : Bool) : (m.putView e v cost retired).power = m.power := rfl
@[simp] theorem Mod.putView_sched (m : Mod) (e : EngRef) (v : View) (cost : Nat) (retired : Bool) : (m.putView e v cost retired).sched = m.sched := rfl
@[simp] theorem Mod.putView_newel (m : Mod) (e : EngRef) (v : View) (cost : Nat) (retired : Bool) : (m.putView e v cost retired).newel = m.newel := rfl
@[simp] theorem Mod.putView_prog (m : Mod) (e : EngRef) (v : View) (cost : Nat) (retired : Bool) : (m.putView e v cost retired).prog = m.prog := rfl
@[simp] theorem Mod.putView_access (m : Mod) (e : EngRef) (v : View) (cost : Nat) (retired : Bool) : (m.putView e v cost retired).access = m.access := rfl
@[simp] theorem Mod.putView_pantry (m : Mod) (e : EngRef) (v : View) (cost : Nat) (retired : Bool) : (m.putView e v cost retired).pantry = m.pantry := rfl
@[simp] theorem Mod.putView_reflex (m : Mod) (e : EngRef) (v : View) (cost : Nat) (retired : Bool) : (m.putView e v cost retired).reflex = m.reflex := rfl
@[simp] theorem Mod.putView_loops (m : Mod) (e : EngRef) (v : View) (cost : Nat) (retired : Bool) : (m.putView e v cost retired).loops = m.loops := rfl
@[simp] theorem Mod.putView_wins (m : Mod) (e : EngRef) (v : View) (cost : Nat) (retired : Bool) : (m.putView e v cost retired).wins = m.wins := rfl
@[simp] theorem Mod.putView_conv (m : Mod) (e : EngRef) (v : View) (cost : Nat) (retired : Bool) : (m.putView e v cost retired).conv = m.conv := rfl
@[simp] theorem Mod.putView_time (m : Mod) (e : EngRef) (v : View) (cost : Nat) (retired : Bool) : (m.putView e v cost retired).time = m.time := rfl
@[simp] theorem Mod.putView_bolt (m : Mod) (e : EngRef) (v : View) (cost : Nat) (retired : Bool) : (m.putView e v cost retired).bolt = m.bolt := rfl
@[simp] theorem Mod.putView_pair (m : Mod) (e : EngRef) (v : View) (cost : Nat) (retired : Bool) : (m.putView e v cost retired).pair = m.pair := rfl
@[simp] theorem Mod.putView_hall (m : Mod) (e : EngRef) (v : View) (cost : Nat) (retired : Bool) : (m.putView e v cost retired).hall = m.hall := rfl
@[simp] theorem Mod.putView_card (m : Mod) (e : EngRef) (v : View) (cost : Nat) (retired : Bool) : (m.putView e v cost retired).card = m.card := rfl
@[simp] theorem Mod.putView_attic (m : Mod) (e : EngRef) (v : View) (cost : Nat) (retired : Bool) : (m.putView e v cost retired).attic = m.attic := rfl
@[simp] theorem Mod.putView_upd (m : Mod) (e : EngRef) (v : View) (cost : Nat) (retired : Bool) : (m.putView e v cost retired).upd = m.upd := rfl
@[simp] theorem Mod.putView_test (m : Mod) (e : EngRef) (v : View) (cost : Nat) (retired : Bool) : (m.putView e v cost retired).test = m.test := rfl
@[simp] theorem Mod.putView_savis (m : Mod) (e : EngRef) (v : View) (cost : Nat) (retired : Bool) : (m.putView e v cost retired).savis = m.savis := rfl

@[simp] theorem Mod.reflexNow_reflex (m : Mod) :
    (m.reflexNow).reflex = m.reflex.sync m.now := rfl
@[simp] theorem Mod.reflexNow_now (m : Mod) : (m.reflexNow).now = m.now := rfl
@[simp] theorem Mod.reflexNow_out (m : Mod) : (m.reflexNow).out = m.out := rfl
@[simp] theorem Mod.reflexNow_free (m : Mod) : (m.reflexNow).free = m.free := rfl
@[simp] theorem Mod.reflexNow_power (m : Mod) : (m.reflexNow).power = m.power := rfl
@[simp] theorem Mod.reflexNow_sched (m : Mod) : (m.reflexNow).sched = m.sched := rfl
@[simp] theorem Mod.reflexNow_lanes (m : Mod) : (m.reflexNow).lanes = m.lanes := rfl
@[simp] theorem Mod.reflexNow_newel (m : Mod) : (m.reflexNow).newel = m.newel := rfl
@[simp] theorem Mod.reflexNow_prog (m : Mod) : (m.reflexNow).prog = m.prog := rfl
@[simp] theorem Mod.reflexNow_access (m : Mod) : (m.reflexNow).access = m.access := rfl
@[simp] theorem Mod.reflexNow_pantry (m : Mod) : (m.reflexNow).pantry = m.pantry := rfl
@[simp] theorem Mod.reflexNow_loops (m : Mod) : (m.reflexNow).loops = m.loops := rfl
@[simp] theorem Mod.reflexNow_wins (m : Mod) : (m.reflexNow).wins = m.wins := rfl
@[simp] theorem Mod.reflexNow_conv (m : Mod) : (m.reflexNow).conv = m.conv := rfl
@[simp] theorem Mod.reflexNow_time (m : Mod) : (m.reflexNow).time = m.time := rfl
@[simp] theorem Mod.reflexNow_bolt (m : Mod) : (m.reflexNow).bolt = m.bolt := rfl
@[simp] theorem Mod.reflexNow_pair (m : Mod) : (m.reflexNow).pair = m.pair := rfl
@[simp] theorem Mod.reflexNow_hall (m : Mod) : (m.reflexNow).hall = m.hall := rfl
@[simp] theorem Mod.reflexNow_card (m : Mod) : (m.reflexNow).card = m.card := rfl
@[simp] theorem Mod.reflexNow_attic (m : Mod) : (m.reflexNow).attic = m.attic := rfl
@[simp] theorem Mod.reflexNow_upd (m : Mod) : (m.reflexNow).upd = m.upd := rfl
@[simp] theorem Mod.reflexNow_test (m : Mod) : (m.reflexNow).test = m.test := rfl
@[simp] theorem Mod.reflexNow_savis (m : Mod) : (m.reflexNow).savis = m.savis := rfl

@[simp] theorem Mod.setStn_pantry (m : Mod) (n : Nat) (f : Stn → Stn) :
    (m.setStn n f).pantry = { m.pantry with stns := tabMod m.pantry.stns Stn.zero n f } := rfl
@[simp] theorem Mod.setStn_now (m : Mod) (n : Nat) (f : Stn → Stn) : (m.setStn n f).now = m.now := rfl
@[simp] theorem Mod.setStn_out (m : Mod) (n : Nat) (f : Stn → Stn) : (m.setStn n f).out = m.out := rfl
@[simp] theorem Mod.setStn_free (m : Mod) (n : Nat) (f : Stn → Stn) : (m.setStn n f).free = m.free := rfl
@[simp] theorem Mod.setStn_power (m : Mod) (n : Nat) (f : Stn → Stn) : (m.setStn n f).power = m.power := rfl
@[simp] theorem Mod.setStn_sched (m : Mod) (n : Nat) (f : Stn → Stn) : (m.setStn n f).sched = m.sched := rfl
@[simp] theorem Mod.setStn_lanes (m : Mod) (n : Nat) (f : Stn → Stn) : (m.setStn n f).lanes = m.lanes := rfl
@[simp] theorem Mod.setStn_newel (m : Mod) (n : Nat) (f : Stn → Stn) : (m.setStn n f).newel = m.newel := rfl
@[simp] theorem Mod.setStn_prog (m : Mod) (n : Nat) (f : Stn → Stn) : (m.setStn n f).prog = m.prog := rfl
@[simp] theorem Mod.setStn_access (m : Mod) (n : Nat) (f : Stn → Stn) : (m.setStn n f).access = m.access := rfl
@[simp] theorem Mod.setStn_reflex (m : Mod) (n : Nat) (f : Stn → Stn) : (m.setStn n f).reflex = m.reflex := rfl
@[simp] theorem Mod.setStn_loops (m : Mod) (n : Nat) (f : Stn → Stn) : (m.setStn n f).loops = m.loops := rfl
@[simp] theorem Mod.setStn_wins (m : Mod) (n : Nat) (f : Stn → Stn) : (m.setStn n f).wins = m.wins := rfl
@[simp] theorem Mod.setStn_conv (m : Mod) (n : Nat) (f : Stn → Stn) : (m.setStn n f).conv = m.conv := rfl
@[simp] theorem Mod.setStn_time (m : Mod) (n : Nat) (f : Stn → Stn) : (m.setStn n f).time = m.time := rfl
@[simp] theorem Mod.setStn_bolt (m : Mod) (n : Nat) (f : Stn → Stn) : (m.setStn n f).bolt = m.bolt := rfl
@[simp] theorem Mod.setStn_pair (m : Mod) (n : Nat) (f : Stn → Stn) : (m.setStn n f).pair = m.pair := rfl
@[simp] theorem Mod.setStn_hall (m : Mod) (n : Nat) (f : Stn → Stn) : (m.setStn n f).hall = m.hall := rfl
@[simp] theorem Mod.setStn_card (m : Mod) (n : Nat) (f : Stn → Stn) : (m.setStn n f).card = m.card := rfl
@[simp] theorem Mod.setStn_attic (m : Mod) (n : Nat) (f : Stn → Stn) : (m.setStn n f).attic = m.attic := rfl
@[simp] theorem Mod.setStn_upd (m : Mod) (n : Nat) (f : Stn → Stn) : (m.setStn n f).upd = m.upd := rfl
@[simp] theorem Mod.setStn_test (m : Mod) (n : Nat) (f : Stn → Stn) : (m.setStn n f).test = m.test := rfl
@[simp] theorem Mod.setStn_savis (m : Mod) (n : Nat) (f : Stn → Stn) : (m.setStn n f).savis = m.savis := rfl

@[simp] theorem Mod.setPort_pantry (m : Mod) (p : Nat) (f : Port → Port) :
    (m.setPort p f).pantry = { m.pantry with ports := tabMod m.pantry.ports Port.zero p f } := rfl
@[simp] theorem Mod.setPort_now (m : Mod) (p : Nat) (f : Port → Port) : (m.setPort p f).now = m.now := rfl
@[simp] theorem Mod.setPort_out (m : Mod) (p : Nat) (f : Port → Port) : (m.setPort p f).out = m.out := rfl
@[simp] theorem Mod.setPort_free (m : Mod) (p : Nat) (f : Port → Port) : (m.setPort p f).free = m.free := rfl
@[simp] theorem Mod.setPort_power (m : Mod) (p : Nat) (f : Port → Port) : (m.setPort p f).power = m.power := rfl
@[simp] theorem Mod.setPort_sched (m : Mod) (p : Nat) (f : Port → Port) : (m.setPort p f).sched = m.sched := rfl
@[simp] theorem Mod.setPort_lanes (m : Mod) (p : Nat) (f : Port → Port) : (m.setPort p f).lanes = m.lanes := rfl
@[simp] theorem Mod.setPort_newel (m : Mod) (p : Nat) (f : Port → Port) : (m.setPort p f).newel = m.newel := rfl
@[simp] theorem Mod.setPort_prog (m : Mod) (p : Nat) (f : Port → Port) : (m.setPort p f).prog = m.prog := rfl
@[simp] theorem Mod.setPort_access (m : Mod) (p : Nat) (f : Port → Port) : (m.setPort p f).access = m.access := rfl
@[simp] theorem Mod.setPort_reflex (m : Mod) (p : Nat) (f : Port → Port) : (m.setPort p f).reflex = m.reflex := rfl
@[simp] theorem Mod.setPort_loops (m : Mod) (p : Nat) (f : Port → Port) : (m.setPort p f).loops = m.loops := rfl
@[simp] theorem Mod.setPort_wins (m : Mod) (p : Nat) (f : Port → Port) : (m.setPort p f).wins = m.wins := rfl
@[simp] theorem Mod.setPort_conv (m : Mod) (p : Nat) (f : Port → Port) : (m.setPort p f).conv = m.conv := rfl
@[simp] theorem Mod.setPort_time (m : Mod) (p : Nat) (f : Port → Port) : (m.setPort p f).time = m.time := rfl
@[simp] theorem Mod.setPort_bolt (m : Mod) (p : Nat) (f : Port → Port) : (m.setPort p f).bolt = m.bolt := rfl
@[simp] theorem Mod.setPort_pair (m : Mod) (p : Nat) (f : Port → Port) : (m.setPort p f).pair = m.pair := rfl
@[simp] theorem Mod.setPort_hall (m : Mod) (p : Nat) (f : Port → Port) : (m.setPort p f).hall = m.hall := rfl
@[simp] theorem Mod.setPort_card (m : Mod) (p : Nat) (f : Port → Port) : (m.setPort p f).card = m.card := rfl
@[simp] theorem Mod.setPort_attic (m : Mod) (p : Nat) (f : Port → Port) : (m.setPort p f).attic = m.attic := rfl
@[simp] theorem Mod.setPort_upd (m : Mod) (p : Nat) (f : Port → Port) : (m.setPort p f).upd = m.upd := rfl
@[simp] theorem Mod.setPort_test (m : Mod) (p : Nat) (f : Port → Port) : (m.setPort p f).test = m.test := rfl
@[simp] theorem Mod.setPort_savis (m : Mod) (p : Nat) (f : Port → Port) : (m.setPort p f).savis = m.savis := rfl

@[simp] theorem Mod.setPower_now (m : Mod) (k : Nat) (on : Bool) : (m.setPower k on).now = m.now := rfl
@[simp] theorem Mod.setPower_out (m : Mod) (k : Nat) (on : Bool) : (m.setPower k on).out = m.out := rfl
@[simp] theorem Mod.setPower_free (m : Mod) (k : Nat) (on : Bool) : (m.setPower k on).free = m.free := rfl
@[simp] theorem Mod.setPower_sched (m : Mod) (k : Nat) (on : Bool) : (m.setPower k on).sched = m.sched := rfl
@[simp] theorem Mod.setPower_lanes (m : Mod) (k : Nat) (on : Bool) : (m.setPower k on).lanes = m.lanes := rfl
@[simp] theorem Mod.setPower_newel (m : Mod) (k : Nat) (on : Bool) : (m.setPower k on).newel = m.newel := rfl
@[simp] theorem Mod.setPower_prog (m : Mod) (k : Nat) (on : Bool) : (m.setPower k on).prog = m.prog := rfl
@[simp] theorem Mod.setPower_access (m : Mod) (k : Nat) (on : Bool) : (m.setPower k on).access = m.access := rfl
@[simp] theorem Mod.setPower_pantry (m : Mod) (k : Nat) (on : Bool) : (m.setPower k on).pantry = m.pantry := rfl
@[simp] theorem Mod.setPower_reflex (m : Mod) (k : Nat) (on : Bool) : (m.setPower k on).reflex = m.reflex := rfl
@[simp] theorem Mod.setPower_loops (m : Mod) (k : Nat) (on : Bool) : (m.setPower k on).loops = m.loops := rfl
@[simp] theorem Mod.setPower_wins (m : Mod) (k : Nat) (on : Bool) : (m.setPower k on).wins = m.wins := rfl
@[simp] theorem Mod.setPower_conv (m : Mod) (k : Nat) (on : Bool) : (m.setPower k on).conv = m.conv := rfl
@[simp] theorem Mod.setPower_time (m : Mod) (k : Nat) (on : Bool) : (m.setPower k on).time = m.time := rfl
@[simp] theorem Mod.setPower_bolt (m : Mod) (k : Nat) (on : Bool) : (m.setPower k on).bolt = m.bolt := rfl
@[simp] theorem Mod.setPower_pair (m : Mod) (k : Nat) (on : Bool) : (m.setPower k on).pair = m.pair := rfl
@[simp] theorem Mod.setPower_hall (m : Mod) (k : Nat) (on : Bool) : (m.setPower k on).hall = m.hall := rfl
@[simp] theorem Mod.setPower_card (m : Mod) (k : Nat) (on : Bool) : (m.setPower k on).card = m.card := rfl
@[simp] theorem Mod.setPower_attic (m : Mod) (k : Nat) (on : Bool) : (m.setPower k on).attic = m.attic := rfl
@[simp] theorem Mod.setPower_upd (m : Mod) (k : Nat) (on : Bool) : (m.setPower k on).upd = m.upd := rfl
@[simp] theorem Mod.setPower_test (m : Mod) (k : Nat) (on : Bool) : (m.setPower k on).test = m.test := rfl
@[simp] theorem Mod.setPower_savis (m : Mod) (k : Nat) (on : Bool) : (m.setPower k on).savis = m.savis := rfl

@[simp] theorem Mod.toRole_now (m : Mod) (r : Role) (cause : Nat) : (m.toRole r cause).now = m.now := rfl
@[simp] theorem Mod.toRole_out (m : Mod) (r : Role) (cause : Nat) : (m.toRole r cause).out = m.out := rfl
@[simp] theorem Mod.toRole_free (m : Mod) (r : Role) (cause : Nat) : (m.toRole r cause).free = m.free := rfl
@[simp] theorem Mod.toRole_power (m : Mod) (r : Role) (cause : Nat) : (m.toRole r cause).power = m.power := rfl
@[simp] theorem Mod.toRole_sched (m : Mod) (r : Role) (cause : Nat) : (m.toRole r cause).sched = m.sched := rfl
@[simp] theorem Mod.toRole_lanes (m : Mod) (r : Role) (cause : Nat) : (m.toRole r cause).lanes = m.lanes := rfl
@[simp] theorem Mod.toRole_newel (m : Mod) (r : Role) (cause : Nat) : (m.toRole r cause).newel = m.newel := rfl
@[simp] theorem Mod.toRole_prog (m : Mod) (r : Role) (cause : Nat) : (m.toRole r cause).prog = m.prog := rfl
@[simp] theorem Mod.toRole_access (m : Mod) (r : Role) (cause : Nat) : (m.toRole r cause).access = m.access := rfl
@[simp] theorem Mod.toRole_pantry (m : Mod) (r : Role) (cause : Nat) : (m.toRole r cause).pantry = m.pantry := rfl
@[simp] theorem Mod.toRole_reflex (m : Mod) (r : Role) (cause : Nat) : (m.toRole r cause).reflex = m.reflex := rfl
@[simp] theorem Mod.toRole_loops (m : Mod) (r : Role) (cause : Nat) : (m.toRole r cause).loops = m.loops := rfl
@[simp] theorem Mod.toRole_wins (m : Mod) (r : Role) (cause : Nat) : (m.toRole r cause).wins = m.wins := rfl
@[simp] theorem Mod.toRole_conv (m : Mod) (r : Role) (cause : Nat) : (m.toRole r cause).conv = m.conv := rfl
@[simp] theorem Mod.toRole_time (m : Mod) (r : Role) (cause : Nat) : (m.toRole r cause).time = m.time := rfl
@[simp] theorem Mod.toRole_bolt (m : Mod) (r : Role) (cause : Nat) : (m.toRole r cause).bolt = m.bolt := rfl
@[simp] theorem Mod.toRole_hall (m : Mod) (r : Role) (cause : Nat) : (m.toRole r cause).hall = m.hall := rfl
@[simp] theorem Mod.toRole_card (m : Mod) (r : Role) (cause : Nat) : (m.toRole r cause).card = m.card := rfl
@[simp] theorem Mod.toRole_attic (m : Mod) (r : Role) (cause : Nat) : (m.toRole r cause).attic = m.attic := rfl
@[simp] theorem Mod.toRole_upd (m : Mod) (r : Role) (cause : Nat) : (m.toRole r cause).upd = m.upd := rfl
@[simp] theorem Mod.toRole_test (m : Mod) (r : Role) (cause : Nat) : (m.toRole r cause).test = m.test := rfl
@[simp] theorem Mod.toRole_savis (m : Mod) (r : Role) (cause : Nat) : (m.toRole r cause).savis = m.savis := rfl

@[simp] theorem Mod.clearPermit_bolt (m : Mod) :
    (m.clearPermit).bolt = { m.bolt with permit := false, liveSelf := false, armed := false, ownSelf := false, raisedAt := none } := rfl
@[simp] theorem Mod.clearPermit_now (m : Mod) : (m.clearPermit).now = m.now := rfl
@[simp] theorem Mod.clearPermit_out (m : Mod) : (m.clearPermit).out = m.out := rfl
@[simp] theorem Mod.clearPermit_free (m : Mod) : (m.clearPermit).free = m.free := rfl
@[simp] theorem Mod.clearPermit_power (m : Mod) : (m.clearPermit).power = m.power := rfl
@[simp] theorem Mod.clearPermit_sched (m : Mod) : (m.clearPermit).sched = m.sched := rfl
@[simp] theorem Mod.clearPermit_lanes (m : Mod) : (m.clearPermit).lanes = m.lanes := rfl
@[simp] theorem Mod.clearPermit_newel (m : Mod) : (m.clearPermit).newel = m.newel := rfl
@[simp] theorem Mod.clearPermit_prog (m : Mod) : (m.clearPermit).prog = m.prog := rfl
@[simp] theorem Mod.clearPermit_access (m : Mod) : (m.clearPermit).access = m.access := rfl
@[simp] theorem Mod.clearPermit_pantry (m : Mod) : (m.clearPermit).pantry = m.pantry := rfl
@[simp] theorem Mod.clearPermit_reflex (m : Mod) : (m.clearPermit).reflex = m.reflex := rfl
@[simp] theorem Mod.clearPermit_loops (m : Mod) : (m.clearPermit).loops = m.loops := rfl
@[simp] theorem Mod.clearPermit_wins (m : Mod) : (m.clearPermit).wins = m.wins := rfl
@[simp] theorem Mod.clearPermit_conv (m : Mod) : (m.clearPermit).conv = m.conv := rfl
@[simp] theorem Mod.clearPermit_time (m : Mod) : (m.clearPermit).time = m.time := rfl
@[simp] theorem Mod.clearPermit_pair (m : Mod) : (m.clearPermit).pair = m.pair := rfl
@[simp] theorem Mod.clearPermit_hall (m : Mod) : (m.clearPermit).hall = m.hall := rfl
@[simp] theorem Mod.clearPermit_card (m : Mod) : (m.clearPermit).card = m.card := rfl
@[simp] theorem Mod.clearPermit_attic (m : Mod) : (m.clearPermit).attic = m.attic := rfl
@[simp] theorem Mod.clearPermit_upd (m : Mod) : (m.clearPermit).upd = m.upd := rfl
@[simp] theorem Mod.clearPermit_test (m : Mod) : (m.clearPermit).test = m.test := rfl
@[simp] theorem Mod.clearPermit_savis (m : Mod) : (m.clearPermit).savis = m.savis := rfl

@[simp] theorem Mod.setCal_time (m : Mod) (u : Nat) :
    (m.setCal u).time = { m.time with cal := { m.time.cal with base := m.lt, val := u } } := rfl
@[simp] theorem Mod.setCal_now (m : Mod) (u : Nat) : (m.setCal u).now = m.now := rfl
@[simp] theorem Mod.setCal_out (m : Mod) (u : Nat) : (m.setCal u).out = m.out := rfl
@[simp] theorem Mod.setCal_free (m : Mod) (u : Nat) : (m.setCal u).free = m.free := rfl
@[simp] theorem Mod.setCal_power (m : Mod) (u : Nat) : (m.setCal u).power = m.power := rfl
@[simp] theorem Mod.setCal_sched (m : Mod) (u : Nat) : (m.setCal u).sched = m.sched := rfl
@[simp] theorem Mod.setCal_lanes (m : Mod) (u : Nat) : (m.setCal u).lanes = m.lanes := rfl
@[simp] theorem Mod.setCal_newel (m : Mod) (u : Nat) : (m.setCal u).newel = m.newel := rfl
@[simp] theorem Mod.setCal_prog (m : Mod) (u : Nat) : (m.setCal u).prog = m.prog := rfl
@[simp] theorem Mod.setCal_access (m : Mod) (u : Nat) : (m.setCal u).access = m.access := rfl
@[simp] theorem Mod.setCal_pantry (m : Mod) (u : Nat) : (m.setCal u).pantry = m.pantry := rfl
@[simp] theorem Mod.setCal_reflex (m : Mod) (u : Nat) : (m.setCal u).reflex = m.reflex := rfl
@[simp] theorem Mod.setCal_loops (m : Mod) (u : Nat) : (m.setCal u).loops = m.loops := rfl
@[simp] theorem Mod.setCal_wins (m : Mod) (u : Nat) : (m.setCal u).wins = m.wins := rfl
@[simp] theorem Mod.setCal_conv (m : Mod) (u : Nat) : (m.setCal u).conv = m.conv := rfl
@[simp] theorem Mod.setCal_bolt (m : Mod) (u : Nat) : (m.setCal u).bolt = m.bolt := rfl
@[simp] theorem Mod.setCal_pair (m : Mod) (u : Nat) : (m.setCal u).pair = m.pair := rfl
@[simp] theorem Mod.setCal_hall (m : Mod) (u : Nat) : (m.setCal u).hall = m.hall := rfl
@[simp] theorem Mod.setCal_card (m : Mod) (u : Nat) : (m.setCal u).card = m.card := rfl
@[simp] theorem Mod.setCal_attic (m : Mod) (u : Nat) : (m.setCal u).attic = m.attic := rfl
@[simp] theorem Mod.setCal_upd (m : Mod) (u : Nat) : (m.setCal u).upd = m.upd := rfl
@[simp] theorem Mod.setCal_test (m : Mod) (u : Nat) : (m.setCal u).test = m.test := rfl
@[simp] theorem Mod.setCal_savis (m : Mod) (u : Nat) : (m.setCal u).savis = m.savis := rfl

@[simp] theorem Mod.setPortTime_time (m : Mod) (p : Nat) (f : PortTime → PortTime) :
    (m.setPortTime p f).time = { m.time with ports := tabMod m.time.ports PortTime.zero p f } := rfl
@[simp] theorem Mod.setPortTime_now (m : Mod) (p : Nat) (f : PortTime → PortTime) : (m.setPortTime p f).now = m.now := rfl
@[simp] theorem Mod.setPortTime_out (m : Mod) (p : Nat) (f : PortTime → PortTime) : (m.setPortTime p f).out = m.out := rfl
@[simp] theorem Mod.setPortTime_free (m : Mod) (p : Nat) (f : PortTime → PortTime) : (m.setPortTime p f).free = m.free := rfl
@[simp] theorem Mod.setPortTime_power (m : Mod) (p : Nat) (f : PortTime → PortTime) : (m.setPortTime p f).power = m.power := rfl
@[simp] theorem Mod.setPortTime_sched (m : Mod) (p : Nat) (f : PortTime → PortTime) : (m.setPortTime p f).sched = m.sched := rfl
@[simp] theorem Mod.setPortTime_lanes (m : Mod) (p : Nat) (f : PortTime → PortTime) : (m.setPortTime p f).lanes = m.lanes := rfl
@[simp] theorem Mod.setPortTime_newel (m : Mod) (p : Nat) (f : PortTime → PortTime) : (m.setPortTime p f).newel = m.newel := rfl
@[simp] theorem Mod.setPortTime_prog (m : Mod) (p : Nat) (f : PortTime → PortTime) : (m.setPortTime p f).prog = m.prog := rfl
@[simp] theorem Mod.setPortTime_access (m : Mod) (p : Nat) (f : PortTime → PortTime) : (m.setPortTime p f).access = m.access := rfl
@[simp] theorem Mod.setPortTime_pantry (m : Mod) (p : Nat) (f : PortTime → PortTime) : (m.setPortTime p f).pantry = m.pantry := rfl
@[simp] theorem Mod.setPortTime_reflex (m : Mod) (p : Nat) (f : PortTime → PortTime) : (m.setPortTime p f).reflex = m.reflex := rfl
@[simp] theorem Mod.setPortTime_loops (m : Mod) (p : Nat) (f : PortTime → PortTime) : (m.setPortTime p f).loops = m.loops := rfl
@[simp] theorem Mod.setPortTime_wins (m : Mod) (p : Nat) (f : PortTime → PortTime) : (m.setPortTime p f).wins = m.wins := rfl
@[simp] theorem Mod.setPortTime_conv (m : Mod) (p : Nat) (f : PortTime → PortTime) : (m.setPortTime p f).conv = m.conv := rfl
@[simp] theorem Mod.setPortTime_bolt (m : Mod) (p : Nat) (f : PortTime → PortTime) : (m.setPortTime p f).bolt = m.bolt := rfl
@[simp] theorem Mod.setPortTime_pair (m : Mod) (p : Nat) (f : PortTime → PortTime) : (m.setPortTime p f).pair = m.pair := rfl
@[simp] theorem Mod.setPortTime_hall (m : Mod) (p : Nat) (f : PortTime → PortTime) : (m.setPortTime p f).hall = m.hall := rfl
@[simp] theorem Mod.setPortTime_card (m : Mod) (p : Nat) (f : PortTime → PortTime) : (m.setPortTime p f).card = m.card := rfl
@[simp] theorem Mod.setPortTime_attic (m : Mod) (p : Nat) (f : PortTime → PortTime) : (m.setPortTime p f).attic = m.attic := rfl
@[simp] theorem Mod.setPortTime_upd (m : Mod) (p : Nat) (f : PortTime → PortTime) : (m.setPortTime p f).upd = m.upd := rfl
@[simp] theorem Mod.setPortTime_test (m : Mod) (p : Nat) (f : PortTime → PortTime) : (m.setPortTime p f).test = m.test := rfl
@[simp] theorem Mod.setPortTime_savis (m : Mod) (p : Nat) (f : PortTime → PortTime) : (m.setPortTime p f).savis = m.savis := rfl

@[simp] theorem Mod.setEntry_now (m : Mod) (port entry : Nat) (e : Option TxEntry) : (m.setEntry port entry e).now = m.now := rfl
@[simp] theorem Mod.setEntry_out (m : Mod) (port entry : Nat) (e : Option TxEntry) : (m.setEntry port entry e).out = m.out := rfl
@[simp] theorem Mod.setEntry_free (m : Mod) (port entry : Nat) (e : Option TxEntry) : (m.setEntry port entry e).free = m.free := rfl
@[simp] theorem Mod.setEntry_power (m : Mod) (port entry : Nat) (e : Option TxEntry) : (m.setEntry port entry e).power = m.power := rfl
@[simp] theorem Mod.setEntry_sched (m : Mod) (port entry : Nat) (e : Option TxEntry) : (m.setEntry port entry e).sched = m.sched := rfl
@[simp] theorem Mod.setEntry_lanes (m : Mod) (port entry : Nat) (e : Option TxEntry) : (m.setEntry port entry e).lanes = m.lanes := rfl
@[simp] theorem Mod.setEntry_newel (m : Mod) (port entry : Nat) (e : Option TxEntry) : (m.setEntry port entry e).newel = m.newel := rfl
@[simp] theorem Mod.setEntry_prog (m : Mod) (port entry : Nat) (e : Option TxEntry) : (m.setEntry port entry e).prog = m.prog := rfl
@[simp] theorem Mod.setEntry_access (m : Mod) (port entry : Nat) (e : Option TxEntry) : (m.setEntry port entry e).access = m.access := rfl
@[simp] theorem Mod.setEntry_reflex (m : Mod) (port entry : Nat) (e : Option TxEntry) : (m.setEntry port entry e).reflex = m.reflex := rfl
@[simp] theorem Mod.setEntry_loops (m : Mod) (port entry : Nat) (e : Option TxEntry) : (m.setEntry port entry e).loops = m.loops := rfl
@[simp] theorem Mod.setEntry_wins (m : Mod) (port entry : Nat) (e : Option TxEntry) : (m.setEntry port entry e).wins = m.wins := rfl
@[simp] theorem Mod.setEntry_conv (m : Mod) (port entry : Nat) (e : Option TxEntry) : (m.setEntry port entry e).conv = m.conv := rfl
@[simp] theorem Mod.setEntry_time (m : Mod) (port entry : Nat) (e : Option TxEntry) : (m.setEntry port entry e).time = m.time := rfl
@[simp] theorem Mod.setEntry_bolt (m : Mod) (port entry : Nat) (e : Option TxEntry) : (m.setEntry port entry e).bolt = m.bolt := rfl
@[simp] theorem Mod.setEntry_pair (m : Mod) (port entry : Nat) (e : Option TxEntry) : (m.setEntry port entry e).pair = m.pair := rfl
@[simp] theorem Mod.setEntry_hall (m : Mod) (port entry : Nat) (e : Option TxEntry) : (m.setEntry port entry e).hall = m.hall := rfl
@[simp] theorem Mod.setEntry_card (m : Mod) (port entry : Nat) (e : Option TxEntry) : (m.setEntry port entry e).card = m.card := rfl
@[simp] theorem Mod.setEntry_attic (m : Mod) (port entry : Nat) (e : Option TxEntry) : (m.setEntry port entry e).attic = m.attic := rfl
@[simp] theorem Mod.setEntry_upd (m : Mod) (port entry : Nat) (e : Option TxEntry) : (m.setEntry port entry e).upd = m.upd := rfl
@[simp] theorem Mod.setEntry_test (m : Mod) (port entry : Nat) (e : Option TxEntry) : (m.setEntry port entry e).test = m.test := rfl
@[simp] theorem Mod.setEntry_savis (m : Mod) (port entry : Nat) (e : Option TxEntry) : (m.setEntry port entry e).savis = m.savis := rfl

@[simp] theorem Mod.stayOut_now (m : Mod) (cause : Nat) : (m.stayOut cause).now = m.now := rfl
@[simp] theorem Mod.stayOut_out (m : Mod) (cause : Nat) : (m.stayOut cause).out = m.out := rfl
@[simp] theorem Mod.stayOut_free (m : Mod) (cause : Nat) : (m.stayOut cause).free = m.free := rfl
@[simp] theorem Mod.stayOut_power (m : Mod) (cause : Nat) : (m.stayOut cause).power = m.power := rfl
@[simp] theorem Mod.stayOut_sched (m : Mod) (cause : Nat) : (m.stayOut cause).sched = m.sched := rfl
@[simp] theorem Mod.stayOut_lanes (m : Mod) (cause : Nat) : (m.stayOut cause).lanes = m.lanes := rfl
@[simp] theorem Mod.stayOut_newel (m : Mod) (cause : Nat) : (m.stayOut cause).newel = m.newel := rfl
@[simp] theorem Mod.stayOut_prog (m : Mod) (cause : Nat) : (m.stayOut cause).prog = m.prog := rfl
@[simp] theorem Mod.stayOut_access (m : Mod) (cause : Nat) : (m.stayOut cause).access = m.access := rfl
@[simp] theorem Mod.stayOut_pantry (m : Mod) (cause : Nat) : (m.stayOut cause).pantry = m.pantry := rfl
@[simp] theorem Mod.stayOut_reflex (m : Mod) (cause : Nat) : (m.stayOut cause).reflex = m.reflex := rfl
@[simp] theorem Mod.stayOut_loops (m : Mod) (cause : Nat) : (m.stayOut cause).loops = m.loops := rfl
@[simp] theorem Mod.stayOut_wins (m : Mod) (cause : Nat) : (m.stayOut cause).wins = m.wins := rfl
@[simp] theorem Mod.stayOut_conv (m : Mod) (cause : Nat) : (m.stayOut cause).conv = m.conv := rfl
@[simp] theorem Mod.stayOut_time (m : Mod) (cause : Nat) : (m.stayOut cause).time = m.time := rfl
@[simp] theorem Mod.stayOut_bolt (m : Mod) (cause : Nat) : (m.stayOut cause).bolt = m.bolt := rfl
@[simp] theorem Mod.stayOut_hall (m : Mod) (cause : Nat) : (m.stayOut cause).hall = m.hall := rfl
@[simp] theorem Mod.stayOut_card (m : Mod) (cause : Nat) : (m.stayOut cause).card = m.card := rfl
@[simp] theorem Mod.stayOut_attic (m : Mod) (cause : Nat) : (m.stayOut cause).attic = m.attic := rfl
@[simp] theorem Mod.stayOut_upd (m : Mod) (cause : Nat) : (m.stayOut cause).upd = m.upd := rfl
@[simp] theorem Mod.stayOut_test (m : Mod) (cause : Nat) : (m.stayOut cause).test = m.test := rfl
@[simp] theorem Mod.stayOut_savis (m : Mod) (cause : Nat) : (m.stayOut cause).savis = m.savis := rfl

@[simp] theorem Mod.rejectFrame_now (m : Mod) (port code : Nat) : (m.rejectFrame port code).now = m.now := rfl
@[simp] theorem Mod.rejectFrame_out (m : Mod) (port code : Nat) : (m.rejectFrame port code).out = m.out := rfl
@[simp] theorem Mod.rejectFrame_free (m : Mod) (port code : Nat) : (m.rejectFrame port code).free = m.free := rfl
@[simp] theorem Mod.rejectFrame_power (m : Mod) (port code : Nat) : (m.rejectFrame port code).power = m.power := rfl
@[simp] theorem Mod.rejectFrame_sched (m : Mod) (port code : Nat) : (m.rejectFrame port code).sched = m.sched := rfl
@[simp] theorem Mod.rejectFrame_lanes (m : Mod) (port code : Nat) : (m.rejectFrame port code).lanes = m.lanes := rfl
@[simp] theorem Mod.rejectFrame_newel (m : Mod) (port code : Nat) : (m.rejectFrame port code).newel = m.newel := rfl
@[simp] theorem Mod.rejectFrame_prog (m : Mod) (port code : Nat) : (m.rejectFrame port code).prog = m.prog := rfl
@[simp] theorem Mod.rejectFrame_access (m : Mod) (port code : Nat) : (m.rejectFrame port code).access = m.access := rfl
@[simp] theorem Mod.rejectFrame_reflex (m : Mod) (port code : Nat) : (m.rejectFrame port code).reflex = m.reflex := rfl
@[simp] theorem Mod.rejectFrame_loops (m : Mod) (port code : Nat) : (m.rejectFrame port code).loops = m.loops := rfl
@[simp] theorem Mod.rejectFrame_wins (m : Mod) (port code : Nat) : (m.rejectFrame port code).wins = m.wins := rfl
@[simp] theorem Mod.rejectFrame_conv (m : Mod) (port code : Nat) : (m.rejectFrame port code).conv = m.conv := rfl
@[simp] theorem Mod.rejectFrame_time (m : Mod) (port code : Nat) : (m.rejectFrame port code).time = m.time := rfl
@[simp] theorem Mod.rejectFrame_bolt (m : Mod) (port code : Nat) : (m.rejectFrame port code).bolt = m.bolt := rfl
@[simp] theorem Mod.rejectFrame_pair (m : Mod) (port code : Nat) : (m.rejectFrame port code).pair = m.pair := rfl
@[simp] theorem Mod.rejectFrame_hall (m : Mod) (port code : Nat) : (m.rejectFrame port code).hall = m.hall := rfl
@[simp] theorem Mod.rejectFrame_card (m : Mod) (port code : Nat) : (m.rejectFrame port code).card = m.card := rfl
@[simp] theorem Mod.rejectFrame_attic (m : Mod) (port code : Nat) : (m.rejectFrame port code).attic = m.attic := rfl
@[simp] theorem Mod.rejectFrame_upd (m : Mod) (port code : Nat) : (m.rejectFrame port code).upd = m.upd := rfl
@[simp] theorem Mod.rejectFrame_test (m : Mod) (port code : Nat) : (m.rejectFrame port code).test = m.test := rfl
@[simp] theorem Mod.rejectFrame_savis (m : Mod) (port code : Nat) : (m.rejectFrame port code).savis = m.savis := rfl

@[simp] theorem Mod.holdEpoch_pair (m : Mod) (e : BitVec 16) :
    (m.holdEpoch e).pair = { m.pair with epoch := e, epochHeld := some e } := rfl
@[simp] theorem Mod.holdEpoch_now (m : Mod) (e : BitVec 16) : (m.holdEpoch e).now = m.now := rfl
@[simp] theorem Mod.holdEpoch_out (m : Mod) (e : BitVec 16) : (m.holdEpoch e).out = m.out := rfl
@[simp] theorem Mod.holdEpoch_free (m : Mod) (e : BitVec 16) : (m.holdEpoch e).free = m.free := rfl
@[simp] theorem Mod.holdEpoch_power (m : Mod) (e : BitVec 16) : (m.holdEpoch e).power = m.power := rfl
@[simp] theorem Mod.holdEpoch_sched (m : Mod) (e : BitVec 16) : (m.holdEpoch e).sched = m.sched := rfl
@[simp] theorem Mod.holdEpoch_lanes (m : Mod) (e : BitVec 16) : (m.holdEpoch e).lanes = m.lanes := rfl
@[simp] theorem Mod.holdEpoch_newel (m : Mod) (e : BitVec 16) : (m.holdEpoch e).newel = m.newel := rfl
@[simp] theorem Mod.holdEpoch_prog (m : Mod) (e : BitVec 16) : (m.holdEpoch e).prog = m.prog := rfl
@[simp] theorem Mod.holdEpoch_access (m : Mod) (e : BitVec 16) : (m.holdEpoch e).access = m.access := rfl
@[simp] theorem Mod.holdEpoch_pantry (m : Mod) (e : BitVec 16) : (m.holdEpoch e).pantry = m.pantry := rfl
@[simp] theorem Mod.holdEpoch_reflex (m : Mod) (e : BitVec 16) : (m.holdEpoch e).reflex = m.reflex := rfl
@[simp] theorem Mod.holdEpoch_loops (m : Mod) (e : BitVec 16) : (m.holdEpoch e).loops = m.loops := rfl
@[simp] theorem Mod.holdEpoch_wins (m : Mod) (e : BitVec 16) : (m.holdEpoch e).wins = m.wins := rfl
@[simp] theorem Mod.holdEpoch_conv (m : Mod) (e : BitVec 16) : (m.holdEpoch e).conv = m.conv := rfl
@[simp] theorem Mod.holdEpoch_time (m : Mod) (e : BitVec 16) : (m.holdEpoch e).time = m.time := rfl
@[simp] theorem Mod.holdEpoch_bolt (m : Mod) (e : BitVec 16) : (m.holdEpoch e).bolt = m.bolt := rfl
@[simp] theorem Mod.holdEpoch_hall (m : Mod) (e : BitVec 16) : (m.holdEpoch e).hall = m.hall := rfl
@[simp] theorem Mod.holdEpoch_card (m : Mod) (e : BitVec 16) : (m.holdEpoch e).card = m.card := rfl
@[simp] theorem Mod.holdEpoch_attic (m : Mod) (e : BitVec 16) : (m.holdEpoch e).attic = m.attic := rfl
@[simp] theorem Mod.holdEpoch_upd (m : Mod) (e : BitVec 16) : (m.holdEpoch e).upd = m.upd := rfl
@[simp] theorem Mod.holdEpoch_test (m : Mod) (e : BitVec 16) : (m.holdEpoch e).test = m.test := rfl
@[simp] theorem Mod.holdEpoch_savis (m : Mod) (e : BitVec 16) : (m.holdEpoch e).savis = m.savis := rfl

@[simp] theorem Mod.updateIr_test (m : Mod) (i : ScanIr) :
    (m.updateIr i).test = { m.test with ir := i } := rfl
@[simp] theorem Mod.updateIr_now (m : Mod) (i : ScanIr) : (m.updateIr i).now = m.now := rfl
@[simp] theorem Mod.updateIr_out (m : Mod) (i : ScanIr) : (m.updateIr i).out = m.out := rfl
@[simp] theorem Mod.updateIr_free (m : Mod) (i : ScanIr) : (m.updateIr i).free = m.free := rfl
@[simp] theorem Mod.updateIr_power (m : Mod) (i : ScanIr) : (m.updateIr i).power = m.power := rfl
@[simp] theorem Mod.updateIr_sched (m : Mod) (i : ScanIr) : (m.updateIr i).sched = m.sched := rfl
@[simp] theorem Mod.updateIr_lanes (m : Mod) (i : ScanIr) : (m.updateIr i).lanes = m.lanes := rfl
@[simp] theorem Mod.updateIr_newel (m : Mod) (i : ScanIr) : (m.updateIr i).newel = m.newel := rfl
@[simp] theorem Mod.updateIr_prog (m : Mod) (i : ScanIr) : (m.updateIr i).prog = m.prog := rfl
@[simp] theorem Mod.updateIr_access (m : Mod) (i : ScanIr) : (m.updateIr i).access = m.access := rfl
@[simp] theorem Mod.updateIr_pantry (m : Mod) (i : ScanIr) : (m.updateIr i).pantry = m.pantry := rfl
@[simp] theorem Mod.updateIr_reflex (m : Mod) (i : ScanIr) : (m.updateIr i).reflex = m.reflex := rfl
@[simp] theorem Mod.updateIr_loops (m : Mod) (i : ScanIr) : (m.updateIr i).loops = m.loops := rfl
@[simp] theorem Mod.updateIr_wins (m : Mod) (i : ScanIr) : (m.updateIr i).wins = m.wins := rfl
@[simp] theorem Mod.updateIr_conv (m : Mod) (i : ScanIr) : (m.updateIr i).conv = m.conv := rfl
@[simp] theorem Mod.updateIr_time (m : Mod) (i : ScanIr) : (m.updateIr i).time = m.time := rfl
@[simp] theorem Mod.updateIr_bolt (m : Mod) (i : ScanIr) : (m.updateIr i).bolt = m.bolt := rfl
@[simp] theorem Mod.updateIr_pair (m : Mod) (i : ScanIr) : (m.updateIr i).pair = m.pair := rfl
@[simp] theorem Mod.updateIr_hall (m : Mod) (i : ScanIr) : (m.updateIr i).hall = m.hall := rfl
@[simp] theorem Mod.updateIr_card (m : Mod) (i : ScanIr) : (m.updateIr i).card = m.card := rfl
@[simp] theorem Mod.updateIr_attic (m : Mod) (i : ScanIr) : (m.updateIr i).attic = m.attic := rfl
@[simp] theorem Mod.updateIr_upd (m : Mod) (i : ScanIr) : (m.updateIr i).upd = m.upd := rfl
@[simp] theorem Mod.updateIr_savis (m : Mod) (i : ScanIr) : (m.updateIr i).savis = m.savis := rfl

@[simp] theorem Mod.touchUpload_now (m : Mod) : (m.touchUpload).now = m.now := rfl
@[simp] theorem Mod.touchUpload_out (m : Mod) : (m.touchUpload).out = m.out := rfl
@[simp] theorem Mod.touchUpload_free (m : Mod) : (m.touchUpload).free = m.free := rfl
@[simp] theorem Mod.touchUpload_power (m : Mod) : (m.touchUpload).power = m.power := rfl
@[simp] theorem Mod.touchUpload_sched (m : Mod) : (m.touchUpload).sched = m.sched := rfl
@[simp] theorem Mod.touchUpload_lanes (m : Mod) : (m.touchUpload).lanes = m.lanes := rfl
@[simp] theorem Mod.touchUpload_newel (m : Mod) : (m.touchUpload).newel = m.newel := rfl
@[simp] theorem Mod.touchUpload_prog (m : Mod) : (m.touchUpload).prog = m.prog := rfl
@[simp] theorem Mod.touchUpload_access (m : Mod) : (m.touchUpload).access = m.access := rfl
@[simp] theorem Mod.touchUpload_pantry (m : Mod) : (m.touchUpload).pantry = m.pantry := rfl
@[simp] theorem Mod.touchUpload_reflex (m : Mod) : (m.touchUpload).reflex = m.reflex := rfl
@[simp] theorem Mod.touchUpload_loops (m : Mod) : (m.touchUpload).loops = m.loops := rfl
@[simp] theorem Mod.touchUpload_wins (m : Mod) : (m.touchUpload).wins = m.wins := rfl
@[simp] theorem Mod.touchUpload_conv (m : Mod) : (m.touchUpload).conv = m.conv := rfl
@[simp] theorem Mod.touchUpload_time (m : Mod) : (m.touchUpload).time = m.time := rfl
@[simp] theorem Mod.touchUpload_bolt (m : Mod) : (m.touchUpload).bolt = m.bolt := rfl
@[simp] theorem Mod.touchUpload_pair (m : Mod) : (m.touchUpload).pair = m.pair := rfl
@[simp] theorem Mod.touchUpload_hall (m : Mod) : (m.touchUpload).hall = m.hall := rfl
@[simp] theorem Mod.touchUpload_card (m : Mod) : (m.touchUpload).card = m.card := rfl
@[simp] theorem Mod.touchUpload_attic (m : Mod) : (m.touchUpload).attic = m.attic := rfl
@[simp] theorem Mod.touchUpload_upd (m : Mod) : (m.touchUpload).upd = m.upd := rfl
@[simp] theorem Mod.touchUpload_test (m : Mod) : (m.touchUpload).test = m.test := rfl

@[simp] theorem Mod.beginLine_now (m : Mod) (u : Nat) (st : LtState) : (m.beginLine u st).now = m.now := rfl
@[simp] theorem Mod.beginLine_out (m : Mod) (u : Nat) (st : LtState) : (m.beginLine u st).out = m.out := rfl
@[simp] theorem Mod.beginLine_free (m : Mod) (u : Nat) (st : LtState) : (m.beginLine u st).free = m.free := rfl
@[simp] theorem Mod.beginLine_power (m : Mod) (u : Nat) (st : LtState) : (m.beginLine u st).power = m.power := rfl
@[simp] theorem Mod.beginLine_sched (m : Mod) (u : Nat) (st : LtState) : (m.beginLine u st).sched = m.sched := rfl
@[simp] theorem Mod.beginLine_lanes (m : Mod) (u : Nat) (st : LtState) : (m.beginLine u st).lanes = m.lanes := rfl
@[simp] theorem Mod.beginLine_newel (m : Mod) (u : Nat) (st : LtState) : (m.beginLine u st).newel = m.newel := rfl
@[simp] theorem Mod.beginLine_prog (m : Mod) (u : Nat) (st : LtState) : (m.beginLine u st).prog = m.prog := rfl
@[simp] theorem Mod.beginLine_access (m : Mod) (u : Nat) (st : LtState) : (m.beginLine u st).access = m.access := rfl
@[simp] theorem Mod.beginLine_pantry (m : Mod) (u : Nat) (st : LtState) : (m.beginLine u st).pantry = m.pantry := rfl
@[simp] theorem Mod.beginLine_reflex (m : Mod) (u : Nat) (st : LtState) : (m.beginLine u st).reflex = m.reflex := rfl
@[simp] theorem Mod.beginLine_loops (m : Mod) (u : Nat) (st : LtState) : (m.beginLine u st).loops = m.loops := rfl
@[simp] theorem Mod.beginLine_wins (m : Mod) (u : Nat) (st : LtState) : (m.beginLine u st).wins = m.wins := rfl
@[simp] theorem Mod.beginLine_conv (m : Mod) (u : Nat) (st : LtState) : (m.beginLine u st).conv = m.conv := rfl
@[simp] theorem Mod.beginLine_bolt (m : Mod) (u : Nat) (st : LtState) : (m.beginLine u st).bolt = m.bolt := rfl
@[simp] theorem Mod.beginLine_pair (m : Mod) (u : Nat) (st : LtState) : (m.beginLine u st).pair = m.pair := rfl
@[simp] theorem Mod.beginLine_hall (m : Mod) (u : Nat) (st : LtState) : (m.beginLine u st).hall = m.hall := rfl
@[simp] theorem Mod.beginLine_card (m : Mod) (u : Nat) (st : LtState) : (m.beginLine u st).card = m.card := rfl
@[simp] theorem Mod.beginLine_attic (m : Mod) (u : Nat) (st : LtState) : (m.beginLine u st).attic = m.attic := rfl
@[simp] theorem Mod.beginLine_upd (m : Mod) (u : Nat) (st : LtState) : (m.beginLine u st).upd = m.upd := rfl
@[simp] theorem Mod.beginLine_test (m : Mod) (u : Nat) (st : LtState) : (m.beginLine u st).test = m.test := rfl
@[simp] theorem Mod.beginLine_savis (m : Mod) (u : Nat) (st : LtState) : (m.beginLine u st).savis = m.savis := rfl

@[simp] theorem Mod.linkDown_hall (m : Mod) :
    (m.linkDown).hall = { (m.hall.leaveUp) with link := .down } := rfl
@[simp] theorem Mod.linkDown_now (m : Mod) : (m.linkDown).now = m.now := rfl
@[simp] theorem Mod.linkDown_out (m : Mod) : (m.linkDown).out = m.out := rfl
@[simp] theorem Mod.linkDown_free (m : Mod) : (m.linkDown).free = m.free := rfl
@[simp] theorem Mod.linkDown_power (m : Mod) : (m.linkDown).power = m.power := rfl
@[simp] theorem Mod.linkDown_sched (m : Mod) : (m.linkDown).sched = m.sched := rfl
@[simp] theorem Mod.linkDown_lanes (m : Mod) : (m.linkDown).lanes = m.lanes := rfl
@[simp] theorem Mod.linkDown_newel (m : Mod) : (m.linkDown).newel = m.newel := rfl
@[simp] theorem Mod.linkDown_prog (m : Mod) : (m.linkDown).prog = m.prog := rfl
@[simp] theorem Mod.linkDown_access (m : Mod) : (m.linkDown).access = m.access := rfl
@[simp] theorem Mod.linkDown_pantry (m : Mod) : (m.linkDown).pantry = m.pantry := rfl
@[simp] theorem Mod.linkDown_reflex (m : Mod) : (m.linkDown).reflex = m.reflex := rfl
@[simp] theorem Mod.linkDown_loops (m : Mod) : (m.linkDown).loops = m.loops := rfl
@[simp] theorem Mod.linkDown_wins (m : Mod) : (m.linkDown).wins = m.wins := rfl
@[simp] theorem Mod.linkDown_conv (m : Mod) : (m.linkDown).conv = m.conv := rfl
@[simp] theorem Mod.linkDown_time (m : Mod) : (m.linkDown).time = m.time := rfl
@[simp] theorem Mod.linkDown_bolt (m : Mod) : (m.linkDown).bolt = m.bolt := rfl
@[simp] theorem Mod.linkDown_pair (m : Mod) : (m.linkDown).pair = m.pair := rfl
@[simp] theorem Mod.linkDown_card (m : Mod) : (m.linkDown).card = m.card := rfl
@[simp] theorem Mod.linkDown_attic (m : Mod) : (m.linkDown).attic = m.attic := rfl
@[simp] theorem Mod.linkDown_upd (m : Mod) : (m.linkDown).upd = m.upd := rfl
@[simp] theorem Mod.linkDown_test (m : Mod) : (m.linkDown).test = m.test := rfl
@[simp] theorem Mod.linkDown_savis (m : Mod) : (m.linkDown).savis = m.savis := rfl

/-! ## What is read back from an update -/

@[simp] theorem Lanes.get_put (l : Lanes) (x : LaneId) (v : Lane) : (l.put x v).get x = v := by cases x <;> rfl

theorem Lanes.get_put_ne (l : Lanes) (x y : LaneId) (v : Lane) (h : y ≠ x) : (l.put x v).get y = l.get y := by
  cases x <;> cases y <;> first | rfl | exact absurd rfl h

@[simp] theorem Mod.lane_setLane (m : Mod) (x : LaneId) (f : Lane → Lane) : (m.setLane x f).lane x = f (m.lane x) :=
  Lanes.get_put _ _ _

theorem Mod.lane_setLane_ne (m : Mod) (x y : LaneId) (f : Lane → Lane) (h : y ≠ x) : (m.setLane x f).lane y = m.lane y :=
  Lanes.get_put_ne _ _ _ _ h

@[simp] theorem Mod.lane_allLane (m : Mod) (x : LaneId) (f : Lane → Lane) : (m.allLane f).lane x = f (m.lane x) := by
  cases x <;> rfl

@[simp] theorem Mod.toRole_role (m : Mod) (r : Role) (cause : Nat) : (m.toRole r cause).pair.role = r := rfl

@[simp] theorem Mod.stayOut_role (m : Mod) (cause : Nat) : (m.stayOut cause).pair.role = .out := rfl

@[simp] theorem Mod.stayOut_outCause (m : Mod) (cause : Nat) : (m.stayOut cause).pair.outCause = cause := rfl

@[simp] theorem Mod.ltNs_quiet (m : Mod) : m.quiet.ltNs = m.ltNs := rfl

end Sys2Proof.Machine
end

