-- ==== Sys2Proof/Laws/Engine.lean ====
section
/-! SUPPORT. What the shared operations of a block engine do: one lemma for an operation that retires, one for an operation
that raises an exception, and what a view keeps when its program counter advances or a register is written. -/

namespace Sys2Proof.Machine

open Sys2Proof

/-! ## Views -/

@[simp] theorem View.next_r (v : View) (n : Nat) (k : Reg) : (v.next n).r k = v.r k := rfl
@[simp] theorem View.next_reg (v : View) (n k : Nat) : (v.next n).eng.reg k = v.eng.reg k := rfl
@[simp] theorem View.next_inst (v : View) (n : Nat) : (v.next n).inst = v.inst := rfl
@[simp] theorem View.next_ctx (v : View) (n : Nat) : (v.next n).ctx = v.ctx := rfl
@[simp] theorem View.next_img (v : View) (n : Nat) : (v.next n).img = v.img := rfl
@[simp] theorem View.next_cls (v : View) (n : Nat) : (v.next n).cls = v.cls := rfl
@[simp] theorem View.next_me (v : View) (n : Nat) : (v.next n).me = v.me := rfl
@[simp] theorem View.next_ib (v : View) (n : Nat) : (v.next n).eng.ib = v.eng.ib := rfl
@[simp] theorem View.next_loops (v : View) (n : Nat) : (v.next n).eng.loops = v.eng.loops := rfl
@[simp] theorem View.next_calls (v : View) (n : Nat) : (v.next n).eng.calls = v.eng.calls := rfl
@[simp] theorem View.next_pc (v : View) (n : Nat) : (v.next n).eng.pc = (v.eng.pc + n) % 2 ^ 24 := rfl
@[simp] theorem View.next_field (v : View) (n h i : Nat) : (v.next n).field h i = v.field h i := rfl
@[simp] theorem View.next_instOk (v : View) (n h : Nat) : (v.next n).instOk h = v.instOk h := rfl

/-! ## Operations -/

@[simp] theorem Mod.fetch_quiet (m : Mod) (e : EngRef) (word : W32) : m.quiet.fetch e word = m.fetch e word := rfl

/-- An operation that retires: the engine and its lane are as the result says, for its cost. -/
theorem State.op_ok {s : State} {e : EngRef} {word : W32} {v v' : View} {cost : Nat} {f : View → Res}
    (h : s.m.fetch e word = some v) (hf : f (v.next 1) = .ok v') :
    s.op e word cost f = .next { s with m := s.m.quiet.putView e v' cost true } := by
  simp only [State.op, State.does, Mod.engOp, Mod.fetch_quiet, h, hf]

/-- An operation that raises an exception: the engine stops, nothing else is written. -/
theorem State.op_error {s : State} {e : EngRef} {word : W32} {v : View} {x : Exc} {cost : Nat} {f : View → Res}
    (h : s.m.fetch e word = some v) (hf : f (v.next 1) = .error x) :
    s.op e word cost f = .next { s with m := s.m.quiet.putView e (v.raised x) cost false } := by
  simp only [State.op, State.does, Mod.engOp, Mod.fetch_quiet, h, hf]

/-- Where the engine does not stand at the operation, nothing happens. -/
theorem State.op_none {s : State} {e : EngRef} {word : W32} {cost : Nat} {f : View → Res}
    (h : s.m.fetch e word = none) : s.op e word cost f = .next { s with m := s.m.quiet } := by
  simp only [State.op, State.does, Mod.engOp, Mod.fetch_quiet, h]

/-- An operation that writes one register. -/
theorem State.opReg_eq {s : State} {e : EngRef} {word : W32} {v : View} {cost : Nat} {d : Reg} {f : View → W64}
    (h : s.m.fetch e word = some v) :
    s.opReg e word cost d f = .next { s with m := s.m.quiet.putView e ((v.next 1).w d (f (v.next 1))) cost true } := by
  simp only [State.opReg, State.does, Mod.regOp, Mod.engOp, Mod.fetch_quiet, h]

/-- An operation writes only its own lane. -/
theorem Mod.putView_lane_ne (m : Mod) (e : EngRef) (v : View) (cost : Nat) (retired : Bool) (l : LaneId) (h : l ≠ e.lane) :
    (m.putView e v cost retired).lane l = m.lane l := Mod.lane_setLane_ne _ _ _ _ h

end Sys2Proof.Machine
end

