-- ==== Sys2Proof/Laws/Frames.lean ====
section
/-! SUPPORT. What each shared operation leaves alone, in one lemma for each: provers cite it and never unfold the operation.
The fields that a lemma does not name are those that the operation may write. -/

namespace Sys2Proof.Machine

open Sys2Proof

set_option maxRecDepth 10000

/-- What every step of a fold leaves alone, the fold leaves alone. -/
theorem foldl_keep {α β γ : Type} (g : β → γ) (f : β → α → β) (h : ∀ m x, g (f m x) = g m) (l : List α) (m : β) :
    g (l.foldl f m) = g m := by
  induction l generalizing m with
  | nil => rfl
  | cons x l ih => simp [ih, h]

@[simp] theorem Mod.foldl_now {α : Type} (f : Mod → α → Mod) (h : ∀ m x, (f m x).now = m.now) (l : List α) (m : Mod) :
    (l.foldl f m).now = m.now := foldl_keep Mod.now f h l m
@[simp] theorem Mod.ite_now (c : Prop) [Decidable c] (a b : Mod) :
    (if c then a else b).now = if c then a.now else b.now := apply_ite Mod.now c a b
@[simp] theorem Mod.foldl_out {α : Type} (f : Mod → α → Mod) (h : ∀ m x, (f m x).out = m.out) (l : List α) (m : Mod) :
    (l.foldl f m).out = m.out := foldl_keep Mod.out f h l m
@[simp] theorem Mod.ite_out (c : Prop) [Decidable c] (a b : Mod) :
    (if c then a else b).out = if c then a.out else b.out := apply_ite Mod.out c a b
@[simp] theorem Mod.foldl_free {α : Type} (f : Mod → α → Mod) (h : ∀ m x, (f m x).free = m.free) (l : List α) (m : Mod) :
    (l.foldl f m).free = m.free := foldl_keep Mod.free f h l m
@[simp] theorem Mod.ite_free (c : Prop) [Decidable c] (a b : Mod) :
    (if c then a else b).free = if c then a.free else b.free := apply_ite Mod.free c a b
@[simp] theorem Mod.foldl_power {α : Type} (f : Mod → α → Mod) (h : ∀ m x, (f m x).power = m.power) (l : List α) (m : Mod) :
    (l.foldl f m).power = m.power := foldl_keep Mod.power f h l m
@[simp] theorem Mod.ite_power (c : Prop) [Decidable c] (a b : Mod) :
    (if c then a else b).power = if c then a.power else b.power := apply_ite Mod.power c a b
@[simp] theorem Mod.foldl_sched {α : Type} (f : Mod → α → Mod) (h : ∀ m x, (f m x).sched = m.sched) (l : List α) (m : Mod) :
    (l.foldl f m).sched = m.sched := foldl_keep Mod.sched f h l m
@[simp] theorem Mod.ite_sched (c : Prop) [Decidable c] (a b : Mod) :
    (if c then a else b).sched = if c then a.sched else b.sched := apply_ite Mod.sched c a b
@[simp] theorem Mod.foldl_lanes {α : Type} (f : Mod → α → Mod) (h : ∀ m x, (f m x).lanes = m.lanes) (l : List α) (m : Mod) :
    (l.foldl f m).lanes = m.lanes := foldl_keep Mod.lanes f h l m
@[simp] theorem Mod.ite_lanes (c : Prop) [Decidable c] (a b : Mod) :
    (if c then a else b).lanes = if c then a.lanes else b.lanes := apply_ite Mod.lanes c a b
@[simp] theorem Mod.foldl_newel {α : Type} (f : Mod → α → Mod) (h : ∀ m x, (f m x).newel = m.newel) (l : List α) (m : Mod) :
    (l.foldl f m).newel = m.newel := foldl_keep Mod.newel f h l m
@[simp] theorem Mod.ite_newel (c : Prop) [Decidable c] (a b : Mod) :
    (if c then a else b).newel = if c then a.newel else b.newel := apply_ite Mod.newel c a b
@[simp] theorem Mod.foldl_prog {α : Type} (f : Mod → α → Mod) (h : ∀ m x, (f m x).prog = m.prog) (l : List α) (m : Mod) :
    (l.foldl f m).prog = m.prog := foldl_keep Mod.prog f h l m
@[simp] theorem Mod.ite_prog (c : Prop) [Decidable c] (a b : Mod) :
    (if c then a else b).prog = if c then a.prog else b.prog := apply_ite Mod.prog c a b
@[simp] theorem Mod.foldl_access {α : Type} (f : Mod → α → Mod) (h : ∀ m x, (f m x).access = m.access) (l : List α) (m : Mod) :
    (l.foldl f m).access = m.access := foldl_keep Mod.access f h l m
@[simp] theorem Mod.ite_access (c : Prop) [Decidable c] (a b : Mod) :
    (if c then a else b).access = if c then a.access else b.access := apply_ite Mod.access c a b
@[simp] theorem Mod.foldl_pantry {α : Type} (f : Mod → α → Mod) (h : ∀ m x, (f m x).pantry = m.pantry) (l : List α) (m : Mod) :
    (l.foldl f m).pantry = m.pantry := foldl_keep Mod.pantry f h l m
@[simp] theorem Mod.ite_pantry (c : Prop) [Decidable c] (a b : Mod) :
    (if c then a else b).pantry = if c then a.pantry else b.pantry := apply_ite Mod.pantry c a b
@[simp] theorem Mod.foldl_reflex {α : Type} (f : Mod → α → Mod) (h : ∀ m x, (f m x).reflex = m.reflex) (l : List α) (m : Mod) :
    (l.foldl f m).reflex = m.reflex := foldl_keep Mod.reflex f h l m
@[simp] theorem Mod.ite_reflex (c : Prop) [Decidable c] (a b : Mod) :
    (if c then a else b).reflex = if c then a.reflex else b.reflex := apply_ite Mod.reflex c a b
@[simp] theorem Mod.foldl_loops {α : Type} (f : Mod → α → Mod) (h : ∀ m x, (f m x).loops = m.loops) (l : List α) (m : Mod) :
    (l.foldl f m).loops = m.loops := foldl_keep Mod.loops f h l m
@[simp] theorem Mod.ite_loops (c : Prop) [Decidable c] (a b : Mod) :
    (if c then a else b).loops = if c then a.loops else b.loops := apply_ite Mod.loops c a b
@[simp] theorem Mod.foldl_wins {α : Type} (f : Mod → α → Mod) (h : ∀ m x, (f m x).wins = m.wins) (l : List α) (m : Mod) :
    (l.foldl f m).wins = m.wins := foldl_keep Mod.wins f h l m
@[simp] theorem Mod.ite_wins (c : Prop) [Decidable c] (a b : Mod) :
    (if c then a else b).wins = if c then a.wins else b.wins := apply_ite Mod.wins c a b
@[simp] theorem Mod.foldl_conv {α : Type} (f : Mod → α → Mod) (h : ∀ m x, (f m x).conv = m.conv) (l : List α) (m : Mod) :
    (l.foldl f m).conv = m.conv := foldl_keep Mod.conv f h l m
@[simp] theorem Mod.ite_conv (c : Prop) [Decidable c] (a b : Mod) :
    (if c then a else b).conv = if c then a.conv else b.conv := apply_ite Mod.conv c a b
@[simp] theorem Mod.foldl_time {α : Type} (f : Mod → α → Mod) (h : ∀ m x, (f m x).time = m.time) (l : List α) (m : Mod) :
    (l.foldl f m).time = m.time := foldl_keep Mod.time f h l m
@[simp] theorem Mod.ite_time (c : Prop) [Decidable c] (a b : Mod) :
    (if c then a else b).time = if c then a.time else b.time := apply_ite Mod.time c a b
@[simp] theorem Mod.foldl_bolt {α : Type} (f : Mod → α → Mod) (h : ∀ m x, (f m x).bolt = m.bolt) (l : List α) (m : Mod) :
    (l.foldl f m).bolt = m.bolt := foldl_keep Mod.bolt f h l m
@[simp] theorem Mod.ite_bolt (c : Prop) [Decidable c] (a b : Mod) :
    (if c then a else b).bolt = if c then a.bolt else b.bolt := apply_ite Mod.bolt c a b
@[simp] theorem Mod.foldl_pair {α : Type} (f : Mod → α → Mod) (h : ∀ m x, (f m x).pair = m.pair) (l : List α) (m : Mod) :
    (l.foldl f m).pair = m.pair := foldl_keep Mod.pair f h l m
@[simp] theorem Mod.ite_pair (c : Prop) [Decidable c] (a b : Mod) :
    (if c then a else b).pair = if c then a.pair else b.pair := apply_ite Mod.pair c a b
@[simp] theorem Mod.foldl_hall {α : Type} (f : Mod → α → Mod) (h : ∀ m x, (f m x).hall = m.hall) (l : List α) (m : Mod) :
    (l.foldl f m).hall = m.hall := foldl_keep Mod.hall f h l m
@[simp] theorem Mod.ite_hall (c : Prop) [Decidable c] (a b : Mod) :
    (if c then a else b).hall = if c then a.hall else b.hall := apply_ite Mod.hall c a b
@[simp] theorem Mod.foldl_card {α : Type} (f : Mod → α → Mod) (h : ∀ m x, (f m x).card = m.card) (l : List α) (m : Mod) :
    (l.foldl f m).card = m.card := foldl_keep Mod.card f h l m
@[simp] theorem Mod.ite_card (c : Prop) [Decidable c] (a b : Mod) :
    (if c then a else b).card = if c then a.card else b.card := apply_ite Mod.card c a b
@[simp] theorem Mod.foldl_attic {α : Type} (f : Mod → α → Mod) (h : ∀ m x, (f m x).attic = m.attic) (l : List α) (m : Mod) :
    (l.foldl f m).attic = m.attic := foldl_keep Mod.attic f h l m
@[simp] theorem Mod.ite_attic (c : Prop) [Decidable c] (a b : Mod) :
    (if c then a else b).attic = if c then a.attic else b.attic := apply_ite Mod.attic c a b
@[simp] theorem Mod.foldl_upd {α : Type} (f : Mod → α → Mod) (h : ∀ m x, (f m x).upd = m.upd) (l : List α) (m : Mod) :
    (l.foldl f m).upd = m.upd := foldl_keep Mod.upd f h l m
@[simp] theorem Mod.ite_upd (c : Prop) [Decidable c] (a b : Mod) :
    (if c then a else b).upd = if c then a.upd else b.upd := apply_ite Mod.upd c a b
@[simp] theorem Mod.foldl_test {α : Type} (f : Mod → α → Mod) (h : ∀ m x, (f m x).test = m.test) (l : List α) (m : Mod) :
    (l.foldl f m).test = m.test := foldl_keep Mod.test f h l m
@[simp] theorem Mod.ite_test (c : Prop) [Decidable c] (a b : Mod) :
    (if c then a else b).test = if c then a.test else b.test := apply_ite Mod.test c a b
@[simp] theorem Mod.foldl_savis {α : Type} (f : Mod → α → Mod) (h : ∀ m x, (f m x).savis = m.savis) (l : List α) (m : Mod) :
    (l.foldl f m).savis = m.savis := foldl_keep Mod.savis f h l m
@[simp] theorem Mod.ite_savis (c : Prop) [Decidable c] (a b : Mod) :
    (if c then a else b).savis = if c then a.savis else b.savis := apply_ite Mod.savis c a b

@[simp] theorem Mod.hallSend_frame (m : Mod) (cls : Nat) (f : Msg → Instr) :
    (m.hallSend cls f).now = m.now ∧ (m.hallSend cls f).free = m.free ∧ (m.hallSend cls f).power = m.power
    ∧ (m.hallSend cls f).sched = m.sched ∧ (m.hallSend cls f).lanes = m.lanes ∧ (m.hallSend cls f).newel = m.newel
    ∧ (m.hallSend cls f).prog = m.prog ∧ (m.hallSend cls f).access = m.access ∧ (m.hallSend cls f).pantry = m.pantry
    ∧ (m.hallSend cls f).reflex = m.reflex ∧ (m.hallSend cls f).loops = m.loops ∧ (m.hallSend cls f).wins = m.wins
    ∧ (m.hallSend cls f).conv = m.conv ∧ (m.hallSend cls f).time = m.time ∧ (m.hallSend cls f).bolt = m.bolt
    ∧ (m.hallSend cls f).pair = m.pair ∧ (m.hallSend cls f).card = m.card ∧ (m.hallSend cls f).attic = m.attic
    ∧ (m.hallSend cls f).upd = m.upd ∧ (m.hallSend cls f).test = m.test ∧ (m.hallSend cls f).savis = m.savis := by
  unfold Mod.hallSend; simp

@[simp] theorem Mod.raise_frame (m : Mod) (t : ErrTask) (code : Nat) (pl : W32 × W32 × W32 × W32) (detail : List Byte) :
    (m.raise t code pl detail).now = m.now ∧ (m.raise t code pl detail).out = m.out
    ∧ (m.raise t code pl detail).free = m.free ∧ (m.raise t code pl detail).power = m.power
    ∧ (m.raise t code pl detail).sched = m.sched ∧ (m.raise t code pl detail).lanes = m.lanes
    ∧ (m.raise t code pl detail).newel = m.newel ∧ (m.raise t code pl detail).access = m.access
    ∧ (m.raise t code pl detail).pantry = m.pantry ∧ (m.raise t code pl detail).reflex = m.reflex
    ∧ (m.raise t code pl detail).loops = m.loops ∧ (m.raise t code pl detail).wins = m.wins
    ∧ (m.raise t code pl detail).conv = m.conv ∧ (m.raise t code pl detail).time = m.time
    ∧ (m.raise t code pl detail).bolt = m.bolt ∧ (m.raise t code pl detail).pair = m.pair
    ∧ (m.raise t code pl detail).hall = m.hall ∧ (m.raise t code pl detail).card = m.card
    ∧ (m.raise t code pl detail).attic = m.attic ∧ (m.raise t code pl detail).upd = m.upd
    ∧ (m.raise t code pl detail).test = m.test ∧ (m.raise t code pl detail).savis = m.savis := by
  unfold Mod.raise; simp

@[simp] theorem Mod.tellPending_frame (m : Mod) (key : Nat × Nat) (qpos : Nat) :
    (m.tellPending key qpos).now = m.now ∧ (m.tellPending key qpos).free = m.free
    ∧ (m.tellPending key qpos).power = m.power ∧ (m.tellPending key qpos).sched = m.sched
    ∧ (m.tellPending key qpos).lanes = m.lanes ∧ (m.tellPending key qpos).newel = m.newel
    ∧ (m.tellPending key qpos).prog = m.prog ∧ (m.tellPending key qpos).access = m.access
    ∧ (m.tellPending key qpos).pantry = m.pantry ∧ (m.tellPending key qpos).reflex = m.reflex
    ∧ (m.tellPending key qpos).loops = m.loops ∧ (m.tellPending key qpos).wins = m.wins
    ∧ (m.tellPending key qpos).conv = m.conv ∧ (m.tellPending key qpos).time = m.time
    ∧ (m.tellPending key qpos).bolt = m.bolt ∧ (m.tellPending key qpos).pair = m.pair
    ∧ (m.tellPending key qpos).hall = m.hall ∧ (m.tellPending key qpos).card = m.card
    ∧ (m.tellPending key qpos).attic = m.attic ∧ (m.tellPending key qpos).upd = m.upd
    ∧ (m.tellPending key qpos).test = m.test := by
  unfold Mod.tellPending; split <;> simp

@[simp] theorem Mod.answer_frame (m : Mod) (r : SReq) (o : Outc) (reason : Nat) (data : List Byte) :
    (m.answer r o reason data).now = m.now ∧ (m.answer r o reason data).free = m.free
    ∧ (m.answer r o reason data).power = m.power ∧ (m.answer r o reason data).sched = m.sched
    ∧ (m.answer r o reason data).lanes = m.lanes ∧ (m.answer r o reason data).newel = m.newel
    ∧ (m.answer r o reason data).prog = m.prog ∧ (m.answer r o reason data).access = m.access
    ∧ (m.answer r o reason data).pantry = m.pantry ∧ (m.answer r o reason data).reflex = m.reflex
    ∧ (m.answer r o reason data).loops = m.loops ∧ (m.answer r o reason data).wins = m.wins
    ∧ (m.answer r o reason data).conv = m.conv ∧ (m.answer r o reason data).time = m.time
    ∧ (m.answer r o reason data).bolt = m.bolt ∧ (m.answer r o reason data).pair = m.pair
    ∧ (m.answer r o reason data).hall = m.hall ∧ (m.answer r o reason data).card = m.card
    ∧ (m.answer r o reason data).attic = m.attic ∧ (m.answer r o reason data).upd = m.upd
    ∧ (m.answer r o reason data).test = m.test ∧ (m.answer r o reason data).savis = m.savis := by
  unfold Mod.answer; simp

@[simp] theorem Mod.tellPair_frame (m : Mod) (r : SReq) (o : Outc) (data : List Byte) :
    (m.tellPair r o data).now = m.now ∧ (m.tellPair r o data).free = m.free ∧ (m.tellPair r o data).power = m.power
    ∧ (m.tellPair r o data).sched = m.sched ∧ (m.tellPair r o data).lanes = m.lanes
    ∧ (m.tellPair r o data).newel = m.newel ∧ (m.tellPair r o data).prog = m.prog
    ∧ (m.tellPair r o data).access = m.access ∧ (m.tellPair r o data).pantry = m.pantry
    ∧ (m.tellPair r o data).reflex = m.reflex ∧ (m.tellPair r o data).loops = m.loops
    ∧ (m.tellPair r o data).wins = m.wins ∧ (m.tellPair r o data).conv = m.conv ∧ (m.tellPair r o data).time = m.time
    ∧ (m.tellPair r o data).bolt = m.bolt ∧ (m.tellPair r o data).pair = m.pair ∧ (m.tellPair r o data).card = m.card
    ∧ (m.tellPair r o data).attic = m.attic ∧ (m.tellPair r o data).upd = m.upd ∧ (m.tellPair r o data).test = m.test
    ∧ (m.tellPair r o data).savis = m.savis := by
  unfold Mod.tellPair; simp

@[simp] theorem Mod.finish_frame (m : Mod) (key : Nat × Nat) (o : Outc) (reason : Nat) (data : List Byte) :
    (m.finish key o reason data).now = m.now ∧ (m.finish key o reason data).free = m.free
    ∧ (m.finish key o reason data).power = m.power ∧ (m.finish key o reason data).sched = m.sched
    ∧ (m.finish key o reason data).lanes = m.lanes ∧ (m.finish key o reason data).newel = m.newel
    ∧ (m.finish key o reason data).prog = m.prog ∧ (m.finish key o reason data).access = m.access
    ∧ (m.finish key o reason data).pantry = m.pantry ∧ (m.finish key o reason data).reflex = m.reflex
    ∧ (m.finish key o reason data).loops = m.loops ∧ (m.finish key o reason data).wins = m.wins
    ∧ (m.finish key o reason data).conv = m.conv ∧ (m.finish key o reason data).time = m.time
    ∧ (m.finish key o reason data).bolt = m.bolt ∧ (m.finish key o reason data).pair = m.pair
    ∧ (m.finish key o reason data).card = m.card ∧ (m.finish key o reason data).attic = m.attic
    ∧ (m.finish key o reason data).upd = m.upd ∧ (m.finish key o reason data).test = m.test := by
  unfold Mod.finish; split <;> simp

@[simp] theorem Mod.finish?_frame (m : Mod) (key : Option (Nat × Nat)) (o : Outc) (reason : Nat) (data : List Byte) :
    (m.finish? key o reason data).now = m.now ∧ (m.finish? key o reason data).free = m.free
    ∧ (m.finish? key o reason data).power = m.power ∧ (m.finish? key o reason data).sched = m.sched
    ∧ (m.finish? key o reason data).lanes = m.lanes ∧ (m.finish? key o reason data).newel = m.newel
    ∧ (m.finish? key o reason data).prog = m.prog ∧ (m.finish? key o reason data).access = m.access
    ∧ (m.finish? key o reason data).pantry = m.pantry ∧ (m.finish? key o reason data).reflex = m.reflex
    ∧ (m.finish? key o reason data).loops = m.loops ∧ (m.finish? key o reason data).wins = m.wins
    ∧ (m.finish? key o reason data).conv = m.conv ∧ (m.finish? key o reason data).time = m.time
    ∧ (m.finish? key o reason data).bolt = m.bolt ∧ (m.finish? key o reason data).pair = m.pair
    ∧ (m.finish? key o reason data).card = m.card ∧ (m.finish? key o reason data).attic = m.attic
    ∧ (m.finish? key o reason data).upd = m.upd ∧ (m.finish? key o reason data).test = m.test := by
  unfold Mod.finish?; split <;> simp

@[simp] theorem Mod.raiseLoop_frame (m : Mod) (code ch meas cmd word : Nat) :
    (m.raiseLoop code ch meas cmd word).now = m.now ∧ (m.raiseLoop code ch meas cmd word).out = m.out
    ∧ (m.raiseLoop code ch meas cmd word).free = m.free ∧ (m.raiseLoop code ch meas cmd word).power = m.power
    ∧ (m.raiseLoop code ch meas cmd word).sched = m.sched ∧ (m.raiseLoop code ch meas cmd word).lanes = m.lanes
    ∧ (m.raiseLoop code ch meas cmd word).newel = m.newel ∧ (m.raiseLoop code ch meas cmd word).access = m.access
    ∧ (m.raiseLoop code ch meas cmd word).pantry = m.pantry ∧ (m.raiseLoop code ch meas cmd word).reflex = m.reflex
    ∧ (m.raiseLoop code ch meas cmd word).loops = m.loops ∧ (m.raiseLoop code ch meas cmd word).wins = m.wins
    ∧ (m.raiseLoop code ch meas cmd word).conv = m.conv ∧ (m.raiseLoop code ch meas cmd word).time = m.time
    ∧ (m.raiseLoop code ch meas cmd word).bolt = m.bolt ∧ (m.raiseLoop code ch meas cmd word).pair = m.pair
    ∧ (m.raiseLoop code ch meas cmd word).hall = m.hall ∧ (m.raiseLoop code ch meas cmd word).card = m.card
    ∧ (m.raiseLoop code ch meas cmd word).attic = m.attic ∧ (m.raiseLoop code ch meas cmd word).upd = m.upd
    ∧ (m.raiseLoop code ch meas cmd word).test = m.test ∧ (m.raiseLoop code ch meas cmd word).savis = m.savis := by
  unfold Mod.raiseLoop; simp

@[simp] theorem Mod.takeTrim_frame (m : Mod) (ch : Nat) (zero span : Int) (key : Option (Nat × Nat)) (delayed : Bool) :
    (m.takeTrim ch zero span key delayed).now = m.now ∧ (m.takeTrim ch zero span key delayed).out = m.out
    ∧ (m.takeTrim ch zero span key delayed).free = m.free ∧ (m.takeTrim ch zero span key delayed).power = m.power
    ∧ (m.takeTrim ch zero span key delayed).sched = m.sched ∧ (m.takeTrim ch zero span key delayed).lanes = m.lanes
    ∧ (m.takeTrim ch zero span key delayed).newel = m.newel ∧ (m.takeTrim ch zero span key delayed).prog = m.prog
    ∧ (m.takeTrim ch zero span key delayed).access = m.access
    ∧ (m.takeTrim ch zero span key delayed).pantry = m.pantry
    ∧ (m.takeTrim ch zero span key delayed).reflex = m.reflex ∧ (m.takeTrim ch zero span key delayed).wins = m.wins
    ∧ (m.takeTrim ch zero span key delayed).conv = m.conv ∧ (m.takeTrim ch zero span key delayed).time = m.time
    ∧ (m.takeTrim ch zero span key delayed).bolt = m.bolt ∧ (m.takeTrim ch zero span key delayed).pair = m.pair
    ∧ (m.takeTrim ch zero span key delayed).hall = m.hall ∧ (m.takeTrim ch zero span key delayed).attic = m.attic
    ∧ (m.takeTrim ch zero span key delayed).upd = m.upd ∧ (m.takeTrim ch zero span key delayed).test = m.test
    ∧ (m.takeTrim ch zero span key delayed).savis = m.savis := by
  unfold Mod.takeTrim; simp

@[simp] theorem Mod.panel_frame (m : Mod) (n : Nat) :
    (m.panel n).now = m.now ∧ (m.panel n).out = m.out ∧ (m.panel n).free = m.free ∧ (m.panel n).power = m.power
    ∧ (m.panel n).sched = m.sched ∧ (m.panel n).lanes = m.lanes ∧ (m.panel n).newel = m.newel
    ∧ (m.panel n).prog = m.prog ∧ (m.panel n).access = m.access ∧ (m.panel n).pantry = m.pantry
    ∧ (m.panel n).reflex = m.reflex ∧ (m.panel n).loops = m.loops ∧ (m.panel n).wins = m.wins
    ∧ (m.panel n).time = m.time ∧ (m.panel n).bolt = m.bolt ∧ (m.panel n).pair = m.pair ∧ (m.panel n).hall = m.hall
    ∧ (m.panel n).card = m.card ∧ (m.panel n).attic = m.attic ∧ (m.panel n).upd = m.upd ∧ (m.panel n).test = m.test
    ∧ (m.panel n).savis = m.savis := by
  unfold Mod.panel; simp

@[simp] theorem Mod.engOp_frame (m : Mod) (e : EngRef) (word : W32) (cost : Nat) (f : View → Res) :
    (m.engOp e word cost f).now = m.now ∧ (m.engOp e word cost f).out = m.out ∧ (m.engOp e word cost f).free = m.free
    ∧ (m.engOp e word cost f).power = m.power ∧ (m.engOp e word cost f).sched = m.sched
    ∧ (m.engOp e word cost f).newel = m.newel ∧ (m.engOp e word cost f).prog = m.prog
    ∧ (m.engOp e word cost f).access = m.access ∧ (m.engOp e word cost f).pantry = m.pantry
    ∧ (m.engOp e word cost f).reflex = m.reflex ∧ (m.engOp e word cost f).loops = m.loops
    ∧ (m.engOp e word cost f).wins = m.wins ∧ (m.engOp e word cost f).conv = m.conv
    ∧ (m.engOp e word cost f).time = m.time ∧ (m.engOp e word cost f).bolt = m.bolt
    ∧ (m.engOp e word cost f).pair = m.pair ∧ (m.engOp e word cost f).hall = m.hall
    ∧ (m.engOp e word cost f).card = m.card ∧ (m.engOp e word cost f).attic = m.attic
    ∧ (m.engOp e word cost f).upd = m.upd ∧ (m.engOp e word cost f).test = m.test
    ∧ (m.engOp e word cost f).savis = m.savis := by
  unfold Mod.engOp; (repeat' split) <;> simp

@[simp] theorem Mod.raiseStn_frame (m : Mod) (stn code reason : Nat) :
    (m.raiseStn stn code reason).now = m.now ∧ (m.raiseStn stn code reason).out = m.out
    ∧ (m.raiseStn stn code reason).free = m.free ∧ (m.raiseStn stn code reason).power = m.power
    ∧ (m.raiseStn stn code reason).sched = m.sched ∧ (m.raiseStn stn code reason).lanes = m.lanes
    ∧ (m.raiseStn stn code reason).newel = m.newel ∧ (m.raiseStn stn code reason).access = m.access
    ∧ (m.raiseStn stn code reason).pantry = m.pantry ∧ (m.raiseStn stn code reason).reflex = m.reflex
    ∧ (m.raiseStn stn code reason).loops = m.loops ∧ (m.raiseStn stn code reason).wins = m.wins
    ∧ (m.raiseStn stn code reason).conv = m.conv ∧ (m.raiseStn stn code reason).time = m.time
    ∧ (m.raiseStn stn code reason).bolt = m.bolt ∧ (m.raiseStn stn code reason).pair = m.pair
    ∧ (m.raiseStn stn code reason).hall = m.hall ∧ (m.raiseStn stn code reason).card = m.card
    ∧ (m.raiseStn stn code reason).attic = m.attic ∧ (m.raiseStn stn code reason).upd = m.upd
    ∧ (m.raiseStn stn code reason).test = m.test ∧ (m.raiseStn stn code reason).savis = m.savis := by
  unfold Mod.raiseStn; simp

@[simp] theorem Mod.stnState_frame (m : Mod) (stn : Nat) :
    (m.stnState stn).now = m.now ∧ (m.stnState stn).free = m.free ∧ (m.stnState stn).power = m.power
    ∧ (m.stnState stn).sched = m.sched ∧ (m.stnState stn).lanes = m.lanes ∧ (m.stnState stn).newel = m.newel
    ∧ (m.stnState stn).prog = m.prog ∧ (m.stnState stn).access = m.access ∧ (m.stnState stn).pantry = m.pantry
    ∧ (m.stnState stn).reflex = m.reflex ∧ (m.stnState stn).loops = m.loops ∧ (m.stnState stn).wins = m.wins
    ∧ (m.stnState stn).conv = m.conv ∧ (m.stnState stn).time = m.time ∧ (m.stnState stn).bolt = m.bolt
    ∧ (m.stnState stn).pair = m.pair ∧ (m.stnState stn).card = m.card ∧ (m.stnState stn).attic = m.attic
    ∧ (m.stnState stn).upd = m.upd ∧ (m.stnState stn).test = m.test ∧ (m.stnState stn).savis = m.savis := by
  unfold Mod.stnState; simp

@[simp] theorem Mod.reqOutcome_frame (m : Mod) (id : Nat) (o : Outc) :
    (m.reqOutcome id o).now = m.now ∧ (m.reqOutcome id o).out = m.out ∧ (m.reqOutcome id o).free = m.free
    ∧ (m.reqOutcome id o).power = m.power ∧ (m.reqOutcome id o).sched = m.sched ∧ (m.reqOutcome id o).lanes = m.lanes
    ∧ (m.reqOutcome id o).newel = m.newel ∧ (m.reqOutcome id o).access = m.access
    ∧ (m.reqOutcome id o).pantry = m.pantry ∧ (m.reqOutcome id o).reflex = m.reflex
    ∧ (m.reqOutcome id o).loops = m.loops ∧ (m.reqOutcome id o).wins = m.wins ∧ (m.reqOutcome id o).conv = m.conv
    ∧ (m.reqOutcome id o).time = m.time ∧ (m.reqOutcome id o).bolt = m.bolt ∧ (m.reqOutcome id o).pair = m.pair
    ∧ (m.reqOutcome id o).hall = m.hall ∧ (m.reqOutcome id o).card = m.card ∧ (m.reqOutcome id o).attic = m.attic
    ∧ (m.reqOutcome id o).upd = m.upd ∧ (m.reqOutcome id o).test = m.test ∧ (m.reqOutcome id o).savis = m.savis := by
  unfold Mod.reqOutcome; simp

@[simp] theorem Mod.mirror_frame (m : Mod) (op : Nat) (eng : Bool) (stn : Nat) (i : Item) (o : Outc) (body : List Byte) :
    (m.mirror op eng stn i o body).now = m.now ∧ (m.mirror op eng stn i o body).free = m.free
    ∧ (m.mirror op eng stn i o body).power = m.power ∧ (m.mirror op eng stn i o body).sched = m.sched
    ∧ (m.mirror op eng stn i o body).lanes = m.lanes ∧ (m.mirror op eng stn i o body).newel = m.newel
    ∧ (m.mirror op eng stn i o body).prog = m.prog ∧ (m.mirror op eng stn i o body).access = m.access
    ∧ (m.mirror op eng stn i o body).pantry = m.pantry ∧ (m.mirror op eng stn i o body).reflex = m.reflex
    ∧ (m.mirror op eng stn i o body).loops = m.loops ∧ (m.mirror op eng stn i o body).wins = m.wins
    ∧ (m.mirror op eng stn i o body).conv = m.conv ∧ (m.mirror op eng stn i o body).time = m.time
    ∧ (m.mirror op eng stn i o body).bolt = m.bolt ∧ (m.mirror op eng stn i o body).pair = m.pair
    ∧ (m.mirror op eng stn i o body).card = m.card ∧ (m.mirror op eng stn i o body).attic = m.attic
    ∧ (m.mirror op eng stn i o body).upd = m.upd ∧ (m.mirror op eng stn i o body).test = m.test
    ∧ (m.mirror op eng stn i o body).savis = m.savis := by
  unfold Mod.mirror; simp

@[simp] theorem Mod.endItem_frame (m : Mod) (stn : Nat) (i : Item) (o : Outc) (data : List Byte) :
    (m.endItem stn i o data).now = m.now ∧ (m.endItem stn i o data).free = m.free
    ∧ (m.endItem stn i o data).power = m.power ∧ (m.endItem stn i o data).sched = m.sched
    ∧ (m.endItem stn i o data).lanes = m.lanes ∧ (m.endItem stn i o data).newel = m.newel
    ∧ (m.endItem stn i o data).access = m.access ∧ (m.endItem stn i o data).reflex = m.reflex
    ∧ (m.endItem stn i o data).loops = m.loops ∧ (m.endItem stn i o data).wins = m.wins
    ∧ (m.endItem stn i o data).conv = m.conv ∧ (m.endItem stn i o data).time = m.time
    ∧ (m.endItem stn i o data).bolt = m.bolt ∧ (m.endItem stn i o data).pair = m.pair
    ∧ (m.endItem stn i o data).card = m.card ∧ (m.endItem stn i o data).attic = m.attic
    ∧ (m.endItem stn i o data).upd = m.upd := by
  unfold Mod.endItem; (repeat' split) <;> simp

@[simp] theorem Mod.endFlight_frame (m : Mod) (stn : Nat) (o : Outc) (data : List Byte) :
    (m.endFlight stn o data).now = m.now ∧ (m.endFlight stn o data).free = m.free
    ∧ (m.endFlight stn o data).power = m.power ∧ (m.endFlight stn o data).sched = m.sched
    ∧ (m.endFlight stn o data).lanes = m.lanes ∧ (m.endFlight stn o data).newel = m.newel
    ∧ (m.endFlight stn o data).access = m.access ∧ (m.endFlight stn o data).reflex = m.reflex
    ∧ (m.endFlight stn o data).loops = m.loops ∧ (m.endFlight stn o data).wins = m.wins
    ∧ (m.endFlight stn o data).conv = m.conv ∧ (m.endFlight stn o data).time = m.time
    ∧ (m.endFlight stn o data).bolt = m.bolt ∧ (m.endFlight stn o data).pair = m.pair
    ∧ (m.endFlight stn o data).card = m.card ∧ (m.endFlight stn o data).attic = m.attic
    ∧ (m.endFlight stn o data).upd = m.upd := by
  unfold Mod.endFlight; split <;> simp

@[simp] theorem Mod.endAll_frame (m : Mod) (stn : Nat) (o : Outc) :
    (m.endAll stn o).now = m.now ∧ (m.endAll stn o).free = m.free ∧ (m.endAll stn o).power = m.power
    ∧ (m.endAll stn o).sched = m.sched ∧ (m.endAll stn o).lanes = m.lanes ∧ (m.endAll stn o).newel = m.newel
    ∧ (m.endAll stn o).access = m.access ∧ (m.endAll stn o).reflex = m.reflex ∧ (m.endAll stn o).loops = m.loops
    ∧ (m.endAll stn o).wins = m.wins ∧ (m.endAll stn o).conv = m.conv ∧ (m.endAll stn o).time = m.time
    ∧ (m.endAll stn o).bolt = m.bolt ∧ (m.endAll stn o).pair = m.pair ∧ (m.endAll stn o).card = m.card
    ∧ (m.endAll stn o).attic = m.attic ∧ (m.endAll stn o).upd = m.upd := by
  unfold Mod.endAll; simp

@[simp] theorem Mod.itemPending_frame (m : Mod) (i : Item) (qpos : Nat) :
    (m.itemPending i qpos).now = m.now ∧ (m.itemPending i qpos).free = m.free ∧ (m.itemPending i qpos).power = m.power
    ∧ (m.itemPending i qpos).sched = m.sched ∧ (m.itemPending i qpos).lanes = m.lanes
    ∧ (m.itemPending i qpos).newel = m.newel ∧ (m.itemPending i qpos).access = m.access
    ∧ (m.itemPending i qpos).pantry = m.pantry ∧ (m.itemPending i qpos).reflex = m.reflex
    ∧ (m.itemPending i qpos).loops = m.loops ∧ (m.itemPending i qpos).wins = m.wins
    ∧ (m.itemPending i qpos).conv = m.conv ∧ (m.itemPending i qpos).time = m.time
    ∧ (m.itemPending i qpos).bolt = m.bolt ∧ (m.itemPending i qpos).pair = m.pair
    ∧ (m.itemPending i qpos).hall = m.hall ∧ (m.itemPending i qpos).card = m.card
    ∧ (m.itemPending i qpos).attic = m.attic ∧ (m.itemPending i qpos).upd = m.upd
    ∧ (m.itemPending i qpos).test = m.test := by
  unfold Mod.itemPending; split <;> simp

@[simp] theorem Mod.putItem_frame (m : Mod) (stn : Nat) (i : Item) :
    (m.putItem stn i).now = m.now ∧ (m.putItem stn i).free = m.free ∧ (m.putItem stn i).power = m.power
    ∧ (m.putItem stn i).sched = m.sched ∧ (m.putItem stn i).lanes = m.lanes ∧ (m.putItem stn i).newel = m.newel
    ∧ (m.putItem stn i).access = m.access ∧ (m.putItem stn i).reflex = m.reflex ∧ (m.putItem stn i).loops = m.loops
    ∧ (m.putItem stn i).wins = m.wins ∧ (m.putItem stn i).conv = m.conv ∧ (m.putItem stn i).time = m.time
    ∧ (m.putItem stn i).bolt = m.bolt ∧ (m.putItem stn i).pair = m.pair ∧ (m.putItem stn i).card = m.card
    ∧ (m.putItem stn i).attic = m.attic ∧ (m.putItem stn i).upd = m.upd ∧ (m.putItem stn i).test = m.test := by
  unfold Mod.putItem; simp

@[simp] theorem Mod.sendRole_frame (m : Mod) :
    (m.sendRole).now = m.now ∧ (m.sendRole).free = m.free ∧ (m.sendRole).power = m.power
    ∧ (m.sendRole).sched = m.sched ∧ (m.sendRole).lanes = m.lanes ∧ (m.sendRole).newel = m.newel
    ∧ (m.sendRole).prog = m.prog ∧ (m.sendRole).access = m.access ∧ (m.sendRole).pantry = m.pantry
    ∧ (m.sendRole).reflex = m.reflex ∧ (m.sendRole).loops = m.loops ∧ (m.sendRole).wins = m.wins
    ∧ (m.sendRole).conv = m.conv ∧ (m.sendRole).time = m.time ∧ (m.sendRole).bolt = m.bolt
    ∧ (m.sendRole).pair = m.pair ∧ (m.sendRole).card = m.card ∧ (m.sendRole).attic = m.attic
    ∧ (m.sendRole).upd = m.upd ∧ (m.sendRole).test = m.test ∧ (m.sendRole).savis = m.savis := by
  unfold Mod.sendRole; simp

@[simp] theorem Mod.raisePair_frame (m : Mod) (code gap : Nat) :
    (m.raisePair code gap).now = m.now ∧ (m.raisePair code gap).out = m.out ∧ (m.raisePair code gap).free = m.free
    ∧ (m.raisePair code gap).power = m.power ∧ (m.raisePair code gap).sched = m.sched
    ∧ (m.raisePair code gap).lanes = m.lanes ∧ (m.raisePair code gap).newel = m.newel
    ∧ (m.raisePair code gap).access = m.access ∧ (m.raisePair code gap).pantry = m.pantry
    ∧ (m.raisePair code gap).reflex = m.reflex ∧ (m.raisePair code gap).loops = m.loops
    ∧ (m.raisePair code gap).wins = m.wins ∧ (m.raisePair code gap).conv = m.conv
    ∧ (m.raisePair code gap).time = m.time ∧ (m.raisePair code gap).bolt = m.bolt
    ∧ (m.raisePair code gap).pair = m.pair ∧ (m.raisePair code gap).hall = m.hall
    ∧ (m.raisePair code gap).card = m.card ∧ (m.raisePair code gap).attic = m.attic
    ∧ (m.raisePair code gap).upd = m.upd ∧ (m.raisePair code gap).test = m.test
    ∧ (m.raisePair code gap).savis = m.savis := by
  unfold Mod.raisePair; simp

@[simp] theorem Mod.abortRot_frame (m : Mod) (o : Outc) :
    (m.abortRot o).now = m.now ∧ (m.abortRot o).free = m.free ∧ (m.abortRot o).sched = m.sched
    ∧ (m.abortRot o).newel = m.newel ∧ (m.abortRot o).prog = m.prog ∧ (m.abortRot o).access = m.access
    ∧ (m.abortRot o).pantry = m.pantry ∧ (m.abortRot o).reflex = m.reflex ∧ (m.abortRot o).loops = m.loops
    ∧ (m.abortRot o).wins = m.wins ∧ (m.abortRot o).conv = m.conv ∧ (m.abortRot o).time = m.time
    ∧ (m.abortRot o).bolt = m.bolt ∧ (m.abortRot o).pair = m.pair ∧ (m.abortRot o).card = m.card
    ∧ (m.abortRot o).attic = m.attic ∧ (m.abortRot o).upd = m.upd := by
  unfold Mod.abortRot; simp

@[simp] theorem Mod.endPlan_frame (m : Mod) (st : PlanState) (o : Outc) :
    (m.endPlan st o).now = m.now ∧ (m.endPlan st o).free = m.free ∧ (m.endPlan st o).power = m.power
    ∧ (m.endPlan st o).sched = m.sched ∧ (m.endPlan st o).lanes = m.lanes ∧ (m.endPlan st o).newel = m.newel
    ∧ (m.endPlan st o).prog = m.prog ∧ (m.endPlan st o).access = m.access ∧ (m.endPlan st o).pantry = m.pantry
    ∧ (m.endPlan st o).reflex = m.reflex ∧ (m.endPlan st o).loops = m.loops ∧ (m.endPlan st o).wins = m.wins
    ∧ (m.endPlan st o).conv = m.conv ∧ (m.endPlan st o).time = m.time ∧ (m.endPlan st o).bolt = m.bolt
    ∧ (m.endPlan st o).card = m.card ∧ (m.endPlan st o).attic = m.attic ∧ (m.endPlan st o).upd = m.upd
    ∧ (m.endPlan st o).test = m.test := by
  unfold Mod.endPlan; split <;> simp

@[simp] theorem Mod.raiseLane_frame (m : Mod) (x : LaneId) (code : Nat) (cause : Cause) (kind cls relTick ofs : Nat) (retired : Bool) :
    (m.raiseLane x code cause kind cls relTick ofs retired).now = m.now
    ∧ (m.raiseLane x code cause kind cls relTick ofs retired).out = m.out
    ∧ (m.raiseLane x code cause kind cls relTick ofs retired).free = m.free
    ∧ (m.raiseLane x code cause kind cls relTick ofs retired).power = m.power
    ∧ (m.raiseLane x code cause kind cls relTick ofs retired).sched = m.sched
    ∧ (m.raiseLane x code cause kind cls relTick ofs retired).lanes = m.lanes
    ∧ (m.raiseLane x code cause kind cls relTick ofs retired).newel = m.newel
    ∧ (m.raiseLane x code cause kind cls relTick ofs retired).access = m.access
    ∧ (m.raiseLane x code cause kind cls relTick ofs retired).pantry = m.pantry
    ∧ (m.raiseLane x code cause kind cls relTick ofs retired).reflex = m.reflex
    ∧ (m.raiseLane x code cause kind cls relTick ofs retired).loops = m.loops
    ∧ (m.raiseLane x code cause kind cls relTick ofs retired).wins = m.wins
    ∧ (m.raiseLane x code cause kind cls relTick ofs retired).conv = m.conv
    ∧ (m.raiseLane x code cause kind cls relTick ofs retired).time = m.time
    ∧ (m.raiseLane x code cause kind cls relTick ofs retired).bolt = m.bolt
    ∧ (m.raiseLane x code cause kind cls relTick ofs retired).pair = m.pair
    ∧ (m.raiseLane x code cause kind cls relTick ofs retired).hall = m.hall
    ∧ (m.raiseLane x code cause kind cls relTick ofs retired).card = m.card
    ∧ (m.raiseLane x code cause kind cls relTick ofs retired).attic = m.attic
    ∧ (m.raiseLane x code cause kind cls relTick ofs retired).upd = m.upd
    ∧ (m.raiseLane x code cause kind cls relTick ofs retired).test = m.test
    ∧ (m.raiseLane x code cause kind cls relTick ofs retired).savis = m.savis := by
  unfold Mod.raiseLane; simp

@[simp] theorem Mod.retire_frame (m : Mod) (x : LaneId) (cause : Cause) :
    (m.retire x cause).now = m.now ∧ (m.retire x cause).out = m.out ∧ (m.retire x cause).free = m.free
    ∧ (m.retire x cause).sched = m.sched ∧ (m.retire x cause).newel = m.newel ∧ (m.retire x cause).prog = m.prog
    ∧ (m.retire x cause).access = m.access ∧ (m.retire x cause).pantry = m.pantry
    ∧ (m.retire x cause).reflex = m.reflex ∧ (m.retire x cause).loops = m.loops ∧ (m.retire x cause).wins = m.wins
    ∧ (m.retire x cause).conv = m.conv ∧ (m.retire x cause).time = m.time ∧ (m.retire x cause).bolt = m.bolt
    ∧ (m.retire x cause).pair = m.pair ∧ (m.retire x cause).hall = m.hall ∧ (m.retire x cause).card = m.card
    ∧ (m.retire x cause).attic = m.attic ∧ (m.retire x cause).upd = m.upd ∧ (m.retire x cause).test = m.test
    ∧ (m.retire x cause).savis = m.savis := by
  unfold Mod.retire; simp

@[simp] theorem Mod.joinDonor_frame (m : Mod) (x : LaneId) :
    (m.joinDonor x).now = m.now ∧ (m.joinDonor x).out = m.out ∧ (m.joinDonor x).free = m.free
    ∧ (m.joinDonor x).power = m.power ∧ (m.joinDonor x).sched = m.sched ∧ (m.joinDonor x).lanes = m.lanes
    ∧ (m.joinDonor x).newel = m.newel ∧ (m.joinDonor x).prog = m.prog ∧ (m.joinDonor x).access = m.access
    ∧ (m.joinDonor x).pantry = m.pantry ∧ (m.joinDonor x).reflex = m.reflex ∧ (m.joinDonor x).loops = m.loops
    ∧ (m.joinDonor x).wins = m.wins ∧ (m.joinDonor x).conv = m.conv ∧ (m.joinDonor x).time = m.time
    ∧ (m.joinDonor x).bolt = m.bolt ∧ (m.joinDonor x).pair = m.pair ∧ (m.joinDonor x).card = m.card
    ∧ (m.joinDonor x).attic = m.attic ∧ (m.joinDonor x).upd = m.upd ∧ (m.joinDonor x).test = m.test
    ∧ (m.joinDonor x).savis = m.savis := by
  unfold Mod.joinDonor; simp

@[simp] theorem Mod.takeOut_frame (m : Mod) (x : LaneId) (cause : Cause) (kind cls relTick ofs : Nat) :
    (m.takeOut x cause kind cls relTick ofs).now = m.now ∧ (m.takeOut x cause kind cls relTick ofs).out = m.out
    ∧ (m.takeOut x cause kind cls relTick ofs).free = m.free
    ∧ (m.takeOut x cause kind cls relTick ofs).sched = m.sched
    ∧ (m.takeOut x cause kind cls relTick ofs).newel = m.newel
    ∧ (m.takeOut x cause kind cls relTick ofs).access = m.access
    ∧ (m.takeOut x cause kind cls relTick ofs).pantry = m.pantry
    ∧ (m.takeOut x cause kind cls relTick ofs).reflex = m.reflex
    ∧ (m.takeOut x cause kind cls relTick ofs).loops = m.loops
    ∧ (m.takeOut x cause kind cls relTick ofs).wins = m.wins ∧ (m.takeOut x cause kind cls relTick ofs).conv = m.conv
    ∧ (m.takeOut x cause kind cls relTick ofs).time = m.time ∧ (m.takeOut x cause kind cls relTick ofs).bolt = m.bolt
    ∧ (m.takeOut x cause kind cls relTick ofs).pair = m.pair ∧ (m.takeOut x cause kind cls relTick ofs).card = m.card
    ∧ (m.takeOut x cause kind cls relTick ofs).attic = m.attic ∧ (m.takeOut x cause kind cls relTick ofs).upd = m.upd
    ∧ (m.takeOut x cause kind cls relTick ofs).test = m.test
    ∧ (m.takeOut x cause kind cls relTick ofs).savis = m.savis := by
  unfold Mod.takeOut; simp

@[simp] theorem Mod.startComp_frame (m : Mod) (c : Comp) :
    (m.startComp c).now = m.now ∧ (m.startComp c).out = m.out ∧ (m.startComp c).free = m.free
    ∧ (m.startComp c).power = m.power ∧ (m.startComp c).sched = m.sched ∧ (m.startComp c).lanes = m.lanes
    ∧ (m.startComp c).newel = m.newel ∧ (m.startComp c).prog = m.prog ∧ (m.startComp c).access = m.access
    ∧ (m.startComp c).pantry = m.pantry ∧ (m.startComp c).reflex = m.reflex ∧ (m.startComp c).loops = m.loops
    ∧ (m.startComp c).wins = m.wins ∧ (m.startComp c).conv = m.conv ∧ (m.startComp c).time = m.time
    ∧ (m.startComp c).bolt = m.bolt ∧ (m.startComp c).pair = m.pair ∧ (m.startComp c).hall = m.hall
    ∧ (m.startComp c).attic = m.attic ∧ (m.startComp c).upd = m.upd ∧ (m.startComp c).test = m.test
    ∧ (m.startComp c).savis = m.savis := by
  unfold Mod.startComp; simp

@[simp] theorem Mod.compact_frame (m : Mod) (kind : CompKind) (layout : Nat) (key : Option (Nat × Nat)) :
    (m.compact kind layout key).now = m.now ∧ (m.compact kind layout key).out = m.out
    ∧ (m.compact kind layout key).free = m.free ∧ (m.compact kind layout key).power = m.power
    ∧ (m.compact kind layout key).sched = m.sched ∧ (m.compact kind layout key).lanes = m.lanes
    ∧ (m.compact kind layout key).newel = m.newel ∧ (m.compact kind layout key).prog = m.prog
    ∧ (m.compact kind layout key).access = m.access ∧ (m.compact kind layout key).pantry = m.pantry
    ∧ (m.compact kind layout key).reflex = m.reflex ∧ (m.compact kind layout key).loops = m.loops
    ∧ (m.compact kind layout key).wins = m.wins ∧ (m.compact kind layout key).conv = m.conv
    ∧ (m.compact kind layout key).time = m.time ∧ (m.compact kind layout key).bolt = m.bolt
    ∧ (m.compact kind layout key).pair = m.pair ∧ (m.compact kind layout key).hall = m.hall
    ∧ (m.compact kind layout key).attic = m.attic ∧ (m.compact kind layout key).upd = m.upd
    ∧ (m.compact kind layout key).test = m.test ∧ (m.compact kind layout key).savis = m.savis := by
  unfold Mod.compact; (repeat' split) <;> simp

@[simp] theorem Mod.writeBase_frame (m : Mod) (kind : CompKind) (img : Image) (key : Option (Nat × Nat)) :
    (m.writeBase kind img key).now = m.now ∧ (m.writeBase kind img key).out = m.out
    ∧ (m.writeBase kind img key).free = m.free ∧ (m.writeBase kind img key).power = m.power
    ∧ (m.writeBase kind img key).sched = m.sched ∧ (m.writeBase kind img key).lanes = m.lanes
    ∧ (m.writeBase kind img key).newel = m.newel ∧ (m.writeBase kind img key).prog = m.prog
    ∧ (m.writeBase kind img key).access = m.access ∧ (m.writeBase kind img key).pantry = m.pantry
    ∧ (m.writeBase kind img key).reflex = m.reflex ∧ (m.writeBase kind img key).loops = m.loops
    ∧ (m.writeBase kind img key).wins = m.wins ∧ (m.writeBase kind img key).conv = m.conv
    ∧ (m.writeBase kind img key).time = m.time ∧ (m.writeBase kind img key).bolt = m.bolt
    ∧ (m.writeBase kind img key).pair = m.pair ∧ (m.writeBase kind img key).hall = m.hall
    ∧ (m.writeBase kind img key).attic = m.attic ∧ (m.writeBase kind img key).upd = m.upd
    ∧ (m.writeBase kind img key).test = m.test ∧ (m.writeBase kind img key).savis = m.savis := by
  unfold Mod.writeBase; simp

@[simp] theorem Mod.rewriteCard_frame (m : Mod) :
    (m.rewriteCard).now = m.now ∧ (m.rewriteCard).out = m.out ∧ (m.rewriteCard).free = m.free
    ∧ (m.rewriteCard).power = m.power ∧ (m.rewriteCard).sched = m.sched ∧ (m.rewriteCard).lanes = m.lanes
    ∧ (m.rewriteCard).newel = m.newel ∧ (m.rewriteCard).prog = m.prog ∧ (m.rewriteCard).access = m.access
    ∧ (m.rewriteCard).pantry = m.pantry ∧ (m.rewriteCard).reflex = m.reflex ∧ (m.rewriteCard).loops = m.loops
    ∧ (m.rewriteCard).wins = m.wins ∧ (m.rewriteCard).conv = m.conv ∧ (m.rewriteCard).time = m.time
    ∧ (m.rewriteCard).bolt = m.bolt ∧ (m.rewriteCard).pair = m.pair ∧ (m.rewriteCard).hall = m.hall
    ∧ (m.rewriteCard).attic = m.attic ∧ (m.rewriteCard).upd = m.upd ∧ (m.rewriteCard).test = m.test
    ∧ (m.rewriteCard).savis = m.savis := by
  unfold Mod.rewriteCard; split <;> simp

@[simp] theorem Mod.atticTake_frame (m : Mod) (kind : W32) (relTick : Nat) (words : List (Nat × W64)) :
    (m.atticTake kind relTick words).now = m.now ∧ (m.atticTake kind relTick words).out = m.out
    ∧ (m.atticTake kind relTick words).free = m.free ∧ (m.atticTake kind relTick words).power = m.power
    ∧ (m.atticTake kind relTick words).sched = m.sched ∧ (m.atticTake kind relTick words).lanes = m.lanes
    ∧ (m.atticTake kind relTick words).newel = m.newel ∧ (m.atticTake kind relTick words).prog = m.prog
    ∧ (m.atticTake kind relTick words).access = m.access ∧ (m.atticTake kind relTick words).pantry = m.pantry
    ∧ (m.atticTake kind relTick words).reflex = m.reflex ∧ (m.atticTake kind relTick words).loops = m.loops
    ∧ (m.atticTake kind relTick words).wins = m.wins ∧ (m.atticTake kind relTick words).conv = m.conv
    ∧ (m.atticTake kind relTick words).time = m.time ∧ (m.atticTake kind relTick words).bolt = m.bolt
    ∧ (m.atticTake kind relTick words).pair = m.pair ∧ (m.atticTake kind relTick words).hall = m.hall
    ∧ (m.atticTake kind relTick words).card = m.card ∧ (m.atticTake kind relTick words).upd = m.upd
    ∧ (m.atticTake kind relTick words).test = m.test ∧ (m.atticTake kind relTick words).savis = m.savis := by
  unfold Mod.atticTake; simp

@[simp] theorem Mod.atticCommitNow_frame (m : Mod) :
    (m.atticCommitNow).now = m.now ∧ (m.atticCommitNow).out = m.out ∧ (m.atticCommitNow).free = m.free
    ∧ (m.atticCommitNow).power = m.power ∧ (m.atticCommitNow).sched = m.sched ∧ (m.atticCommitNow).lanes = m.lanes
    ∧ (m.atticCommitNow).newel = m.newel ∧ (m.atticCommitNow).prog = m.prog ∧ (m.atticCommitNow).access = m.access
    ∧ (m.atticCommitNow).pantry = m.pantry ∧ (m.atticCommitNow).reflex = m.reflex ∧ (m.atticCommitNow).loops = m.loops
    ∧ (m.atticCommitNow).wins = m.wins ∧ (m.atticCommitNow).conv = m.conv ∧ (m.atticCommitNow).time = m.time
    ∧ (m.atticCommitNow).bolt = m.bolt ∧ (m.atticCommitNow).pair = m.pair ∧ (m.atticCommitNow).hall = m.hall
    ∧ (m.atticCommitNow).upd = m.upd ∧ (m.atticCommitNow).test = m.test ∧ (m.atticCommitNow).savis = m.savis := by
  unfold Mod.atticCommitNow; simp

@[simp] theorem Mod.atticRefill_frame (m : Mod) (words : List (Nat × W64)) :
    (m.atticRefill words).now = m.now ∧ (m.atticRefill words).out = m.out ∧ (m.atticRefill words).free = m.free
    ∧ (m.atticRefill words).power = m.power ∧ (m.atticRefill words).sched = m.sched
    ∧ (m.atticRefill words).lanes = m.lanes ∧ (m.atticRefill words).newel = m.newel
    ∧ (m.atticRefill words).prog = m.prog ∧ (m.atticRefill words).access = m.access
    ∧ (m.atticRefill words).pantry = m.pantry ∧ (m.atticRefill words).reflex = m.reflex
    ∧ (m.atticRefill words).loops = m.loops ∧ (m.atticRefill words).wins = m.wins
    ∧ (m.atticRefill words).conv = m.conv ∧ (m.atticRefill words).time = m.time ∧ (m.atticRefill words).bolt = m.bolt
    ∧ (m.atticRefill words).pair = m.pair ∧ (m.atticRefill words).hall = m.hall ∧ (m.atticRefill words).card = m.card
    ∧ (m.atticRefill words).upd = m.upd ∧ (m.atticRefill words).test = m.test ∧ (m.atticRefill words).savis = m.savis := by
  unfold Mod.atticRefill; simp

@[simp] theorem Mod.raiseTime_frame (m : Mod) (code : Nat) (offset : Int) (calendar : Bool) :
    (m.raiseTime code offset calendar).now = m.now ∧ (m.raiseTime code offset calendar).out = m.out
    ∧ (m.raiseTime code offset calendar).free = m.free ∧ (m.raiseTime code offset calendar).power = m.power
    ∧ (m.raiseTime code offset calendar).sched = m.sched ∧ (m.raiseTime code offset calendar).lanes = m.lanes
    ∧ (m.raiseTime code offset calendar).newel = m.newel ∧ (m.raiseTime code offset calendar).access = m.access
    ∧ (m.raiseTime code offset calendar).pantry = m.pantry ∧ (m.raiseTime code offset calendar).reflex = m.reflex
    ∧ (m.raiseTime code offset calendar).loops = m.loops ∧ (m.raiseTime code offset calendar).wins = m.wins
    ∧ (m.raiseTime code offset calendar).conv = m.conv ∧ (m.raiseTime code offset calendar).time = m.time
    ∧ (m.raiseTime code offset calendar).bolt = m.bolt ∧ (m.raiseTime code offset calendar).pair = m.pair
    ∧ (m.raiseTime code offset calendar).hall = m.hall ∧ (m.raiseTime code offset calendar).card = m.card
    ∧ (m.raiseTime code offset calendar).attic = m.attic ∧ (m.raiseTime code offset calendar).upd = m.upd
    ∧ (m.raiseTime code offset calendar).test = m.test ∧ (m.raiseTime code offset calendar).savis = m.savis := by
  unfold Mod.raiseTime; simp

@[simp] theorem Mod.refChanged_frame (m : Mod) (offset : Int) (calendar : Bool) :
    (m.refChanged offset calendar).now = m.now ∧ (m.refChanged offset calendar).out = m.out
    ∧ (m.refChanged offset calendar).free = m.free ∧ (m.refChanged offset calendar).power = m.power
    ∧ (m.refChanged offset calendar).sched = m.sched ∧ (m.refChanged offset calendar).lanes = m.lanes
    ∧ (m.refChanged offset calendar).newel = m.newel ∧ (m.refChanged offset calendar).access = m.access
    ∧ (m.refChanged offset calendar).pantry = m.pantry ∧ (m.refChanged offset calendar).reflex = m.reflex
    ∧ (m.refChanged offset calendar).loops = m.loops ∧ (m.refChanged offset calendar).wins = m.wins
    ∧ (m.refChanged offset calendar).conv = m.conv ∧ (m.refChanged offset calendar).bolt = m.bolt
    ∧ (m.refChanged offset calendar).pair = m.pair ∧ (m.refChanged offset calendar).hall = m.hall
    ∧ (m.refChanged offset calendar).card = m.card ∧ (m.refChanged offset calendar).attic = m.attic
    ∧ (m.refChanged offset calendar).upd = m.upd ∧ (m.refChanged offset calendar).test = m.test
    ∧ (m.refChanged offset calendar).savis = m.savis := by
  unfold Mod.refChanged; simp

@[simp] theorem Mod.refLost_frame (m : Mod) (offset : Int) (calendar : Bool) :
    (m.refLost offset calendar).now = m.now ∧ (m.refLost offset calendar).out = m.out
    ∧ (m.refLost offset calendar).free = m.free ∧ (m.refLost offset calendar).power = m.power
    ∧ (m.refLost offset calendar).sched = m.sched ∧ (m.refLost offset calendar).lanes = m.lanes
    ∧ (m.refLost offset calendar).newel = m.newel ∧ (m.refLost offset calendar).access = m.access
    ∧ (m.refLost offset calendar).pantry = m.pantry ∧ (m.refLost offset calendar).reflex = m.reflex
    ∧ (m.refLost offset calendar).loops = m.loops ∧ (m.refLost offset calendar).wins = m.wins
    ∧ (m.refLost offset calendar).conv = m.conv ∧ (m.refLost offset calendar).bolt = m.bolt
    ∧ (m.refLost offset calendar).pair = m.pair ∧ (m.refLost offset calendar).hall = m.hall
    ∧ (m.refLost offset calendar).card = m.card ∧ (m.refLost offset calendar).attic = m.attic
    ∧ (m.refLost offset calendar).upd = m.upd ∧ (m.refLost offset calendar).test = m.test
    ∧ (m.refLost offset calendar).savis = m.savis := by
  unfold Mod.refLost; simp

@[simp] theorem Mod.publish_frame (m : Mod) (data : Areas) (rs : List Range) :
    (m.publish data rs).now = m.now ∧ (m.publish data rs).out = m.out ∧ (m.publish data rs).free = m.free
    ∧ (m.publish data rs).power = m.power ∧ (m.publish data rs).sched = m.sched ∧ (m.publish data rs).lanes = m.lanes
    ∧ (m.publish data rs).newel = m.newel ∧ (m.publish data rs).prog = m.prog ∧ (m.publish data rs).access = m.access
    ∧ (m.publish data rs).reflex = m.reflex ∧ (m.publish data rs).loops = m.loops ∧ (m.publish data rs).wins = m.wins
    ∧ (m.publish data rs).conv = m.conv ∧ (m.publish data rs).time = m.time ∧ (m.publish data rs).bolt = m.bolt
    ∧ (m.publish data rs).pair = m.pair ∧ (m.publish data rs).hall = m.hall ∧ (m.publish data rs).card = m.card
    ∧ (m.publish data rs).attic = m.attic ∧ (m.publish data rs).upd = m.upd ∧ (m.publish data rs).test = m.test
    ∧ (m.publish data rs).savis = m.savis := by
  unfold Mod.publish; simp

@[simp] theorem Mod.enter_frame (m : Mod) (gen stn : Nat) (bytes : List Byte) :
    (m.enter gen stn bytes).now = m.now ∧ (m.enter gen stn bytes).out = m.out ∧ (m.enter gen stn bytes).free = m.free
    ∧ (m.enter gen stn bytes).power = m.power ∧ (m.enter gen stn bytes).sched = m.sched
    ∧ (m.enter gen stn bytes).lanes = m.lanes ∧ (m.enter gen stn bytes).newel = m.newel
    ∧ (m.enter gen stn bytes).prog = m.prog ∧ (m.enter gen stn bytes).access = m.access
    ∧ (m.enter gen stn bytes).reflex = m.reflex ∧ (m.enter gen stn bytes).loops = m.loops
    ∧ (m.enter gen stn bytes).wins = m.wins ∧ (m.enter gen stn bytes).conv = m.conv
    ∧ (m.enter gen stn bytes).time = m.time ∧ (m.enter gen stn bytes).bolt = m.bolt
    ∧ (m.enter gen stn bytes).pair = m.pair ∧ (m.enter gen stn bytes).hall = m.hall
    ∧ (m.enter gen stn bytes).card = m.card ∧ (m.enter gen stn bytes).attic = m.attic
    ∧ (m.enter gen stn bytes).upd = m.upd ∧ (m.enter gen stn bytes).test = m.test
    ∧ (m.enter gen stn bytes).savis = m.savis := by
  unfold Mod.enter; split <;> simp

@[simp] theorem Mod.enterPayload_frame (m : Mod) (stn : Nat) (k : Kept) :
    (m.enterPayload stn k).now = m.now ∧ (m.enterPayload stn k).out = m.out ∧ (m.enterPayload stn k).free = m.free
    ∧ (m.enterPayload stn k).power = m.power ∧ (m.enterPayload stn k).sched = m.sched
    ∧ (m.enterPayload stn k).lanes = m.lanes ∧ (m.enterPayload stn k).newel = m.newel
    ∧ (m.enterPayload stn k).prog = m.prog ∧ (m.enterPayload stn k).access = m.access
    ∧ (m.enterPayload stn k).reflex = m.reflex ∧ (m.enterPayload stn k).loops = m.loops
    ∧ (m.enterPayload stn k).wins = m.wins ∧ (m.enterPayload stn k).conv = m.conv
    ∧ (m.enterPayload stn k).time = m.time ∧ (m.enterPayload stn k).bolt = m.bolt
    ∧ (m.enterPayload stn k).pair = m.pair ∧ (m.enterPayload stn k).hall = m.hall
    ∧ (m.enterPayload stn k).card = m.card ∧ (m.enterPayload stn k).attic = m.attic
    ∧ (m.enterPayload stn k).upd = m.upd ∧ (m.enterPayload stn k).test = m.test
    ∧ (m.enterPayload stn k).savis = m.savis := by
  unfold Mod.enterPayload; simp

@[simp] theorem Mod.tspState_frame (m : Mod) (stn : Nat) (st : TspState) :
    (m.tspState stn st).now = m.now ∧ (m.tspState stn st).free = m.free ∧ (m.tspState stn st).power = m.power
    ∧ (m.tspState stn st).sched = m.sched ∧ (m.tspState stn st).lanes = m.lanes ∧ (m.tspState stn st).newel = m.newel
    ∧ (m.tspState stn st).prog = m.prog ∧ (m.tspState stn st).access = m.access
    ∧ (m.tspState stn st).reflex = m.reflex ∧ (m.tspState stn st).loops = m.loops ∧ (m.tspState stn st).wins = m.wins
    ∧ (m.tspState stn st).conv = m.conv ∧ (m.tspState stn st).time = m.time ∧ (m.tspState stn st).bolt = m.bolt
    ∧ (m.tspState stn st).pair = m.pair ∧ (m.tspState stn st).card = m.card ∧ (m.tspState stn st).attic = m.attic
    ∧ (m.tspState stn st).upd = m.upd ∧ (m.tspState stn st).test = m.test ∧ (m.tspState stn st).savis = m.savis := by
  unfold Mod.tspState; simp

@[simp] theorem Mod.keyDiffer_frame (m : Mod) :
    (m.keyDiffer).now = m.now ∧ (m.keyDiffer).out = m.out ∧ (m.keyDiffer).free = m.free
    ∧ (m.keyDiffer).power = m.power ∧ (m.keyDiffer).sched = m.sched ∧ (m.keyDiffer).lanes = m.lanes
    ∧ (m.keyDiffer).newel = m.newel ∧ (m.keyDiffer).access = m.access ∧ (m.keyDiffer).pantry = m.pantry
    ∧ (m.keyDiffer).reflex = m.reflex ∧ (m.keyDiffer).loops = m.loops ∧ (m.keyDiffer).wins = m.wins
    ∧ (m.keyDiffer).conv = m.conv ∧ (m.keyDiffer).time = m.time ∧ (m.keyDiffer).bolt = m.bolt
    ∧ (m.keyDiffer).hall = m.hall ∧ (m.keyDiffer).card = m.card ∧ (m.keyDiffer).attic = m.attic
    ∧ (m.keyDiffer).upd = m.upd ∧ (m.keyDiffer).test = m.test ∧ (m.keyDiffer).savis = m.savis := by
  unfold Mod.keyDiffer; simp

@[simp] theorem Mod.overrun_frame (m : Mod) (i : Image) (c skipped : Nat) :
    (m.overrun i c skipped).now = m.now ∧ (m.overrun i c skipped).out = m.out ∧ (m.overrun i c skipped).free = m.free
    ∧ (m.overrun i c skipped).power = m.power ∧ (m.overrun i c skipped).lanes = m.lanes
    ∧ (m.overrun i c skipped).newel = m.newel ∧ (m.overrun i c skipped).access = m.access
    ∧ (m.overrun i c skipped).pantry = m.pantry ∧ (m.overrun i c skipped).reflex = m.reflex
    ∧ (m.overrun i c skipped).loops = m.loops ∧ (m.overrun i c skipped).wins = m.wins
    ∧ (m.overrun i c skipped).conv = m.conv ∧ (m.overrun i c skipped).time = m.time
    ∧ (m.overrun i c skipped).bolt = m.bolt ∧ (m.overrun i c skipped).pair = m.pair
    ∧ (m.overrun i c skipped).hall = m.hall ∧ (m.overrun i c skipped).card = m.card
    ∧ (m.overrun i c skipped).attic = m.attic ∧ (m.overrun i c skipped).upd = m.upd
    ∧ (m.overrun i c skipped).test = m.test ∧ (m.overrun i c skipped).savis = m.savis := by
  unfold Mod.overrun; simp

@[simp] theorem Mod.swapBanks_frame (m : Mod) :
    (m.swapBanks).now = m.now ∧ (m.swapBanks).out = m.out ∧ (m.swapBanks).free = m.free
    ∧ (m.swapBanks).power = m.power ∧ (m.swapBanks).sched = m.sched ∧ (m.swapBanks).lanes = m.lanes
    ∧ (m.swapBanks).newel = m.newel ∧ (m.swapBanks).prog = m.prog ∧ (m.swapBanks).pantry = m.pantry
    ∧ (m.swapBanks).reflex = m.reflex ∧ (m.swapBanks).loops = m.loops ∧ (m.swapBanks).wins = m.wins
    ∧ (m.swapBanks).conv = m.conv ∧ (m.swapBanks).time = m.time ∧ (m.swapBanks).bolt = m.bolt
    ∧ (m.swapBanks).pair = m.pair ∧ (m.swapBanks).hall = m.hall ∧ (m.swapBanks).card = m.card
    ∧ (m.swapBanks).attic = m.attic ∧ (m.swapBanks).upd = m.upd ∧ (m.swapBanks).test = m.test
    ∧ (m.swapBanks).savis = m.savis := by
  unfold Mod.swapBanks; simp

@[simp] theorem Mod.raiseAxis_frame (m : Mod) (i : Image) (es : List LsuEv) :
    (m.raiseAxis i es).now = m.now ∧ (m.raiseAxis i es).out = m.out ∧ (m.raiseAxis i es).free = m.free
    ∧ (m.raiseAxis i es).power = m.power ∧ (m.raiseAxis i es).sched = m.sched ∧ (m.raiseAxis i es).lanes = m.lanes
    ∧ (m.raiseAxis i es).newel = m.newel ∧ (m.raiseAxis i es).access = m.access ∧ (m.raiseAxis i es).pantry = m.pantry
    ∧ (m.raiseAxis i es).reflex = m.reflex ∧ (m.raiseAxis i es).loops = m.loops ∧ (m.raiseAxis i es).wins = m.wins
    ∧ (m.raiseAxis i es).conv = m.conv ∧ (m.raiseAxis i es).time = m.time ∧ (m.raiseAxis i es).bolt = m.bolt
    ∧ (m.raiseAxis i es).pair = m.pair ∧ (m.raiseAxis i es).hall = m.hall ∧ (m.raiseAxis i es).card = m.card
    ∧ (m.raiseAxis i es).attic = m.attic ∧ (m.raiseAxis i es).upd = m.upd ∧ (m.raiseAxis i es).test = m.test
    ∧ (m.raiseAxis i es).savis = m.savis := by
  unfold Mod.raiseAxis; simp

@[simp] theorem Mod.lateEntry_frame (m : Mod) (port : Nat) :
    (m.lateEntry port).now = m.now ∧ (m.lateEntry port).out = m.out ∧ (m.lateEntry port).free = m.free
    ∧ (m.lateEntry port).power = m.power ∧ (m.lateEntry port).lanes = m.lanes ∧ (m.lateEntry port).newel = m.newel
    ∧ (m.lateEntry port).prog = m.prog ∧ (m.lateEntry port).access = m.access ∧ (m.lateEntry port).reflex = m.reflex
    ∧ (m.lateEntry port).loops = m.loops ∧ (m.lateEntry port).wins = m.wins ∧ (m.lateEntry port).conv = m.conv
    ∧ (m.lateEntry port).time = m.time ∧ (m.lateEntry port).bolt = m.bolt ∧ (m.lateEntry port).pair = m.pair
    ∧ (m.lateEntry port).hall = m.hall ∧ (m.lateEntry port).card = m.card ∧ (m.lateEntry port).attic = m.attic
    ∧ (m.lateEntry port).upd = m.upd ∧ (m.lateEntry port).test = m.test ∧ (m.lateEntry port).savis = m.savis := by
  unfold Mod.lateEntry; simp

@[simp] theorem Mod.makeDue_frame (m : Mod) (i : Image) (port entry : Nat) (e : TxEntry) (k : Nat) :
    (m.makeDue i port entry e k).now = m.now ∧ (m.makeDue i port entry e k).out = m.out
    ∧ (m.makeDue i port entry e k).free = m.free ∧ (m.makeDue i port entry e k).power = m.power
    ∧ (m.makeDue i port entry e k).sched = m.sched ∧ (m.makeDue i port entry e k).lanes = m.lanes
    ∧ (m.makeDue i port entry e k).newel = m.newel ∧ (m.makeDue i port entry e k).prog = m.prog
    ∧ (m.makeDue i port entry e k).access = m.access ∧ (m.makeDue i port entry e k).reflex = m.reflex
    ∧ (m.makeDue i port entry e k).loops = m.loops ∧ (m.makeDue i port entry e k).wins = m.wins
    ∧ (m.makeDue i port entry e k).conv = m.conv ∧ (m.makeDue i port entry e k).time = m.time
    ∧ (m.makeDue i port entry e k).bolt = m.bolt ∧ (m.makeDue i port entry e k).pair = m.pair
    ∧ (m.makeDue i port entry e k).hall = m.hall ∧ (m.makeDue i port entry e k).card = m.card
    ∧ (m.makeDue i port entry e k).attic = m.attic ∧ (m.makeDue i port entry e k).upd = m.upd
    ∧ (m.makeDue i port entry e k).test = m.test ∧ (m.makeDue i port entry e k).savis = m.savis := by
  unfold Mod.makeDue; split <;> simp

@[simp] theorem Mod.entrySent_frame (m : Mod) (i : Image) (port entry lt : Nat) (e : TxEntry) :
    (m.entrySent i port entry lt e).now = m.now ∧ (m.entrySent i port entry lt e).out = m.out
    ∧ (m.entrySent i port entry lt e).free = m.free ∧ (m.entrySent i port entry lt e).power = m.power
    ∧ (m.entrySent i port entry lt e).sched = m.sched ∧ (m.entrySent i port entry lt e).lanes = m.lanes
    ∧ (m.entrySent i port entry lt e).newel = m.newel ∧ (m.entrySent i port entry lt e).prog = m.prog
    ∧ (m.entrySent i port entry lt e).access = m.access ∧ (m.entrySent i port entry lt e).reflex = m.reflex
    ∧ (m.entrySent i port entry lt e).loops = m.loops ∧ (m.entrySent i port entry lt e).wins = m.wins
    ∧ (m.entrySent i port entry lt e).conv = m.conv ∧ (m.entrySent i port entry lt e).time = m.time
    ∧ (m.entrySent i port entry lt e).bolt = m.bolt ∧ (m.entrySent i port entry lt e).pair = m.pair
    ∧ (m.entrySent i port entry lt e).hall = m.hall ∧ (m.entrySent i port entry lt e).card = m.card
    ∧ (m.entrySent i port entry lt e).attic = m.attic ∧ (m.entrySent i port entry lt e).upd = m.upd
    ∧ (m.entrySent i port entry lt e).test = m.test ∧ (m.entrySent i port entry lt e).savis = m.savis := by
  unfold Mod.entrySent; simp

@[simp] theorem Mod.lateSwEntry_frame (m : Mod) (port : Nat) :
    (m.lateSwEntry port).now = m.now ∧ (m.lateSwEntry port).out = m.out ∧ (m.lateSwEntry port).free = m.free
    ∧ (m.lateSwEntry port).power = m.power ∧ (m.lateSwEntry port).lanes = m.lanes
    ∧ (m.lateSwEntry port).newel = m.newel ∧ (m.lateSwEntry port).prog = m.prog
    ∧ (m.lateSwEntry port).access = m.access ∧ (m.lateSwEntry port).reflex = m.reflex
    ∧ (m.lateSwEntry port).loops = m.loops ∧ (m.lateSwEntry port).wins = m.wins ∧ (m.lateSwEntry port).conv = m.conv
    ∧ (m.lateSwEntry port).time = m.time ∧ (m.lateSwEntry port).bolt = m.bolt ∧ (m.lateSwEntry port).hall = m.hall
    ∧ (m.lateSwEntry port).card = m.card ∧ (m.lateSwEntry port).attic = m.attic ∧ (m.lateSwEntry port).upd = m.upd
    ∧ (m.lateSwEntry port).test = m.test ∧ (m.lateSwEntry port).savis = m.savis := by
  unfold Mod.lateSwEntry; simp

@[simp] theorem Mod.stageRecord_frame (m : Mod) :
    (m.stageRecord).now = m.now ∧ (m.stageRecord).out = m.out ∧ (m.stageRecord).free = m.free
    ∧ (m.stageRecord).power = m.power ∧ (m.stageRecord).sched = m.sched ∧ (m.stageRecord).lanes = m.lanes
    ∧ (m.stageRecord).newel = m.newel ∧ (m.stageRecord).access = m.access ∧ (m.stageRecord).pantry = m.pantry
    ∧ (m.stageRecord).reflex = m.reflex ∧ (m.stageRecord).loops = m.loops ∧ (m.stageRecord).wins = m.wins
    ∧ (m.stageRecord).conv = m.conv ∧ (m.stageRecord).time = m.time ∧ (m.stageRecord).bolt = m.bolt
    ∧ (m.stageRecord).pair = m.pair ∧ (m.stageRecord).hall = m.hall ∧ (m.stageRecord).attic = m.attic
    ∧ (m.stageRecord).upd = m.upd ∧ (m.stageRecord).test = m.test ∧ (m.stageRecord).savis = m.savis := by
  unfold Mod.stageRecord; split <;> simp

@[simp] theorem Mod.badFrame_frame (m : Mod) (k : Nat) :
    (m.badFrame k).now = m.now ∧ (m.badFrame k).out = m.out ∧ (m.badFrame k).free = m.free
    ∧ (m.badFrame k).power = m.power ∧ (m.badFrame k).sched = m.sched ∧ (m.badFrame k).lanes = m.lanes
    ∧ (m.badFrame k).newel = m.newel ∧ (m.badFrame k).prog = m.prog ∧ (m.badFrame k).access = m.access
    ∧ (m.badFrame k).reflex = m.reflex ∧ (m.badFrame k).loops = m.loops ∧ (m.badFrame k).wins = m.wins
    ∧ (m.badFrame k).conv = m.conv ∧ (m.badFrame k).time = m.time ∧ (m.badFrame k).bolt = m.bolt
    ∧ (m.badFrame k).pair = m.pair ∧ (m.badFrame k).hall = m.hall ∧ (m.badFrame k).card = m.card
    ∧ (m.badFrame k).attic = m.attic ∧ (m.badFrame k).upd = m.upd ∧ (m.badFrame k).test = m.test
    ∧ (m.badFrame k).savis = m.savis := by
  unfold Mod.badFrame; simp

@[simp] theorem Mod.refuseStart_frame (m : Mod) (k reason : Nat) :
    (m.refuseStart k reason).now = m.now ∧ (m.refuseStart k reason).free = m.free
    ∧ (m.refuseStart k reason).power = m.power ∧ (m.refuseStart k reason).sched = m.sched
    ∧ (m.refuseStart k reason).lanes = m.lanes ∧ (m.refuseStart k reason).newel = m.newel
    ∧ (m.refuseStart k reason).access = m.access ∧ (m.refuseStart k reason).reflex = m.reflex
    ∧ (m.refuseStart k reason).loops = m.loops ∧ (m.refuseStart k reason).wins = m.wins
    ∧ (m.refuseStart k reason).conv = m.conv ∧ (m.refuseStart k reason).time = m.time
    ∧ (m.refuseStart k reason).bolt = m.bolt ∧ (m.refuseStart k reason).pair = m.pair
    ∧ (m.refuseStart k reason).card = m.card ∧ (m.refuseStart k reason).attic = m.attic
    ∧ (m.refuseStart k reason).upd = m.upd ∧ (m.refuseStart k reason).test = m.test
    ∧ (m.refuseStart k reason).savis = m.savis := by
  unfold Mod.refuseStart; simp

@[simp] theorem Mod.revalFailed_frame (m : Mod) (k reason : Nat) :
    (m.revalFailed k reason).now = m.now ∧ (m.revalFailed k reason).free = m.free
    ∧ (m.revalFailed k reason).power = m.power ∧ (m.revalFailed k reason).sched = m.sched
    ∧ (m.revalFailed k reason).lanes = m.lanes ∧ (m.revalFailed k reason).newel = m.newel
    ∧ (m.revalFailed k reason).access = m.access ∧ (m.revalFailed k reason).reflex = m.reflex
    ∧ (m.revalFailed k reason).loops = m.loops ∧ (m.revalFailed k reason).wins = m.wins
    ∧ (m.revalFailed k reason).conv = m.conv ∧ (m.revalFailed k reason).time = m.time
    ∧ (m.revalFailed k reason).bolt = m.bolt ∧ (m.revalFailed k reason).pair = m.pair
    ∧ (m.revalFailed k reason).card = m.card ∧ (m.revalFailed k reason).attic = m.attic
    ∧ (m.revalFailed k reason).upd = m.upd ∧ (m.revalFailed k reason).test = m.test
    ∧ (m.revalFailed k reason).savis = m.savis := by
  unfold Mod.revalFailed; simp

@[simp] theorem Mod.hallRaw_frame (m : Mod) (f : Msg → Instr) :
    (m.hallRaw f).now = m.now ∧ (m.hallRaw f).free = m.free ∧ (m.hallRaw f).power = m.power
    ∧ (m.hallRaw f).sched = m.sched ∧ (m.hallRaw f).lanes = m.lanes ∧ (m.hallRaw f).newel = m.newel
    ∧ (m.hallRaw f).prog = m.prog ∧ (m.hallRaw f).access = m.access ∧ (m.hallRaw f).pantry = m.pantry
    ∧ (m.hallRaw f).reflex = m.reflex ∧ (m.hallRaw f).loops = m.loops ∧ (m.hallRaw f).wins = m.wins
    ∧ (m.hallRaw f).conv = m.conv ∧ (m.hallRaw f).time = m.time ∧ (m.hallRaw f).bolt = m.bolt
    ∧ (m.hallRaw f).pair = m.pair ∧ (m.hallRaw f).card = m.card ∧ (m.hallRaw f).attic = m.attic
    ∧ (m.hallRaw f).upd = m.upd ∧ (m.hallRaw f).test = m.test ∧ (m.hallRaw f).savis = m.savis := by
  unfold Mod.hallRaw; simp

@[simp] theorem Mod.enterHello_frame (m : Mod) :
    (m.enterHello).now = m.now ∧ (m.enterHello).free = m.free ∧ (m.enterHello).power = m.power
    ∧ (m.enterHello).sched = m.sched ∧ (m.enterHello).lanes = m.lanes ∧ (m.enterHello).newel = m.newel
    ∧ (m.enterHello).prog = m.prog ∧ (m.enterHello).access = m.access ∧ (m.enterHello).pantry = m.pantry
    ∧ (m.enterHello).reflex = m.reflex ∧ (m.enterHello).loops = m.loops ∧ (m.enterHello).wins = m.wins
    ∧ (m.enterHello).conv = m.conv ∧ (m.enterHello).time = m.time ∧ (m.enterHello).bolt = m.bolt
    ∧ (m.enterHello).pair = m.pair ∧ (m.enterHello).card = m.card ∧ (m.enterHello).attic = m.attic
    ∧ (m.enterHello).upd = m.upd ∧ (m.enterHello).test = m.test ∧ (m.enterHello).savis = m.savis := by
  unfold Mod.enterHello; simp

@[simp] theorem Mod.badMsg_frame (m : Mod) :
    (m.badMsg).now = m.now ∧ (m.badMsg).out = m.out ∧ (m.badMsg).free = m.free ∧ (m.badMsg).power = m.power
    ∧ (m.badMsg).sched = m.sched ∧ (m.badMsg).lanes = m.lanes ∧ (m.badMsg).newel = m.newel ∧ (m.badMsg).prog = m.prog
    ∧ (m.badMsg).access = m.access ∧ (m.badMsg).pantry = m.pantry ∧ (m.badMsg).reflex = m.reflex
    ∧ (m.badMsg).loops = m.loops ∧ (m.badMsg).wins = m.wins ∧ (m.badMsg).conv = m.conv ∧ (m.badMsg).time = m.time
    ∧ (m.badMsg).bolt = m.bolt ∧ (m.badMsg).pair = m.pair ∧ (m.badMsg).card = m.card ∧ (m.badMsg).attic = m.attic
    ∧ (m.badMsg).upd = m.upd ∧ (m.badMsg).test = m.test ∧ (m.badMsg).savis = m.savis := by
  unfold Mod.badMsg; simp

@[simp] theorem Mod.pendingRewrite_frame (m : Mod) :
    (m.pendingRewrite).now = m.now ∧ (m.pendingRewrite).out = m.out ∧ (m.pendingRewrite).free = m.free
    ∧ (m.pendingRewrite).power = m.power ∧ (m.pendingRewrite).sched = m.sched ∧ (m.pendingRewrite).lanes = m.lanes
    ∧ (m.pendingRewrite).newel = m.newel ∧ (m.pendingRewrite).prog = m.prog ∧ (m.pendingRewrite).access = m.access
    ∧ (m.pendingRewrite).pantry = m.pantry ∧ (m.pendingRewrite).reflex = m.reflex ∧ (m.pendingRewrite).loops = m.loops
    ∧ (m.pendingRewrite).wins = m.wins ∧ (m.pendingRewrite).conv = m.conv ∧ (m.pendingRewrite).time = m.time
    ∧ (m.pendingRewrite).bolt = m.bolt ∧ (m.pendingRewrite).pair = m.pair ∧ (m.pendingRewrite).hall = m.hall
    ∧ (m.pendingRewrite).attic = m.attic ∧ (m.pendingRewrite).upd = m.upd ∧ (m.pendingRewrite).test = m.test
    ∧ (m.pendingRewrite).savis = m.savis := by
  unfold Mod.pendingRewrite; simp

@[simp] theorem Mod.reject_frame (m : Mod) (a : Ask) (reason : Nat) :
    (m.reject a reason).now = m.now ∧ (m.reject a reason).free = m.free ∧ (m.reject a reason).power = m.power
    ∧ (m.reject a reason).sched = m.sched ∧ (m.reject a reason).lanes = m.lanes ∧ (m.reject a reason).newel = m.newel
    ∧ (m.reject a reason).prog = m.prog ∧ (m.reject a reason).access = m.access
    ∧ (m.reject a reason).pantry = m.pantry ∧ (m.reject a reason).reflex = m.reflex
    ∧ (m.reject a reason).loops = m.loops ∧ (m.reject a reason).wins = m.wins ∧ (m.reject a reason).conv = m.conv
    ∧ (m.reject a reason).time = m.time ∧ (m.reject a reason).bolt = m.bolt ∧ (m.reject a reason).pair = m.pair
    ∧ (m.reject a reason).card = m.card ∧ (m.reject a reason).attic = m.attic ∧ (m.reject a reason).upd = m.upd
    ∧ (m.reject a reason).test = m.test := by
  unfold Mod.reject; simp

@[simp] theorem Mod.rejectFull_frame (m : Mod) (a : Ask) :
    (m.rejectFull a).now = m.now ∧ (m.rejectFull a).free = m.free ∧ (m.rejectFull a).power = m.power
    ∧ (m.rejectFull a).sched = m.sched ∧ (m.rejectFull a).lanes = m.lanes ∧ (m.rejectFull a).newel = m.newel
    ∧ (m.rejectFull a).prog = m.prog ∧ (m.rejectFull a).access = m.access ∧ (m.rejectFull a).pantry = m.pantry
    ∧ (m.rejectFull a).reflex = m.reflex ∧ (m.rejectFull a).loops = m.loops ∧ (m.rejectFull a).wins = m.wins
    ∧ (m.rejectFull a).conv = m.conv ∧ (m.rejectFull a).time = m.time ∧ (m.rejectFull a).bolt = m.bolt
    ∧ (m.rejectFull a).pair = m.pair ∧ (m.rejectFull a).card = m.card ∧ (m.rejectFull a).attic = m.attic
    ∧ (m.rejectFull a).upd = m.upd ∧ (m.rejectFull a).test = m.test := by
  unfold Mod.rejectFull; simp

@[simp] theorem Mod.doneReq_frame (m : Mod) (a : Ask) (data : List Byte) :
    (m.doneReq a data).now = m.now ∧ (m.doneReq a data).free = m.free ∧ (m.doneReq a data).power = m.power
    ∧ (m.doneReq a data).sched = m.sched ∧ (m.doneReq a data).lanes = m.lanes ∧ (m.doneReq a data).newel = m.newel
    ∧ (m.doneReq a data).prog = m.prog ∧ (m.doneReq a data).access = m.access ∧ (m.doneReq a data).pantry = m.pantry
    ∧ (m.doneReq a data).reflex = m.reflex ∧ (m.doneReq a data).loops = m.loops ∧ (m.doneReq a data).wins = m.wins
    ∧ (m.doneReq a data).conv = m.conv ∧ (m.doneReq a data).time = m.time ∧ (m.doneReq a data).bolt = m.bolt
    ∧ (m.doneReq a data).pair = m.pair ∧ (m.doneReq a data).card = m.card ∧ (m.doneReq a data).attic = m.attic
    ∧ (m.doneReq a data).upd = m.upd ∧ (m.doneReq a data).test = m.test := by
  unfold Mod.doneReq; simp

@[simp] theorem Mod.busyReq_frame (m : Mod) (a : Ask) :
    (m.busyReq a).now = m.now ∧ (m.busyReq a).free = m.free ∧ (m.busyReq a).power = m.power
    ∧ (m.busyReq a).sched = m.sched ∧ (m.busyReq a).lanes = m.lanes ∧ (m.busyReq a).newel = m.newel
    ∧ (m.busyReq a).prog = m.prog ∧ (m.busyReq a).access = m.access ∧ (m.busyReq a).pantry = m.pantry
    ∧ (m.busyReq a).reflex = m.reflex ∧ (m.busyReq a).loops = m.loops ∧ (m.busyReq a).wins = m.wins
    ∧ (m.busyReq a).conv = m.conv ∧ (m.busyReq a).time = m.time ∧ (m.busyReq a).bolt = m.bolt
    ∧ (m.busyReq a).pair = m.pair ∧ (m.busyReq a).card = m.card ∧ (m.busyReq a).attic = m.attic
    ∧ (m.busyReq a).upd = m.upd := by
  unfold Mod.busyReq; simp

@[simp] theorem Mod.setSess_frame (m : Mod) (k : Nat) (f : Sess → Sess) :
    (m.setSess k f).now = m.now ∧ (m.setSess k f).out = m.out ∧ (m.setSess k f).free = m.free
    ∧ (m.setSess k f).power = m.power ∧ (m.setSess k f).sched = m.sched ∧ (m.setSess k f).lanes = m.lanes
    ∧ (m.setSess k f).newel = m.newel ∧ (m.setSess k f).prog = m.prog ∧ (m.setSess k f).access = m.access
    ∧ (m.setSess k f).pantry = m.pantry ∧ (m.setSess k f).reflex = m.reflex ∧ (m.setSess k f).loops = m.loops
    ∧ (m.setSess k f).wins = m.wins ∧ (m.setSess k f).conv = m.conv ∧ (m.setSess k f).time = m.time
    ∧ (m.setSess k f).bolt = m.bolt ∧ (m.setSess k f).pair = m.pair ∧ (m.setSess k f).hall = m.hall
    ∧ (m.setSess k f).card = m.card ∧ (m.setSess k f).attic = m.attic ∧ (m.setSess k f).upd = m.upd
    ∧ (m.setSess k f).test = m.test := by
  unfold Mod.setSess; split <;> simp

@[simp] theorem Mod.turnAway_frame (m : Mod) (session id : Nat) (o : Outc) (reason : Nat) :
    (m.turnAway session id o reason).now = m.now ∧ (m.turnAway session id o reason).free = m.free
    ∧ (m.turnAway session id o reason).power = m.power ∧ (m.turnAway session id o reason).sched = m.sched
    ∧ (m.turnAway session id o reason).lanes = m.lanes ∧ (m.turnAway session id o reason).newel = m.newel
    ∧ (m.turnAway session id o reason).prog = m.prog ∧ (m.turnAway session id o reason).access = m.access
    ∧ (m.turnAway session id o reason).pantry = m.pantry ∧ (m.turnAway session id o reason).reflex = m.reflex
    ∧ (m.turnAway session id o reason).loops = m.loops ∧ (m.turnAway session id o reason).wins = m.wins
    ∧ (m.turnAway session id o reason).conv = m.conv ∧ (m.turnAway session id o reason).time = m.time
    ∧ (m.turnAway session id o reason).bolt = m.bolt ∧ (m.turnAway session id o reason).pair = m.pair
    ∧ (m.turnAway session id o reason).hall = m.hall ∧ (m.turnAway session id o reason).card = m.card
    ∧ (m.turnAway session id o reason).attic = m.attic ∧ (m.turnAway session id o reason).upd = m.upd
    ∧ (m.turnAway session id o reason).test = m.test := by
  unfold Mod.turnAway; simp

@[simp] theorem Mod.lsuCmd_frame (m : Mod) (i : Image) (f : Lsu → Lsu × List LsuEv) :
    (m.lsuCmd i f).now = m.now ∧ (m.lsuCmd i f).out = m.out ∧ (m.lsuCmd i f).free = m.free
    ∧ (m.lsuCmd i f).power = m.power ∧ (m.lsuCmd i f).sched = m.sched ∧ (m.lsuCmd i f).newel = m.newel
    ∧ (m.lsuCmd i f).access = m.access ∧ (m.lsuCmd i f).pantry = m.pantry ∧ (m.lsuCmd i f).reflex = m.reflex
    ∧ (m.lsuCmd i f).loops = m.loops ∧ (m.lsuCmd i f).wins = m.wins ∧ (m.lsuCmd i f).conv = m.conv
    ∧ (m.lsuCmd i f).time = m.time ∧ (m.lsuCmd i f).bolt = m.bolt ∧ (m.lsuCmd i f).pair = m.pair
    ∧ (m.lsuCmd i f).hall = m.hall ∧ (m.lsuCmd i f).card = m.card ∧ (m.lsuCmd i f).attic = m.attic
    ∧ (m.lsuCmd i f).upd = m.upd ∧ (m.lsuCmd i f).test = m.test ∧ (m.lsuCmd i f).savis = m.savis := by
  unfold Mod.lsuCmd; simp

@[simp] theorem Mod.masterCmd_frame (m : Mod) (k : Nat) (c : MCmd) :
    (m.masterCmd k c).now = m.now ∧ (m.masterCmd k c).out = m.out ∧ (m.masterCmd k c).free = m.free
    ∧ (m.masterCmd k c).power = m.power ∧ (m.masterCmd k c).sched = m.sched ∧ (m.masterCmd k c).newel = m.newel
    ∧ (m.masterCmd k c).access = m.access ∧ (m.masterCmd k c).reflex = m.reflex ∧ (m.masterCmd k c).loops = m.loops
    ∧ (m.masterCmd k c).wins = m.wins ∧ (m.masterCmd k c).conv = m.conv ∧ (m.masterCmd k c).time = m.time
    ∧ (m.masterCmd k c).bolt = m.bolt ∧ (m.masterCmd k c).pair = m.pair ∧ (m.masterCmd k c).hall = m.hall
    ∧ (m.masterCmd k c).card = m.card ∧ (m.masterCmd k c).attic = m.attic ∧ (m.masterCmd k c).upd = m.upd
    ∧ (m.masterCmd k c).test = m.test ∧ (m.masterCmd k c).savis = m.savis := by
  unfold Mod.masterCmd; split <;> simp

@[simp] theorem Mod.axisCmd_frame (m : Mod) (a : Nat) (c : ACmd) :
    (m.axisCmd a c).now = m.now ∧ (m.axisCmd a c).out = m.out ∧ (m.axisCmd a c).free = m.free
    ∧ (m.axisCmd a c).power = m.power ∧ (m.axisCmd a c).sched = m.sched ∧ (m.axisCmd a c).newel = m.newel
    ∧ (m.axisCmd a c).access = m.access ∧ (m.axisCmd a c).reflex = m.reflex ∧ (m.axisCmd a c).loops = m.loops
    ∧ (m.axisCmd a c).wins = m.wins ∧ (m.axisCmd a c).conv = m.conv ∧ (m.axisCmd a c).time = m.time
    ∧ (m.axisCmd a c).bolt = m.bolt ∧ (m.axisCmd a c).pair = m.pair ∧ (m.axisCmd a c).hall = m.hall
    ∧ (m.axisCmd a c).card = m.card ∧ (m.axisCmd a c).attic = m.attic ∧ (m.axisCmd a c).upd = m.upd
    ∧ (m.axisCmd a c).test = m.test ∧ (m.axisCmd a c).savis = m.savis := by
  unfold Mod.axisCmd; (repeat' split) <;> simp

@[simp] theorem Mod.dlReject_frame (m : Mod) (a : Ask) (reason : Nat) :
    (m.dlReject a reason).now = m.now ∧ (m.dlReject a reason).free = m.free ∧ (m.dlReject a reason).power = m.power
    ∧ (m.dlReject a reason).sched = m.sched ∧ (m.dlReject a reason).lanes = m.lanes
    ∧ (m.dlReject a reason).newel = m.newel ∧ (m.dlReject a reason).prog = m.prog
    ∧ (m.dlReject a reason).access = m.access ∧ (m.dlReject a reason).pantry = m.pantry
    ∧ (m.dlReject a reason).reflex = m.reflex ∧ (m.dlReject a reason).loops = m.loops
    ∧ (m.dlReject a reason).wins = m.wins ∧ (m.dlReject a reason).conv = m.conv ∧ (m.dlReject a reason).time = m.time
    ∧ (m.dlReject a reason).bolt = m.bolt ∧ (m.dlReject a reason).pair = m.pair ∧ (m.dlReject a reason).card = m.card
    ∧ (m.dlReject a reason).attic = m.attic ∧ (m.dlReject a reason).test = m.test := by
  unfold Mod.dlReject; simp

@[simp] theorem Mod.endDownload_frame (m : Mod) (reason : Nat) (o : Outc) :
    (m.endDownload reason o).now = m.now ∧ (m.endDownload reason o).free = m.free
    ∧ (m.endDownload reason o).power = m.power ∧ (m.endDownload reason o).sched = m.sched
    ∧ (m.endDownload reason o).lanes = m.lanes ∧ (m.endDownload reason o).newel = m.newel
    ∧ (m.endDownload reason o).prog = m.prog ∧ (m.endDownload reason o).access = m.access
    ∧ (m.endDownload reason o).pantry = m.pantry ∧ (m.endDownload reason o).reflex = m.reflex
    ∧ (m.endDownload reason o).loops = m.loops ∧ (m.endDownload reason o).wins = m.wins
    ∧ (m.endDownload reason o).conv = m.conv ∧ (m.endDownload reason o).time = m.time
    ∧ (m.endDownload reason o).bolt = m.bolt ∧ (m.endDownload reason o).pair = m.pair
    ∧ (m.endDownload reason o).card = m.card ∧ (m.endDownload reason o).attic = m.attic
    ∧ (m.endDownload reason o).test = m.test := by
  unfold Mod.endDownload; simp

@[simp] theorem Mod.passOn_frame (m : Mod) (a : Ask) (method : Nat) (args : List Int) :
    (m.passOn a method args).now = m.now ∧ (m.passOn a method args).free = m.free
    ∧ (m.passOn a method args).power = m.power ∧ (m.passOn a method args).sched = m.sched
    ∧ (m.passOn a method args).lanes = m.lanes ∧ (m.passOn a method args).newel = m.newel
    ∧ (m.passOn a method args).prog = m.prog ∧ (m.passOn a method args).access = m.access
    ∧ (m.passOn a method args).pantry = m.pantry ∧ (m.passOn a method args).reflex = m.reflex
    ∧ (m.passOn a method args).loops = m.loops ∧ (m.passOn a method args).wins = m.wins
    ∧ (m.passOn a method args).conv = m.conv ∧ (m.passOn a method args).time = m.time
    ∧ (m.passOn a method args).bolt = m.bolt ∧ (m.passOn a method args).pair = m.pair
    ∧ (m.passOn a method args).card = m.card ∧ (m.passOn a method args).attic = m.attic
    ∧ (m.passOn a method args).upd = m.upd ∧ (m.passOn a method args).test = m.test := by
  unfold Mod.passOn; simp

@[simp] theorem Mod.refuseChange_frame (m : Mod) (a : Ask) (reason inst field : Nat) :
    (m.refuseChange a reason inst field).now = m.now ∧ (m.refuseChange a reason inst field).free = m.free
    ∧ (m.refuseChange a reason inst field).power = m.power ∧ (m.refuseChange a reason inst field).sched = m.sched
    ∧ (m.refuseChange a reason inst field).lanes = m.lanes ∧ (m.refuseChange a reason inst field).newel = m.newel
    ∧ (m.refuseChange a reason inst field).access = m.access ∧ (m.refuseChange a reason inst field).pantry = m.pantry
    ∧ (m.refuseChange a reason inst field).reflex = m.reflex ∧ (m.refuseChange a reason inst field).loops = m.loops
    ∧ (m.refuseChange a reason inst field).wins = m.wins ∧ (m.refuseChange a reason inst field).conv = m.conv
    ∧ (m.refuseChange a reason inst field).time = m.time ∧ (m.refuseChange a reason inst field).bolt = m.bolt
    ∧ (m.refuseChange a reason inst field).pair = m.pair ∧ (m.refuseChange a reason inst field).card = m.card
    ∧ (m.refuseChange a reason inst field).attic = m.attic ∧ (m.refuseChange a reason inst field).upd = m.upd
    ∧ (m.refuseChange a reason inst field).test = m.test := by
  unfold Mod.refuseChange; simp

@[simp] theorem Mod.calStepHere_frame (m : Mod) (key : Nat × Nat) (value : Option Nat) :
    (m.calStepHere key value).now = m.now ∧ (m.calStepHere key value).free = m.free
    ∧ (m.calStepHere key value).power = m.power ∧ (m.calStepHere key value).sched = m.sched
    ∧ (m.calStepHere key value).lanes = m.lanes ∧ (m.calStepHere key value).newel = m.newel
    ∧ (m.calStepHere key value).prog = m.prog ∧ (m.calStepHere key value).access = m.access
    ∧ (m.calStepHere key value).pantry = m.pantry ∧ (m.calStepHere key value).reflex = m.reflex
    ∧ (m.calStepHere key value).loops = m.loops ∧ (m.calStepHere key value).wins = m.wins
    ∧ (m.calStepHere key value).conv = m.conv ∧ (m.calStepHere key value).bolt = m.bolt
    ∧ (m.calStepHere key value).pair = m.pair ∧ (m.calStepHere key value).card = m.card
    ∧ (m.calStepHere key value).attic = m.attic ∧ (m.calStepHere key value).upd = m.upd
    ∧ (m.calStepHere key value).test = m.test := by
  unfold Mod.calStepHere; simp

@[simp] theorem Mod.dropConn_frame (m : Mod) (conn : Nat) :
    (m.dropConn conn).now = m.now ∧ (m.dropConn conn).free = m.free ∧ (m.dropConn conn).power = m.power
    ∧ (m.dropConn conn).sched = m.sched ∧ (m.dropConn conn).lanes = m.lanes ∧ (m.dropConn conn).newel = m.newel
    ∧ (m.dropConn conn).prog = m.prog ∧ (m.dropConn conn).access = m.access ∧ (m.dropConn conn).pantry = m.pantry
    ∧ (m.dropConn conn).reflex = m.reflex ∧ (m.dropConn conn).loops = m.loops ∧ (m.dropConn conn).wins = m.wins
    ∧ (m.dropConn conn).conv = m.conv ∧ (m.dropConn conn).time = m.time ∧ (m.dropConn conn).bolt = m.bolt
    ∧ (m.dropConn conn).pair = m.pair ∧ (m.dropConn conn).hall = m.hall ∧ (m.dropConn conn).card = m.card
    ∧ (m.dropConn conn).attic = m.attic ∧ (m.dropConn conn).upd = m.upd ∧ (m.dropConn conn).test = m.test := by
  unfold Mod.dropConn; simp

@[simp] theorem Mod.openRefused_frame (m : Mod) (conn id : Nat) (o : Outc) (reason : Nat) :
    (m.openRefused conn id o reason).now = m.now ∧ (m.openRefused conn id o reason).free = m.free
    ∧ (m.openRefused conn id o reason).power = m.power ∧ (m.openRefused conn id o reason).sched = m.sched
    ∧ (m.openRefused conn id o reason).lanes = m.lanes ∧ (m.openRefused conn id o reason).newel = m.newel
    ∧ (m.openRefused conn id o reason).prog = m.prog ∧ (m.openRefused conn id o reason).access = m.access
    ∧ (m.openRefused conn id o reason).pantry = m.pantry ∧ (m.openRefused conn id o reason).reflex = m.reflex
    ∧ (m.openRefused conn id o reason).loops = m.loops ∧ (m.openRefused conn id o reason).wins = m.wins
    ∧ (m.openRefused conn id o reason).conv = m.conv ∧ (m.openRefused conn id o reason).time = m.time
    ∧ (m.openRefused conn id o reason).bolt = m.bolt ∧ (m.openRefused conn id o reason).pair = m.pair
    ∧ (m.openRefused conn id o reason).hall = m.hall ∧ (m.openRefused conn id o reason).card = m.card
    ∧ (m.openRefused conn id o reason).attic = m.attic ∧ (m.openRefused conn id o reason).upd = m.upd
    ∧ (m.openRefused conn id o reason).test = m.test := by
  unfold Mod.openRefused; simp

end Sys2Proof.Machine
end

