-- ==== Sys2Proof/Laws/Memory.lean ====
section
/-! SUPPORT. Tables and memories: what is read back from a table, and that every memory operation keeps the one canonical
form. -/

namespace Sys2Proof.Machine

open Sys2Proof

variable {α : Type} {w : Nat}

/-! ## Tables -/

@[simp] theorem tabFind_tabSet (t : Tab α) (n : Nat) (v : α) : tabFind (tabSet t n v) n = some v := by
  induction t with
  | nil => simp [tabSet, tabFind]
  | cons p t ih =>
    obtain ⟨k, x⟩ := p
    simp only [tabSet]
    split
    · simp [tabFind]
    · split
      · simp [tabFind]
      · have hk : k ≠ n := fun h => by simp_all
        simp [tabFind, hk, ih]

theorem tabFind_tabSet_ne (t : Tab α) (n : Nat) (v : α) (k : Nat) (h : k ≠ n) :
    tabFind (tabSet t n v) k = tabFind t k := by
  induction t with
  | nil => simp [tabSet, tabFind, Ne.symm h]
  | cons p t ih =>
    obtain ⟨j, x⟩ := p
    simp only [tabSet]
    split
    · simp [tabFind, Ne.symm h]
    · split
      · subst_vars; simp [tabFind, Ne.symm h]
      · simp [tabFind, ih]

@[simp] theorem tabGet_tabSet (t : Tab α) (d : α) (n : Nat) (v : α) : tabGet (tabSet t n v) d n = v := by
  simp [tabGet]

theorem tabGet_tabSet_ne (t : Tab α) (d : α) (n : Nat) (v : α) (k : Nat) (h : k ≠ n) :
    tabGet (tabSet t n v) d k = tabGet t d k := by
  simp [tabGet, tabFind_tabSet_ne t n v k h]

@[simp] theorem tabGet_tabMod (t : Tab α) (d : α) (n : Nat) (f : α → α) :
    tabGet (tabMod t d n f) d n = f (tabGet t d n) := by simp [tabMod]

theorem tabGet_tabMod_ne (t : Tab α) (d : α) (n : Nat) (f : α → α) (k : Nat) (h : k ≠ n) :
    tabGet (tabMod t d n f) d k = tabGet t d k := tabGet_tabSet_ne _ _ _ _ _ h

@[simp] theorem tabGet_nil (d : α) (n : Nat) : tabGet ([] : Tab α) d n = d := rfl

/-! ## What the module's records read after an update -/

@[simp] theorem Mod.loop_setLoop (m : Mod) (c : Nat) (f : Loop → Loop) : (m.setLoop c f).loop c = f (m.loop c) := by
  simp [Mod.setLoop, Mod.loop]

theorem Mod.loop_setLoop_ne (m : Mod) (c k : Nat) (f : Loop → Loop) (h : k ≠ c) : (m.setLoop c f).loop k = m.loop k := by
  simp [Mod.setLoop, Mod.loop, tabGet_tabMod_ne _ _ _ _ _ h]

@[simp] theorem Mod.stn_setStn (m : Mod) (n : Nat) (f : Stn → Stn) : (m.setStn n f).stn n = f (m.stn n) := by
  simp [Mod.setStn, Mod.stn]

theorem Mod.stn_setStn_ne (m : Mod) (n k : Nat) (f : Stn → Stn) (h : k ≠ n) : (m.setStn n f).stn k = m.stn k := by
  simp [Mod.setStn, Mod.stn, tabGet_tabMod_ne _ _ _ _ _ h]

@[simp] theorem Mod.port_setPort (m : Mod) (p : Nat) (f : Port → Port) : (m.setPort p f).port p = f (m.port p) := by
  simp [Mod.setPort, Mod.port]

theorem Mod.port_setPort_ne (m : Mod) (p k : Nat) (f : Port → Port) (h : k ≠ p) : (m.setPort p f).port k = m.port k := by
  simp [Mod.setPort, Mod.port, tabGet_tabMod_ne _ _ _ _ _ h]

@[simp] theorem Mod.run_setRun (m : Mod) (c : Nat) (f : ClsRun → ClsRun) : (m.setRun c f).run c = f (m.run c) := by
  simp [Mod.setRun, Mod.run]

theorem Mod.run_setRun_ne (m : Mod) (c k : Nat) (f : ClsRun → ClsRun) (h : k ≠ c) : (m.setRun c f).run k = m.run k := by
  simp [Mod.setRun, Mod.run, tabGet_tabMod_ne _ _ _ _ _ h]

/-! ## The canonical form -/

theorem keysAbove_le (t : Tab α) {lo hi : Nat} (h : lo ≤ hi) (ht : keysAbove hi t = true) : keysAbove lo t = true := by
  cases t with
  | nil => rfl
  | cons p t =>
    obtain ⟨k, x⟩ := p
    simp only [keysAbove, Bool.and_eq_true, decide_eq_true_eq] at ht ⊢
    exact ⟨by omega, ht.2⟩

theorem keysAbove_tabSet (t : Tab α) (lo n : Nat) (v : α) (h : lo < n) (ht : keysAbove lo t = true) :
    keysAbove lo (tabSet t n v) = true := by
  induction t generalizing lo with
  | nil => simp [tabSet, keysAbove, h]
  | cons p t ih =>
    obtain ⟨k, x⟩ := p
    simp only [keysAbove, Bool.and_eq_true, decide_eq_true_eq] at ht
    simp only [tabSet]
    split
    · simp [keysAbove, *]
    · split
      · subst_vars; simp [keysAbove, *]
      · simp only [keysAbove, Bool.and_eq_true, decide_eq_true_eq]
        exact ⟨ht.1, ih k (by omega) ht.2⟩

theorem keysAbove_tabDel (t : Tab α) (lo n : Nat) (ht : keysAbove lo t = true) : keysAbove lo (tabDel t n) = true := by
  induction t generalizing lo with
  | nil => rfl
  | cons p t ih =>
    obtain ⟨k, x⟩ := p
    simp only [keysAbove, Bool.and_eq_true, decide_eq_true_eq] at ht
    simp only [tabDel]
    split
    · exact keysAbove_le t (Nat.le_of_lt ht.1) ht.2
    · simp only [keysAbove, Bool.and_eq_true, decide_eq_true_eq]
      exact ⟨ht.1, ih k ht.2⟩

theorem keysRise_of_above (t : Tab α) {lo : Nat} (ht : keysAbove lo t = true) : keysRise t = true := by
  cases t with
  | nil => rfl
  | cons p t => simp only [keysAbove, Bool.and_eq_true] at ht; exact ht.2

/-- Putting an entry keeps the keys rising. -/
theorem keysRise_tabSet (t : Tab α) (n : Nat) (v : α) (ht : keysRise t = true) : keysRise (tabSet t n v) = true := by
  cases t with
  | nil => rfl
  | cons p t =>
    obtain ⟨k, x⟩ := p
    simp only [keysRise] at ht
    simp only [tabSet]
    split
    · simp [keysRise, keysAbove, *]
    · split
      · subst_vars; exact ht
      · exact keysAbove_tabSet t k n v (by omega) ht

/-- Removing an entry keeps the keys rising. -/
theorem keysRise_tabDel (t : Tab α) (n : Nat) (ht : keysRise t = true) : keysRise (tabDel t n) = true := by
  cases t with
  | nil => rfl
  | cons p t =>
    obtain ⟨k, x⟩ := p
    simp only [keysRise] at ht
    simp only [tabDel]
    split
    · exact keysRise_of_above t ht
    · exact keysAbove_tabDel t k n ht

theorem all_tabSet (t : Tab α) (n : Nat) (v : α) (f : Nat × α → Bool) (hv : f (n, v) = true) (ht : t.all f = true) :
    (tabSet t n v).all f = true := by
  induction t with
  | nil => simp [tabSet, hv]
  | cons p t ih =>
    obtain ⟨k, x⟩ := p
    simp only [List.all_cons, Bool.and_eq_true] at ht
    simp only [tabSet]
    split
    · simp [hv, ht.1, ht.2]
    · split
      · simp [hv, ht.2]
      · simp [ht.1, ih ht.2]

theorem all_tabDel (t : Tab α) (n : Nat) (f : Nat × α → Bool) (ht : t.all f = true) : (tabDel t n).all f = true := by
  induction t with
  | nil => rfl
  | cons p t ih =>
    obtain ⟨k, x⟩ := p
    simp only [List.all_cons, Bool.and_eq_true] at ht
    simp only [tabDel]
    split
    · exact ht.2
    · simp [ht.1, ih ht.2]

/-- A write of one cell keeps the canonical form. -/
theorem memSet_wf (m : Mem w) (a : Nat) (v : BitVec w) (h : Memory.wf m = true) : Memory.wf (memSet m a v) = true := by
  simp only [Memory.wf, Bool.and_eq_true] at h ⊢
  unfold memSet
  split
  · exact ⟨keysRise_tabDel m a h.1, all_tabDel m a _ h.2⟩
  · exact ⟨keysRise_tabSet m a v h.1, all_tabSet m a v _ (decide_eq_true (by assumption)) h.2⟩

/-- A write of several cells keeps the canonical form. -/
theorem memWrite_wf (m : Mem w) (a : Nat) (vs : List (BitVec w)) (h : Memory.wf m = true) :
    Memory.wf (memWrite m a vs) = true := by
  induction vs generalizing m a with
  | nil => exact h
  | cons v vs ih => exact ih (memSet m a v) (a + 1) (memSet_wf m a v h)

/-- A copy keeps the canonical form of its target. -/
theorem memCopy_wf (src dst : Mem w) (a n : Nat) (h : Memory.wf dst = true) : Memory.wf (memCopy src dst a n) = true :=
  memWrite_wf dst a (memRead src a n) h

/-- A little-endian write keeps the canonical form. -/
theorem memPutNat_wf (m : Mem 8) (a n v : Nat) (h : Memory.wf m = true) : Memory.wf (memPutNat m a n v) = true :=
  memWrite_wf m a (leBytes v n) h

/-- Every memory of the module after reset is in the canonical form. -/
theorem reset_memories_wf : Memory.wf State.reset.m.attic.home = true
    ∧ (∀ l, Memory.wf (State.reset.m.lane l).inst = true)
    ∧ (∀ n, Memory.wf (State.reset.m.pantry.outCopy n).imgOut = true ∧ Memory.wf (State.reset.m.pantry.outCopy n).axOut = true) := by
  refine ⟨rfl, fun l => by cases l <;> rfl, fun n => ?_⟩
  unfold Pantry.outCopy
  split <;> exact ⟨rfl, rfl⟩

end Sys2Proof.Machine
end

