-- ==== Sys2Proof/Machine/Panel.lean ====
section
/-! DEFINITION. What the front panel shows of a state: the status display and the LEDs (R399, R663, R667, R668). -/
namespace Sys2Proof.Machine

/-! ### The status display (R667) -/

/-- A hex digit. -/
def hexDigit (n : Nat) : Char := Char.ofNat (if n % 16 < 10 then 48 + n % 16 else 55 + n % 16)

/-- Roles as the display writes them. -/
def roleText : Role → String
  | .out => "OUT" | .alone => "ALON" | .owner => "OWNR" | .shadow => "SHDW" | .joining => "JOIN"

/-- Pair modes as the display writes them. -/
def keyText : KeyPos → String
  | .run => "RUN" | .edit => "EDT" | .service => "SVC" | .halt => "HLT"

/-- What the display shows of a button trim (R399, R667): the channel under trim, for 3 s a result, else the channel selected
(log entry 131); none when it shows neither. -/
def Mod.trimShown (m : Mod) : Option String :=
  let c := m.conv
  let chan (k : Nat) : String := String.ofList ['L', hexDigit k]
  match c.trim with
  | some r => some (chan r.ch)
  | none =>
    if c.panel ≠ 0 && decide (m.now ≤ c.panelAt + 3000000000) then
      some (match c.panel with | 1 => "OK" | 2 => "RNG" | _ => "BUSY")
    else m.shownChan.map chan

/-- The status display, by precedence (R667); blank without the SVC domain. -/
def Mod.display (m : Mod) : String :=
  if !m.powered 1 then ""
  else if m.upd.porch then "PORCH"
  else
    match m.trimShown with
    | some x => x
    | none =>
      if m.newel.failed then
        let code := m.newel.failWord / 2 ^ 24
        "FAIL " ++ String.ofList [hexDigit (code / 16), hexDigit code]
      else if m.pair.role = .out && m.pair.outCause = 0x0D then "SIDE ERR"
      else if m.pair.role = .out && m.pair.outCause = 0x0C then "CFG ERR"
      else roleText m.pair.role ++ " " ++ keyText m.prog.pairKey

/-! ### The LEDs (R668) -/

/-- The states of an LED. -/
inductive Led | off | green | yellow | red
deriving DecidableEq, Repr

/-- An LED that is lit in one colour while a condition holds. -/
def Led.when (c : Led) (b : Bool) : Led := if b then c else .off

/-- PWR. -/
def Mod.ledPwr (m : Mod) : Led := Led.green.when (m.powered 1)

/-- FEED1 or FEED2: green while FEEDn_OK (R606). -/
def Mod.ledFeed (m : Mod) (feed2 : Bool) : Led :=
  Led.green.when (decide (18000 ≤ if feed2 then m.power.feed2 else m.power.feed1))

/-- OWN: green while the ORIG gate is open, yellow while the RELAY gate is open (R454). -/
def Mod.ledOwn (m : Mod) : Led :=
  if m.gate then .green else Led.yellow.when (!m.bolt.ownSelf && m.bolt.ownPartner)

/-- RED: green while the pair is redundant. -/
def Mod.ledRed (m : Mod) : Led := Led.green.when m.redundantReady

/-- LANE A, B or C: a lane that is OFF shows red when it did not pass the power-up BIST (log entry 131). -/
def Mod.ledLane (m : Mod) (x : LaneId) : Led :=
  match (m.lane x).mode with
  | .serving => .green
  | .resync | .test | .halted => .yellow
  | .retired => .red
  | .off => Led.red.when (m.test.bist.isSome && !(m.lane x).bistOk)

/-- FAULT: the Newel has failed, the BIST has ended without passing, or OWN is stuck. -/
def Mod.ledFault (m : Mod) : Led :=
  Led.red.when (m.newel.failed || (m.test.bist.isSome && !m.test.bistPass) || m.bolt.ownStuck)

/-- CARD: red for a card read that failed; then yellow while COMPACTING, green while WRITABLE (log entry 131). -/
def Mod.ledCard (m : Mod) : Led :=
  if m.card.read ≠ .ok && m.card.read ≠ .notRead then .red
  else if m.card.comp.isSome then .yellow
  else Led.green.when m.cardWritable

/-- LINK of a port: off while its domain is off. -/
def Mod.ledLink (m : Mod) (p : Nat) : Led := Led.green.when (m.powered (7 + p) && (m.port p).link)

end Sys2Proof.Machine
end

