-- ==== Sys2Proof/WellFormed.lean ====
section
/-! DEFINITION. Which commands the manual's formats admit: every operand within the width or the range that its field has.
The fields that a type bounds already (registers, immediates, lanes, classes) need no check. -/
namespace Sys2Proof

/-- A signed number fits into `w` bits. -/
def signed (w : Nat) (x : Int) : Bool := decide (-(2 ^ (w - 1)) ≤ x ∧ x < 2 ^ (w - 1))

/-- A time value has a fraction below one second and below one nanosecond (R416). -/
def TimeVal.wf (v : TimeVal) : Bool := decide (v.ns < 1000000000 ∧ v.frac < 65536)

/-- A request header: REQ_ID is 1 or more and fits 32 bits (R639). -/
def Req.wf (r : Req) : Bool := decide (1 ≤ r.id ∧ r.id < 2 ^ 32)

/-- A message header: MSEQ and TICK have 32 bits (R498). -/
def Msg.wf (m : Msg) : Bool := decide (m.mseq < 2 ^ 32 ∧ m.tick < 2 ^ 32)

/-- A READ body has 16-bit object numbers, instances and offsets (R645). -/
def ReadBody.wf (b : ReadBody) : Bool := decide (b.obj < 2 ^ 16 ∧ b.first < 2 ^ 16 ∧ b.count < 2 ^ 16)

/-- A rule edit names a slot of a user master or a region of a privileged master (R221, R223). -/
def RuleEdit.wf : RuleEdit → Bool
  | .perm master slot _ => decide (master < 0x3C ∧ slot < 32)
  | .region master r start stop _ _ => decide (0x40 ≤ master ∧ master ≤ 0x45 ∧ r < 16 ∧ start % 64 = 0 ∧ stop % 64 = 0)

/-- The faults of a vote leave at most three lanes without a record (R98). -/
def VoteFaults.wf (f : VoteFaults) : Bool := decide (f.missing.length ≤ 3)

/-- A BIST result has one verdict for each lane (R608). -/
def BistRes.wf (r : BistRes) : Bool := decide (r.lbist.length = 3 ∧ r.mbist.length = 3)

/-- The numbers that R215 gives to masters. -/
def isMaster (n : Nat) : Bool := decide (n < 0x3C) || decide (0x40 ≤ n ∧ n ≤ 0x45)

/-- The command's operands are such as the manual's formats can carry. -/
def WellFormed (c : Instr) : Bool :=
  match c with
  | .mHello m _ => m.wf
  | .mAgree m _ => m.wf
  | .mIdle m => m.wf
  | .mRole m _ _ _ _ _ _ => m.wf
  | .mTime m t1 cal _ _ _ _ t2 => m.wf && t1.wf && cal.wf && t2.wf
  | .mTimeEcho m _ t1 t2 t3 t4 => m.wf && t1.wf && t2.wf && t3.wf && t4.wf
  | .mPlan m _ _ _ => m.wf
  | .mPayload m _ stn _ _ => m.wf && decide (stn < 2048)
  | .mClose m _ _ _ _ => m.wf
  | .mSample m _ => m.wf
  | .mLive m eng _ _ _ _ _ _ => m.wf && decide (eng < 16)
  | .mDigest m _ _ _ _ _ _ => m.wf
  | .digestWaitTimeout _ => true
  | .mRelayUp m port _ _ _ _ => m.wf && decide (port < 4)
  | .mRelayDn m port entry _ => m.wf && decide (port < 4) && decide (entry < 1024)
  | .mRelayRpt m port entry _ _ => m.wf && decide (port < 4) && decide (entry < 1024)
  | .mMirror m _ _ _ stn reqId _ _ _ _ => m.wf && decide (stn < 2 ^ 16) && decide (reqId < 2 ^ 32)
  | .mMirrorAck m mseq reqId _ => m.wf && decide (mseq < 2 ^ 32) && decide (reqId < 2 ^ 32)
  | .mCmd m _ reqId _ _ => m.wf && decide (reqId < 2 ^ 32)
  | .mCmdRsp m _ reqId _ _ => m.wf && decide (reqId < 2 ^ 32)
  | .mStnstate m stn _ _ _ => m.wf && decide (stn < 2048)
  | .mImage m _ _ => m.wf
  | .mVerdict m _ _ => m.wf
  | .mHoOpen m _ _ _ _ => m.wf
  | .mPage m area _ _ words => m.wf && decide (area < 8) && decide (words.length = 512)
  | .mSection m _ _ _ => m.wf
  | .mHeld m stn _ _ => m.wf && decide (stn < 2048)
  | .mHoCut m _ _ _ => m.wf
  | .mHoEnd m _ => m.wf
  | .tickEdge _ => true
  | .generationComplete _ => true
  | .releaseCopyDone _ _ => true
  | .checkpointVote _ _ f => f.wf
  | .voteDeadline _ _ f => f.wf
  | .resyncPassDone _ _ _ _ => true
  | .resyncFinalPass _ _ => true
  | .resyncTimeout _ _ => true
  | .laneStop _ _ _ => true
  | .delayRegError _ _ _ => true
  | .sampleRetry _ _ => true
  | .katTest _ _ _ _ => true
  | .shadowStallTimeout _ => true
  | .buildPoint _ => true
  | .frameLaunch _ port entry => decide (port < 4) && decide (entry < 1024)
  | .atticCommit _ => true
  | .atticApply _ => true
  | .atticHeaderWrite _ => true
  | .atticRefillDone _ => true
  | .atticFault _ => true
  | .nop _ => true
  | .mov _ _ _ => true
  | .movi _ _ _ => true
  | .ldc _ _ _ => true
  | .ld _ _ _ => true
  | .st _ _ _ => true
  | .ldx _ _ _ _ => true
  | .stx _ _ _ _ => true
  | .ldr _ _ _ _ => true
  | .str _ _ _ _ => true
  | .ird _ _ _ => true
  | .iwr _ _ _ => true
  | .lkr _ _ _ => true
  | .lkw _ _ _ => true
  | .movh _ _ _ => true
  | .add _ _ _ => true
  | .sub _ _ _ => true
  | .addi _ _ _ _ => true
  | .mul _ _ _ => true
  | .mulh _ _ _ => true
  | .div _ _ _ => true
  | .divu _ _ _ => true
  | .rem _ _ _ => true
  | .neg _ _ _ => true
  | .abs _ _ _ => true
  | .adds _ _ _ => true
  | .subs _ _ _ => true
  | .muls _ _ _ => true
  | .fadd _ _ _ _ => true
  | .fsub _ _ _ _ => true
  | .fmul _ _ _ _ => true
  | .fdiv _ _ _ _ => true
  | .fsqrt _ _ _ _ => true
  | .fma _ _ _ _ _ => true
  | .fmin _ _ _ _ => true
  | .fmax _ _ _ _ => true
  | .fneg _ _ _ _ => true
  | .fabs _ _ _ _ => true
  | .fcvti _ _ _ _ => true
  | .fcvtf _ _ _ _ => true
  | .fcvtw _ _ _ _ => true
  | .feq _ _ _ _ => true
  | .flt _ _ _ _ => true
  | .fle _ _ _ _ => true
  | .ceq _ _ _ => true
  | .cne _ _ _ => true
  | .clt _ _ _ => true
  | .cle _ _ _ => true
  | .cltu _ _ _ => true
  | .cleu _ _ _ => true
  | .ceqi _ _ _ _ => true
  | .clti _ _ _ _ => true
  | .sel _ _ _ _ => true
  | .min _ _ _ => true
  | .max _ _ _ => true
  | .lim _ _ _ _ => true
  | .and _ _ _ => true
  | .or _ _ _ => true
  | .xor _ _ _ => true
  | .not _ _ _ => true
  | .andi _ _ _ _ => true
  | .ori _ _ _ _ => true
  | .xori _ _ _ _ => true
  | .shl _ _ _ => true
  | .shr _ _ _ => true
  | .sar _ _ _ => true
  | .shi _ _ _ _ => true
  | .btst _ _ _ _ => true
  | .bset _ _ _ _ => true
  | .bclr _ _ _ _ => true
  | .clz _ _ _ => true
  | .ext _ _ _ _ => true
  | .rtrig _ _ _ _ => true
  | .ftrig _ _ _ _ => true
  | .atrig _ _ _ _ => true
  | .ton _ _ _ _ => true
  | .tof _ _ _ _ => true
  | .tp _ _ _ _ => true
  | .telap _ _ _ => true
  | .trst _ _ => true
  | .ctu _ _ _ _ => true
  | .ctd _ _ _ _ => true
  | .ctud _ _ _ _ => true
  | .call _ _ _ => true
  | .ret _ => true
  | .calls _ _ => true
  | .endShare _ => true
  | .br _ _ => true
  | .bz _ _ _ => true
  | .bnz _ _ _ => true
  | .loop _ _ _ _ _ => true
  | .lend _ => true
  | .lbrk _ => true
  | .stime _ _ _ => true
  | .srfx _ _ _ _ => true
  | .sstmp _ _ _ _ => true
  | .surg _ _ _ _ => true
  | .surgr _ _ _ _ => true
  | .axrd _ _ _ _ => true
  | .axwr _ _ _ _ => true
  | .axmp _ _ _ => true
  | .axmv _ _ _ => true
  | .tadd _ _ _ => true
  | .tsub _ _ _ => true
  | .ttof _ _ _ => true
  | .tfrf _ _ _ => true
  | .tcmp _ _ _ => true
  | .tick _ _ => true
  | .clk _ _ => true
  | .first _ _ => true
  | .key _ _ => true
  | .tt0 _ _ => true
  | .rfxf _ _ _ => true
  | .arm _ _ => true
  | .req _ _ _ => true
  | .rqst _ _ _ => true
  | .fst _ _ => true
  | .evr _ _ _ => true
  | .badOpcode _ word => !Machine.isOpcode (word >>> 24).toNat
  | .haltComplete _ => true
  | .breakpointHit _ b => decide (b < 8)
  | .keySwitchChange _ _ => true
  | .changeStaged _ => true
  | .changeRemap _ => true
  | .changeTimeout _ => true
  | .masterAccess _ master _ addr _ => isMaster master && decide (addr < 2 ^ 32)
  | .seal _ edits => edits.all RuleEdit.wf
  | .tableError _ master _ => isMaster master
  | .rxFrameStore _ port _ => decide (port < 4)
  | .cycIn _ port => decide (port < 4)
  | .announce _ port => decide (port < 4)
  | .ready _ port => decide (port < 4)
  | .acyRsp _ port => decide (port < 4)
  | .peerFrame _ port => decide (port < 4)
  | .discoverTimer _ => true
  | .startTimeout _ stn => decide (stn < 2048)
  | .revalTimeout _ stn => decide (stn < 2048)
  | .acyItemSend _ stn => decide (stn < 2048)
  | .acyResend _ stn => decide (stn < 2048)
  | .acyTimeout _ stn => decide (stn < 2048)
  | .testWaitEnd _ stn => decide (stn < 2048)
  | .portLinkChange _ port _ => decide (port < 4)
  | .shadowGenerationTimeout _ => true
  | .velocity m cseq _ acc dec => decide (m < 32) && decide (cseq < 256) && decide (0 ≤ acc) && decide (0 ≤ dec)
  | .stop m cseq dec => decide (m < 32) && decide (cseq < 256) && decide (0 ≤ dec)
  | .quickStop m cseq => decide (m < 32) && decide (cseq < 256)
  | .setpos m cseq count frac => decide (m < 32) && decide (cseq < 256) && signed 48 count && decide (frac < 2 ^ 16)
  | .gear axis cseq master _ angle _ _ =>
      decide (axis < 1024) && decide (cseq < 256) && decide (master < 256) && decide (angle < 2 ^ 32)
  | .cam axis cseq master _ angle camId =>
      decide (axis < 1024) && decide (cseq < 256) && decide (master < 256) && decide (angle < 2 ^ 32)
        && decide (camId < 2 ^ 32)
  | .phase axis cseq rampTicks _ => decide (axis < 1024) && decide (cseq < 256) && decide (rampTicks < 2 ^ 32)
  | .disengage axis cseq => decide (axis < 1024) && decide (cseq < 256)
  | .regOn axis cseq => decide (axis < 1024) && decide (cseq < 256)
  | .regOff axis cseq => decide (axis < 1024) && decide (cseq < 256)
  | .masterLost _ m => decide (m < 32)
  | .edgeLaunch _ _ => true
  | .reflexPinChange _ pin _ => decide (pin < 16)
  | .edgeCapture _ ch _ _ _ => decide (ch < 16)
  | .armApply _ => true
  | .reflexConfigRewrite _ => true
  | .reflexMismatch _ pin _ => decide (pin < 16)
  | .loopCommandApply _ ch => decide (ch < 8)
  | .readbackSample _ ch _ _ _ _ _ _ _ => decide (ch < 8)
  | .headroomCheck _ ch _ _ => decide (ch < 8)
  | .ne43FilterExpiry _ ch => decide (ch < 8)
  | .conversionDone _ e _ => decide (e < 32)
  | .urgentConversionDone _ e _ _ => decide (e < 32)
  | .calDue _ _ => true
  | .calDone _ => true
  | .calStarved _ => true
  | .zero _ => true
  | .span _ => true
  | .select _ => true
  | .buttonTrimDone _ _ => true
  | .ptpSync _ _ dom _ _ _ => decide (dom < 256)
  | .delayReq _ port _ _ _ _ => decide (port < 4)
  | .delayResp _ _ _ _ => true
  | .ptpAnnounce _ _ _ _ _ => true
  | .ptpMasterLost _ _ => true
  | .keeperStart _ => true
  | .ltWaitExpiry _ => true
  | .timeMsgTimeout _ => true
  | .partnerOwnFall _ => true
  | .ownRaise _ => true
  | .partnerOwnRise _ => true
  | .ownFallNoLive _ => true
  | .partnerLiveLost _ => true
  | .ownStuck _ => true
  | .livenessWatchdog _ => true
  | .hallwayLost _ => true
  | .startRule _ => true
  | .readyHoldExpiry _ => true
  | .plannedOwnRelease _ => true
  | .switchoverTimeout _ => true
  | .hallLaneTrained _ hl => decide (hl < 2)
  | .hallLaneLost _ hl => decide (hl < 2)
  | .hallTrainingRetry _ => true
  | .hallLinkBlock _ hl _ _ => decide (hl < 2)
  | .hallIdleTimer _ => true
  | .helloResend _ => true
  | .rolePeriodic _ => true
  | .timeEchoPeriodic _ => true
  | .joinPassDone _ _ _ => true
  | .joinFinal _ _ => true
  | .joinTimeout _ => true
  | .joinRetry _ => true
  | .cardReadDone _ => true
  | .cardAppendDone _ _ => true
  | .compactionStepDone _ _ => true
  | .compactionRetry _ => true
  | .cardLockOpen _ => true
  | .cardInsert _ _ => true
  | .fwBlockWritten _ _ => true
  | .fwSignVerified _ _ => true
  | .dlIdleTimeout _ => true
  | .startWatchdog _ => true
  | .trialGood _ => true
  | .powerOnStart _ _ _ => true
  | .powerFail _ => true
  | .leverOpen _ => true
  | .feedChange _ _ _ => true
  | .sag _ _ => true
  | .sagRecovery _ => true
  | .sfpFault _ port => decide (port < 4)
  | .sfpRetry _ port _ _ => decide (port < 4)
  | .domainTrip _ dom => decide (1 ≤ dom ∧ dom ≤ 14)
  | .domainRestore _ dom => decide (1 ≤ dom ∧ dom ≤ 14)
  | .clockLoss _ _ => true
  | .hearthWatchdog _ => true
  | .bistDone _ r => r.wf
  | .rotPowerOn _ => true
  | .rotBistDone _ _ _ => true
  | .portTestDone _ port _ _ => decide (port < 4)
  | .scanTestEntry _ => true
  | .bypass _ => true
  | .idcode _ => true
  | .samplePreload _ => true
  | .extest _ => true
  | .clamp _ => true
  | .highz _ => true
  | .tlsHandshake _ _ _ _ _ _ _ _ _ => true
  | .arpRequest _ _ ip => decide (ip < 2 ^ 32)
  | .icmpEcho _ _ ip => decide (ip < 2 ^ 32)
  | .engLinkChange _ _ _ => true
  | .openSession _ _ _ _ _ => true
  | .savisClose _ _ => true
  | .ping r => r.wf
  | .read r b => r.wf && b.wf
  | .readMulti r bs => r.wf && bs.all ReadBody.wf
  | .violValidClear r _ => r.wf
  | .write r obj first ofs _ => r.wf && decide (obj < 2 ^ 16) && decide (first < 2 ^ 16) && decide (ofs < 2 ^ 16)
  | .outcome r _ => r.wf
  | .subscribe r no b _ _ => r.wf && decide (no < 16) && b.wf
  | .unsubscribe r no => r.wf && decide (no < 16)
  | .notifyDue _ _ no _ => decide (no < 16)
  | .sessionTimeout _ _ => true
  | .outcomeExpiry _ _ _ => true
  | .itemPread r stn _ timeoutMs index sub data =>
      r.wf && decide (stn < 2048) && decide (timeoutMs < 2 ^ 16) && decide (index < 2 ^ 16) && decide (sub < 256)
        && decide (data.length < 2 ^ 16)
  | .itemPwrite r stn _ timeoutMs index sub data =>
      r.wf && decide (stn < 2048) && decide (timeoutMs < 2 ^ 16) && decide (index < 2 ^ 16) && decide (sub < 256)
        && decide (data.length < 2 ^ 16)
  | .itemCommand r stn _ timeoutMs index sub data =>
      r.wf && decide (stn < 2048) && decide (timeoutMs < 2 ^ 16) && decide (index < 2 ^ 16) && decide (sub < 256)
        && decide (data.length < 2 ^ 16)
  | .itemDiag r stn _ timeoutMs index sub data =>
      r.wf && decide (stn < 2048) && decide (timeoutMs < 2 ^ 16) && decide (index < 2 ^ 16) && decide (sub < 256)
        && decide (data.length < 2 ^ 16)
  | .imgOpen r _ length => r.wf && decide (length < 2 ^ 32)
  | .imgBlock r ofs len _ => r.wf && decide (ofs < 2 ^ 32) && decide (1 ≤ len ∧ len ≤ 65536)
  | .imgEndChange r _ _ => r.wf
  | .imgEndCold r _ _ => r.wf
  | .imgEndMapped r _ _ => r.wf
  | .imgAbandon r => r.wf
  | .imgUploadTimeout _ => true
  | .restartCold r => r.wf
  | .restartWarm r => r.wf
  | .restartAuto r => r.wf
  | .switchover r => r.wf
  | .hearthReset r => r.wf
  | .loopTrim r _ ch zero span => r.wf && decide (ch < 8) && signed 32 zero && signed 32 span
  | .latTrim r _ port tx rx => r.wf && decide (port < 4) && signed 32 tx && signed 32 rx
  | .restep r => r.wf
  | .setTime r v => r.wf && v.wf
  | .fwOpen r _ => r.wf
  | .fwBlock r i _ => r.wf && decide (i < 2 ^ 16)
  | .fwSign r => r.wf
  | .fwAbandon r => r.wf
  | .fwActivate r bank minPfl => r.wf && decide (bank < 2) && decide (minPfl ≤ 3)
  | .projEnroll r _ _ _ => r.wf
  | .projClear r => r.wf
  | .rotTest r _ => r.wf
  | .portTest r port _ => r.wf && decide (port < 4)
  | .dbgOpen r _ => r.wf
  | .dbgClose r => r.wf
  | .dbgHalt r _ => r.wf
  | .dbgStep r _ => r.wf
  | .dbgResume r => r.wf
  | .dbgBreak r sel eng pc _ => r.wf && decide (sel < 8) && decide (eng < 16) && decide (pc < 2 ^ 24)
  | .dbgRead r addr len => r.wf && decide (addr < 2 ^ 32) && decide (len ≤ 32768 ∧ len % 4 = 0)
  | .dbgWrite r addr bytes => r.wf && decide (addr < 2 ^ 32) && decide (bytes.length ≤ 32768 ∧ bytes.length % 4 = 0)
  | .cardCompact r _ => r.wf
  | .cardRewrite r => r.wf
  | .netSet r target _ tcpPort address pfx gateway =>
      r.wf && (decide (target < 2) || target == 0xFF) && decide (tcpPort < 2 ^ 16) && decide (address < 2 ^ 32)
        && decide (pfx < 256) && decide (gateway < 2 ^ 32)
  | .caSet r anchors => r.wf && decide (anchors.length ≤ 4)
  | .status r => r.wf
  | .porchReset r => r.wf
  | .firmwareStart _ _ _ => true
  | .buildDone _ => true
  | .stroke _ => true
  | .sfpRemoved _ port => decide (port < 4)
  | .svcSwitchOff _ => true
  | .partnerLiveSeen _ => true
  | .hallTrainingTimeout _ => true
  | .delayReqTimer _ _ => true
  | .framingError _ _ => true
  | .cardLockClose _ => true
  | .cardRemoved _ => true

end Sys2Proof
end

