-- ==== Sys2Proof/Tests/Slice0.lean ====
section
/-! SUPPORT. The model's own tests. Every statement that has hypotheses is met by a named state here, clause by clause;
small tests of single commands and of the checks of WellFormed follow. -/

namespace Sys2Proof.Tests

open Sys2Proof Sys2Proof.Machine Sys2Proof.Claims

set_option Elab.async false
set_option maxRecDepth 100000

/-! ## States -/

/-- Station 1 of the image: three missed deadlines allowed, a cyclic image of four bytes each way. -/
def station1 : StationRec :=
  { (default : StationRec) with station := 1, limit := 3, devType := 7, ks := 1, verMin := 1, wdUs := 500, inLen := 4, outLen := 4 }

/-- A small configuration image: one segment port, one PEER port, class M in service, one station. -/
def image0 : Image :=
  { (default : Image) with
    magic := 0x31524E47, generation := 5, digest := 77, domain := 1, portRole := [.segment, .peer, .unused, .unused],
    etype := 0x88B5, kp := 1,
    classes := [⟨true, false, 1, [⟨0, 0, 8⟩], []⟩, ⟨true, false, 2, [], []⟩, ⟨false, false, 1, [], []⟩, ⟨false, false, 1, [], []⟩, ⟨false, false, 1, [], []⟩],
    stations := [station1], slots := [⟨1, 0, false, ⟨.imgIn, 16, 4⟩, 0⟩] }

/-- A state that differs from the state after reset as `f` says. -/
def coldly (f : Mod → Mod) : Machine.State := ⟨f Machine.State.reset.m, []⟩

/-- A module in a role, with the image and its program running. -/
def inRole (r : Role) (m : Mod) : Mod :=
  { m with pair := { m.pair with role := r }, prog := { m.prog with image := some image0, run := .running } }

/-- A started module that controls alone. -/
def aloneRaw (f : Mod → Mod) : Machine.State := coldly fun m => f (inRole .alone { m with
  power := { m.power with boot := .started, on := 0x3FFF }
  bolt := { m.bolt with permit := true, liveSelf := true, bistLatch := true, request := true, ownSelf := true } })

/-- A lane in service. -/
def serving : Lane := { Lane.zero with mode := .serving, power := true, bistOk := true }

/-- All three lanes in service. -/
def allServing (m : Mod) : Mod := { m with lanes := ⟨serving, serving, serving⟩ }

/-- A started module in a role: an image, lanes in service, line time begun. -/
def started (r : Role) (f : Mod → Mod) : Machine.State := coldly fun m => f (allServing (inRole r { m with
  power := { m.power with boot := .started, on := 0x3FFF }
  time := { m.time with begun := true }
  sched := { m.sched with running := true }
  bolt := { m.bolt with permit := true, liveSelf := true, bistLatch := true, request := true } }))

/-- A started module that is out of the pair. -/
def outside (f : Mod → Mod) : Machine.State := coldly fun m => f (allServing { m with
  power := { m.power with boot := .started, on := 0x3FFF }
  prog := { m.prog with image := some image0 }
  bolt := { m.bolt with permit := true, liveSelf := true, bistLatch := true } })

/-- What a module tells of itself on the Hallway. -/
def hello0 : Hello :=
  { (default : Hello) with digest := 77, img := true, side := 1, pflMin := 1, pflMax := 3, hofMin := 1, hofMax := 1 }

/-- The first header word of an instance: its type and its id. -/
def header0 (ty id : Nat) : W64 := BitVec.ofNat 64 (id + ty * 2^32)

/-- The second header word: state words, scratch words, flags. -/
def header1 (coldly sc fl : Nat) : W64 := BitVec.ofNat 64 (coldly + sc * 2^16 + fl * 2^32)

/-- The flags of an instance of class M (R118). -/
def ofClassM : Nat := 1 * 2^8

/-- An instance area with one instance of type 9 at word 2. -/
def memory1 : Mem 64 := [(2, header0 9 1), (3, header1 6 2 ofClassM), (4, 2^63), (5, 40), (6, 3)]

/-- What an execution sees of the module when it is released. -/
def snap1 : Snap := { (default : Snap) with relTick := 4, clk := 50, lt := 123456789 }

/-- An execution of class M. -/
def context1 : Ctx := { (default : Ctx) with snap := snap1 }

/-- Registers at boundary values: all ones, the least integer, NaNs, an infinity, small numbers. -/
def regs0 : Mem 64 := [(1, 0xFFFFFFFFFFFFFFFF), (2, 3), (3, 0x8000000000000000), (4, 7), (5, 0x4000000000000000), (6,
  0xC008000000000000), (7, 0x40490FDB), (8, 16), (9, 0x7FF0000000000001), (10, 0x7FF0000000000000), (11, 5), (12,5)]

/-- An engine that stands at code word 2. -/
def engine1 : Eng := { Eng.idle with st := .run, ib := 16, regs := regs0, pc := 2 }

/-- Engine 1 of lane A. -/
def e1 : EngRef := ⟨.A, 1⟩

/-- The image with a program. -/
def imageOf (ws : List W32) : Image := { image0 with
  code := 0 :: 0 :: ws, consts := [11, 22], routines := [⟨5, 9⟩, ⟨6, 0⟩, ⟨7, 8⟩] }

/-- What an operation works on, its parts changed as the functions say. -/
def viewOf (ws : List W32) (fi : Image → Image) (fx : Ctx → Ctx) (fe : Eng → Eng) (inst : Mem 64) : View :=
  let e := fe engine1
  ⟨fi (imageOf ws), 0, 1, inst, { (fx context1) with engs := [(1, e)] }, e⟩

/-- The state in which engine 1 of lane A stands at the first of the words. -/
def runs (ws : List W32) (fi : Image → Image) (fx : Ctx → Ctx) (fe : Eng → Eng) (inst : Mem 64) : Machine.State :=
  let v := viewOf ws fi fx fe inst
  started .alone fun m =>
  { m with prog := { m.prog with image := some v.img }, lanes := { m.lanes with a := { serving with inst := inst, ctxs := [(0, v.ctx)] } } }

/-- Engine 1 of lane A stands at a word. -/
def at1 (w : W32) : Machine.State := runs [w] id id id memory1

/-- What it works on there. -/
def view1 (w : W32) : View := viewOf [w] id id id memory1

/-- A class that is not in service. -/
def classOff (k : Nat) : ClassEnt := ⟨false, false, k, [], []⟩

/-- An image that passes every check of R357. -/
def goodImage : Image := { (default : Image) with
  magic := 0x49424C47, fmt := 1, total := 4096, hdrCrcOk := true, generation := 5, digestOk := true, digest := 77, layoutOk := true
  secs := [1, 2, 3, 5, 6, 7, 10].map fun t => ⟨t, true⟩
  tickCode := 1, delta := 32
  portRole := [.unused, .unused, .unused, .unused], portRate := [false, false, false, false], oP := [0, 0, 0, 0]
  classes := ⟨true, false, 1, [⟨0, 0, 1⟩], []⟩ :: (List.replicate 4 (classOff 1)) ++ List.replicate 9 (classOff 0)
  routines := [⟨0, 9⟩], code := [opWord 0x93 0 0 0], types := [⟨9, 1, [⟨1, 2, 1, false, .int64⟩]⟩]
  insts := [⟨8, [header0 9 1, BitVec.ofNat 64 (1 + 2 ^ 48), 0]⟩]
  time := { (default : TimeRec) with jumpLimUs := 10 }
  proof := { (default : ProofRec) with tickCode := 1, delta := 32, cM := 2, buildPt := 1230 } }

/-- The superblock of the card. -/
def super0 : Super := ⟨true, 1, 0, 3, 0, 10, 0, 77⟩

/-- A card that holds the good image. -/
def card0 : Card := ⟨true, 128, super0, ⟨false, 0, 0, 0, 0, 0, 0, 0⟩, ⟨true, some goodImage, [], 3⟩, ⟨false, none,
  [], 0⟩, []⟩

/-! ## Operations -/

namespace Ops

/-- The state in which engine 1 of a lane stands at a sample operation. -/
def samplesOn (l : LaneId) (w : W32) (fi : Image → Image) (f : Mod → Mod) : Machine.State :=
  let v := viewOf [w] fi id id memory1
  started .alone fun m => f ({ m with prog := { m.prog with image := some v.img } }.setLane l fun _ =>
  { serving with inst := memory1, ctxs := [(0, v.ctx)] })

/-- An engine can stand at any word, with register values at the boundaries: what the statements whose one premise is
that an engine stands at an operation ask for. -/
theorem witness_any_word_stands (w : W32) : ∃ (s : State) (v : View), Stands s e1 w v := 
  ⟨at1 w, view1 w, show (if (view1 w).img.code[(view1 w).eng.pc]? = some w then some (view1 w) else none) = _ from if_pos rfl⟩

/-- The premises inside the statements on edge, timer and counter blocks: a block in the state words, one that reaches the
header, one that ends past the instance. -/
theorem witness_blocks :
    (∃ (s : State) (v : View), Stands s e1 (opWord 0x70 3 5 2) v ∧ InState v 2 3)
    ∧ (∃ (s : State) (v : View), Stands s e1 (opWord 0x70 3 5 5) v ∧ InState v 5 3)
    ∧ (∃ (s : State) (v : View), Stands s e1 (opWord 0x70 3 5 1) v ∧ ¬InState v 1 3)
    ∧ (∃ (s : State) (v : View), Stands s e1 (opWord 0x70 3 5 6) v ∧ ¬InState v 6 3) :=
  ⟨⟨at1 (opWord 0x70 3 5 2), view1 (opWord 0x70 3 5 2), by decide +kernel⟩,
   ⟨at1 (opWord 0x70 3 5 5), view1 (opWord 0x70 3 5 5), by decide +kernel⟩,
   ⟨at1 (opWord 0x70 3 5 1), view1 (opWord 0x70 3 5 1), by decide +kernel⟩,
   ⟨at1 (opWord 0x70 3 5 6), view1 (opWord 0x70 3 5 6), by decide +kernel⟩⟩


theorem witness_IntegerOperationsComputeAsTabled :
  (∃ (s : State) (v : View) (e : EngRef) (d r : Reg), Stands s e (opWord 21 d r 0) v ∧ v.r r ≠ 0)
  ∧ (∃ (s : State) (v : View) (e : EngRef) (d r : Reg), Stands s e (opWord 22 d r 0) v ∧ v.r r ≠ 0)
  ∧ (∃ (s : State) (v : View) (e : EngRef) (d r : Reg), Stands s e (opWord 23 d r 0) v ∧ v.r r ≠ 0)
  ∧ (∃ (s : State) (v : View) (e : EngRef) (d r : Reg), Stands s e (opWord 21 d r 0) v ∧ v.r r = 0)
  ∧ (∃ (s : State) (v : View) (e : EngRef) (d r : Reg), Stands s e (opWord 22 d r 0) v ∧ v.r r = 0)
  ∧ (∃ (s : State) (v : View) (e : EngRef) (d r : Reg), Stands s e (opWord 23 d r 0) v ∧ v.r r = 0) :=
  ⟨⟨at1 (opWord 0x15 1 2 0), view1 (opWord 0x15 1 2 0), e1, 1, 2, by decide +kernel⟩,
   ⟨at1 (opWord 0x16 1 2 0), view1 (opWord 0x16 1 2 0), e1, 1, 2, by decide +kernel⟩,
   ⟨at1 (opWord 0x17 1 2 0), view1 (opWord 0x17 1 2 0), e1, 1, 2, by decide +kernel⟩,
   ⟨at1 (opWord 0x15 4 0 0), view1 (opWord 0x15 4 0 0), e1, 4, 0, by decide +kernel⟩,
   ⟨at1 (opWord 0x16 4 0 0), view1 (opWord 0x16 4 0 0), e1, 4, 0, by decide +kernel⟩,
   ⟨at1 (opWord 0x17 4 0 0), view1 (opWord 0x17 4 0 0), e1, 4, 0, by decide +kernel⟩⟩

theorem witness_IntegerOperationsComputeAsTabled_more :
  (∃ (s : State) (v : View) (e : EngRef) (d r : Reg), Stands s e (opWord 21 d r 0) v ∧ v.r r ≠ 0)
  ∧ (∃ (s : State) (v : View) (e : EngRef) (d r : Reg), Stands s e (opWord 22 d r 0) v ∧ v.r r ≠ 0)
  ∧ (∃ (s : State) (v : View) (e : EngRef) (d r : Reg), Stands s e (opWord 23 d r 0) v ∧ v.r r ≠ 0) :=
  ⟨⟨at1 (opWord 0x15 11 12 0), view1 (opWord 0x15 11 12 0), e1, 11, 12, by decide +kernel⟩,
   ⟨at1 (opWord 0x16 11 12 0), view1 (opWord 0x16 11 12 0), e1, 11, 12, by decide +kernel⟩,
   ⟨at1 (opWord 0x17 11 12 0), view1 (opWord 0x17 11 12 0), e1, 11, 12, by decide +kernel⟩⟩

theorem witness_FloatOperationsDeliverResultAndFlags :
  (∃ (w : FWidth) (x : W64), (fpOf w x).isNan = true)
  ∧ (∃ m : Nat, 0 < m)
  ∧ (∃ (w : FWidth) (minus : W64), minus = 1#64 <<< (FWidth.bits w - 1) ∧ ∃ a : BitVec 64, a ∈ [0#64, minus] ∧ ∃ b :
      BitVec 64, b ∈ [0#64, minus]) :=
  ⟨⟨.b64, 0x7FF0000000000001, by decide +kernel⟩,
   ⟨9, by decide +kernel⟩,
   ⟨.b64, _, rfl, 0x8000000000000000, by decide +kernel, 0x8000000000000000, by decide +kernel⟩⟩

theorem witness_FloatOperationsDeliverResultAndFlags_more :
  ∃ (w : FWidth) (minus : W64), minus = 1#64 <<< (FWidth.bits w - 1) ∧ ∃ a : BitVec 64, a ∈ [0#64, minus] ∧ ∃ b :
      BitVec 64, b ∈ [0#64, minus] :=
  ⟨.b32, _, rfl, 0x80000000, by decide +kernel, 0x80000000, by decide +kernel⟩

theorem witness_MovesAndLinkWords :
  (∃ (s : State) (v : View) (e : EngRef), Stands s e (opWord 0 0 0 0) v)
  ∧ (∃ (s : State) (v : View) (e : EngRef) (d : Reg) (i : Imm) (x : W64), Stands s e (opWord 3 d 0 i) v ∧
      v.img.consts[BitVec.toNat i]? = some x)
  ∧ (∃ (s : State) (v : View) (e : EngRef) (d : Reg) (i : Imm), Stands s e (opWord 4 d 0 i) v)
  ∧ (∃ (s : State) (v : View) (e : EngRef) (d : Reg) (i : Imm), Stands s e (opWord 5 d 0 i) v)
  ∧ (∃ (s : State) (v : View) (e : EngRef) (d r : Reg) (i : Imm), Stands s e (opWord 6 d r i) v)
  ∧ (∃ (s : State) (v : View) (e : EngRef) (d r : Reg) (i : Imm), Stands s e (opWord 7 d r i) v)
  ∧ (∃ (s : State) (v : View) (e : EngRef) (d r : Reg) (i : Imm), Stands s e (opWord 8 d r i) v ∧ HandleOk v (uns v
      r))
  ∧ (∃ (s : State) (v : View) (e : EngRef) (d r : Reg) (i : Imm), Stands s e (opWord 9 d r i) v ∧ HandleOk v (uns v
      r))
  ∧ (∃ (s : State) (v : View) (e : EngRef) (d r : Reg) (i : Imm), Stands s e (opWord 8 d r i) v ∧ ¬HandleOk v (uns v
      r))
  ∧ (∃ (s : State) (v : View) (e : EngRef) (d r : Reg) (i : Imm), Stands s e (opWord 9 d r i) v ∧ ¬HandleOk v (uns v
      r))
  ∧ (∃ (s : State) (v : View) (e : EngRef) (d : Reg) (i : Imm), Stands s e (opWord 13 d 0 i) v ∧ tabFind v.ctx.links
      (BitVec.toNat i) = none)
  ∧ (∃ (s : State) (v : View) (e : EngRef) (d : Reg) (i : Imm) (l : Link), Stands s e (opWord 13 d 0 i) v ∧ tabFind
      v.ctx.links (BitVec.toNat i) = some l)
  ∧ (∃ (s : State) (v : View) (e : EngRef) (d : Reg) (i : Imm) (l : Link), Stands s e (opWord 12 d 0 i) v ∧ tabFind
      v.ctx.links (BitVec.toNat i) = some l)
  ∧ (∃ (s : State) (v : View) (e : EngRef) (d : Reg) (i : Imm), Stands s e (opWord 12 d 0 i) v ∧ tabFind v.ctx.links
      (BitVec.toNat i) = none) :=
  ⟨⟨at1 (opWord 0x0 0 0 0), view1 (opWord 0x0 0 0 0), e1, by decide +kernel⟩,
   ⟨at1 (opWord 0x3 3 0 1), view1 (opWord 0x3 3 0 1), e1, 3, 1, 22, by decide +kernel⟩,
   ⟨runs [opWord 0x4 3 0 0] id (fun c => {c with scratch := []}) id (memory1 ++ [(8,77),(9,88)]), viewOf [opWord 0x4 3 0
     0] id (fun c => {c with scratch := []}) id (memory1 ++ [(8,77),(9,88)]), e1, 3, 0, by decide +kernel⟩,
   ⟨runs [opWord 0x5 3 0 0] id (fun c => {c with scratch := []}) id (memory1 ++ [(8,77),(9,88)]), viewOf [opWord 0x5 3 0
     0] id (fun c => {c with scratch := []}) id (memory1 ++ [(8,77),(9,88)]), e1, 3, 0, by decide +kernel⟩,
   ⟨runs [opWord 0x6 3 0 0] id (fun c => {c with scratch := []}) id (memory1 ++ [(8,77),(9,88)]), viewOf [opWord 0x6 3 0
     0] id (fun c => {c with scratch := []}) id (memory1 ++ [(8,77),(9,88)]), e1, 3, 0, 0, by decide +kernel⟩,
   ⟨runs [opWord 0x7 3 0 0] id (fun c => {c with scratch := []}) id (memory1 ++ [(8,77),(9,88)]), viewOf [opWord 0x7 3 0
     0] id (fun c => {c with scratch := []}) id (memory1 ++ [(8,77),(9,88)]), e1, 3, 0, 0, by decide +kernel⟩,
   ⟨runs [opWord 0x8 3 8 0] id (fun c => {c with scratch := []}) id (memory1 ++ [(8,77),(9,88)]), viewOf [opWord 0x8 3 8
     0] id (fun c => {c with scratch := []}) id (memory1 ++ [(8,77),(9,88)]), e1, 3, 8, 0, by decide +kernel⟩,
   ⟨runs [opWord 0x9 3 8 0] id (fun c => {c with scratch := []}) id (memory1 ++ [(8,77),(9,88)]), viewOf [opWord 0x9 3 8
     0] id (fun c => {c with scratch := []}) id (memory1 ++ [(8,77),(9,88)]), e1, 3, 8, 0, by decide +kernel⟩,
   ⟨at1 (opWord 0x8 3 1 2), view1 (opWord 0x8 3 1 2), e1, 3, 1, 2, by decide +kernel⟩,
   ⟨at1 (opWord 0x9 3 1 2), view1 (opWord 0x9 3 1 2), e1, 3, 1, 2, by decide +kernel⟩,
   ⟨at1 (opWord 0xd 4 0 5), view1 (opWord 0xd 4 0 5), e1, 4, 5, by decide +kernel⟩,
   ⟨runs [opWord 0xd 4 0 5] id (fun c => {c with links := [(5,⟨9,3⟩)]}) id memory1, viewOf [opWord 0xd 4 0 5] id (fun c
     => {c with links := [(5,⟨9,3⟩)]}) id memory1, e1, 4, 5, ⟨9,3⟩, by decide +kernel⟩,
   ⟨runs [opWord 0xc 4 0 5] id (fun c => {c with links := [(5,⟨9,30⟩)]}) id memory1, viewOf [opWord 0xc 4 0 5] id (fun c
     => {c with links := [(5,⟨9,30⟩)]}) id memory1, e1, 4, 5, ⟨9,30⟩, by decide +kernel⟩,
   ⟨at1 (opWord 0xc 4 0 5), view1 (opWord 0xc 4 0 5), e1, 4, 5, by decide +kernel⟩⟩

theorem witness_MovesAndLinkWords_more :
  (∃ (s : State) (v : View) (e : EngRef) (d r : Reg) (i : Imm), Stands s e (opWord 8 d r i) v ∧ HandleOk v (uns v r))
  ∧ (∃ (s : State) (v : View) (e : EngRef) (d r : Reg) (i : Imm), Stands s e (opWord 9 d r i) v ∧ HandleOk v (uns v
      r))
  ∧ (∃ (s : State) (v : View) (e : EngRef) (d r : Reg) (i : Imm), Stands s e (opWord 8 d r i) v ∧ ¬HandleOk v (uns v
      r))
  ∧ (∃ (s : State) (v : View) (e : EngRef) (d r : Reg) (i : Imm), Stands s e (opWord 9 d r i) v ∧ ¬HandleOk v (uns v
      r)) :=
  ⟨⟨runs [opWord 0x8 3 8 99] id (fun c => {c with scratch := [(8,())]}) id (memory1 ++ [(8,77),(9,88)]), viewOf [opWord
     0x8 3 8 99] id (fun c => {c with scratch := [(8,())]}) id (memory1 ++ [(8,77),(9,88)]), e1, 3, 8, 99,
     by decide +kernel⟩,
   ⟨runs [opWord 0x9 3 8 99] id (fun c => {c with scratch := [(8,())]}) id (memory1 ++ [(8,77),(9,88)]), viewOf [opWord
     0x9 3 8 99] id (fun c => {c with scratch := [(8,())]}) id (memory1 ++ [(8,77),(9,88)]), e1, 3, 8, 99,
     by decide +kernel⟩,
   ⟨at1 (opWord 0x8 3 4 2), view1 (opWord 0x8 3 4 2), e1, 3, 4, 2, by decide +kernel⟩,
   ⟨at1 (opWord 0x9 3 4 2), view1 (opWord 0x9 3 4 2), e1, 3, 4, 2, by decide +kernel⟩⟩

theorem witness_ImagePointsAreCheckedInOrder :
  (∃ (s : State) (v : View) (e : EngRef) (d r : Reg), Stands s e (opWord 10 d r 0) v ∧ ∃ p : W32, p = BitVec.ofNat 32
      (uns v r) ∧ (pointRsvd p ≠ 0 ∨ pointPast p = true))
  ∧ (∃ (s : State) (v : View) (e : EngRef) (d r : Reg), Stands s e (opWord 10 d r 0) v ∧ ∃ p : W32, p = BitVec.ofNat
      32 (uns v r) ∧ pointRsvd p = 0 ∧ pointPast p = false ∧ pointMisaligned p = true)
  ∧ (∃ (s : State) (v : View) (e : EngRef) (d r : Reg), Stands s e (opWord 10 d r 0) v ∧ ∃ p : W32, p = BitVec.ofNat
      32 (uns v r) ∧ pointRsvd p = 0 ∧ pointPast p = false ∧ pointMisaligned p = false ∧ pointType p = 6 ∧ pairOk d =
      false)
  ∧ (∃ (s : State) (v : View) (e : EngRef) (d r : Reg), Stands s e (opWord 11 d r 0) v ∧ ∃ p : W32, p = BitVec.ofNat
      32 (uns v r) ∧ (pointRsvd p ≠ 0 ∨ pointPast p = true))
  ∧ (∃ (s : State) (v : View) (e : EngRef) (d r : Reg), Stands s e (opWord 11 d r 0) v ∧ ∃ p : W32, p = BitVec.ofNat
      32 (uns v r) ∧ pointRsvd p = 0 ∧ pointPast p = false ∧ pointMisaligned p = true)
  ∧ (∃ (s : State) (v : View) (e : EngRef) (d r : Reg), Stands s e (opWord 11 d r 0) v ∧ ∃ p : W32, p = BitVec.ofNat
      32 (uns v r) ∧ pointRsvd p = 0 ∧ pointPast p = false ∧ pointMisaligned p = false ∧ pointType p = 6 ∧ pairOk d =
      false)
  ∧ (∃ (s : State) (v : View) (e : EngRef) (d r : Reg), Stands s e (opWord 10 d r 0) v ∧ ∃ p : W32, p = BitVec.ofNat
      32 (uns v r) ∧ ∃ n : Nat, n = typeSize (pointType p) ∧ ∃ bs : List Byte, pointCheck p d false = none ∧
      v.readBytes (pointArea p) (pointOfs p) n = some bs)
  ∧ (∃ (s : State) (v : View) (e : EngRef) (d r : Reg), Stands s e (opWord 10 d r 0) v ∧ ∃ p : W32, p = BitVec.ofNat
      32 (uns v r) ∧ ∃ n : Nat, n = typeSize (pointType p) ∧ pointCheck p d false = none ∧ v.readBytes (pointArea p)
      (pointOfs p) n = none)
  ∧ (∃ (s : State) (v : View) (e : EngRef) (d r : Reg), Stands s e (opWord 11 d r 0) v ∧ ∃ p : W32, p = BitVec.ofNat
      32 (uns v r) ∧ ∃ n : Nat, n = typeSize (pointType p) ∧ pointCheck p d true = none ∧ v.writable (pointArea p)
      (pointOfs p) n = true)
  ∧ (∃ (s : State) (v : View) (e : EngRef) (d r : Reg), Stands s e (opWord 11 d r 0) v ∧ ∃ p : W32, p = BitVec.ofNat
      32 (uns v r) ∧ ∃ n : Nat, n = typeSize (pointType p) ∧ pointCheck p d true = none ∧ v.writable (pointArea p)
      (pointOfs p) n = false) :=
  ⟨⟨runs [opWord 0xa 3 13 0] (fun i =>
     {i with classes := [⟨true, false, 1, [⟨0, 0, 8⟩], [⟨.imgIn,0,64⟩,⟨.imgOut,0,8⟩,⟨.axIn,0,64⟩]⟩], writers := [⟨⟨.imgOut,8,24⟩,0,1⟩,⟨⟨.axOut,0,64⟩,0,1⟩]})
     (fun c => {c with rel := ⟨[(3,7),(9,255),(8,254)],[(1,1)],[(2,2)],[]⟩, obuf := ⟨[],[(8,128),(9,1)],[],[(0,5)]⟩})
     (fun e => {e with regs := memSet e.regs 13 276824096}) memory1, viewOf [opWord 0xa 3 13 0] (fun i =>
     {i with classes := [⟨true, false, 1, [⟨0, 0, 8⟩], [⟨.imgIn,0,64⟩,⟨.imgOut,0,8⟩,⟨.axIn,0,64⟩]⟩], writers := [⟨⟨.imgOut,8,24⟩,0,1⟩,⟨⟨.axOut,0,64⟩,0,1⟩]})
     (fun c => {c with rel := ⟨[(3,7),(9,255),(8,254)],[(1,1)],[(2,2)],[]⟩, obuf := ⟨[],[(8,128),(9,1)],[],[(0,5)]⟩})
     (fun e => {e with regs := memSet e.regs 13 276824096}) memory1, e1, 3, 13, by decide +kernel, _, rfl,
     by decide +kernel⟩,
   ⟨runs [opWord 0xa 3 13 0] (fun i =>
     {i with classes := [⟨true, false, 1, [⟨0, 0, 8⟩], [⟨.imgIn,0,64⟩,⟨.imgOut,0,8⟩,⟨.axIn,0,64⟩]⟩], writers := [⟨⟨.imgOut,8,24⟩,0,1⟩,⟨⟨.axOut,0,64⟩,0,1⟩]})
     (fun c => {c with rel := ⟨[(3,7),(9,255),(8,254)],[(1,1)],[(2,2)],[]⟩, obuf := ⟨[],[(8,128),(9,1)],[],[(0,5)]⟩})
     (fun e => {e with regs := memSet e.regs 13 268435496}) memory1, viewOf [opWord 0xa 3 13 0] (fun i =>
     {i with classes := [⟨true, false, 1, [⟨0, 0, 8⟩], [⟨.imgIn,0,64⟩,⟨.imgOut,0,8⟩,⟨.axIn,0,64⟩]⟩], writers := [⟨⟨.imgOut,8,24⟩,0,1⟩,⟨⟨.axOut,0,64⟩,0,1⟩]})
     (fun c => {c with rel := ⟨[(3,7),(9,255),(8,254)],[(1,1)],[(2,2)],[]⟩, obuf := ⟨[],[(8,128),(9,1)],[],[(0,5)]⟩})
     (fun e => {e with regs := memSet e.regs 13 268435496}) memory1, e1, 3, 13, by decide +kernel, _, rfl,
     by decide +kernel⟩,
   ⟨runs [opWord 0xa 0 13 0] (fun i =>
     {i with classes := [⟨true, false, 1, [⟨0, 0, 8⟩], [⟨.imgIn,0,64⟩,⟨.imgOut,0,8⟩,⟨.axIn,0,64⟩]⟩], writers := [⟨⟨.imgOut,8,24⟩,0,1⟩,⟨⟨.axOut,0,64⟩,0,1⟩]})
     (fun c => {c with rel := ⟨[(3,7),(9,255),(8,254)],[(1,1)],[(2,2)],[]⟩, obuf := ⟨[],[(8,128),(9,1)],[],[(0,5)]⟩})
     (fun e => {e with regs := memSet e.regs 13 805306432}) memory1, viewOf [opWord 0xa 0 13 0] (fun i =>
     {i with classes := [⟨true, false, 1, [⟨0, 0, 8⟩], [⟨.imgIn,0,64⟩,⟨.imgOut,0,8⟩,⟨.axIn,0,64⟩]⟩], writers := [⟨⟨.imgOut,8,24⟩,0,1⟩,⟨⟨.axOut,0,64⟩,0,1⟩]})
     (fun c => {c with rel := ⟨[(3,7),(9,255),(8,254)],[(1,1)],[(2,2)],[]⟩, obuf := ⟨[],[(8,128),(9,1)],[],[(0,5)]⟩})
     (fun e => {e with regs := memSet e.regs 13 805306432}) memory1, e1, 0, 13, by decide +kernel, _, rfl,
     by decide +kernel⟩,
   ⟨runs [opWord 0xb 3 13 0] (fun i =>
     {i with classes := [⟨true, false, 1, [⟨0, 0, 8⟩], [⟨.imgIn,0,64⟩,⟨.imgOut,0,8⟩,⟨.axIn,0,64⟩]⟩], writers := [⟨⟨.imgOut,8,24⟩,0,1⟩,⟨⟨.axOut,0,64⟩,0,1⟩]})
     (fun c => {c with rel := ⟨[(3,7),(9,255),(8,254)],[(1,1)],[(2,2)],[]⟩, obuf := ⟨[],[(8,128),(9,1)],[],[(0,5)]⟩})
     (fun e => {e with regs := memSet e.regs 13 276824096}) memory1, viewOf [opWord 0xb 3 13 0] (fun i =>
     {i with classes := [⟨true, false, 1, [⟨0, 0, 8⟩], [⟨.imgIn,0,64⟩,⟨.imgOut,0,8⟩,⟨.axIn,0,64⟩]⟩], writers := [⟨⟨.imgOut,8,24⟩,0,1⟩,⟨⟨.axOut,0,64⟩,0,1⟩]})
     (fun c => {c with rel := ⟨[(3,7),(9,255),(8,254)],[(1,1)],[(2,2)],[]⟩, obuf := ⟨[],[(8,128),(9,1)],[],[(0,5)]⟩})
     (fun e => {e with regs := memSet e.regs 13 276824096}) memory1, e1, 3, 13, by decide +kernel, _, rfl,
     by decide +kernel⟩,
   ⟨runs [opWord 0xb 3 13 0] (fun i =>
     {i with classes := [⟨true, false, 1, [⟨0, 0, 8⟩], [⟨.imgIn,0,64⟩,⟨.imgOut,0,8⟩,⟨.axIn,0,64⟩]⟩], writers := [⟨⟨.imgOut,8,24⟩,0,1⟩,⟨⟨.axOut,0,64⟩,0,1⟩]})
     (fun c => {c with rel := ⟨[(3,7),(9,255),(8,254)],[(1,1)],[(2,2)],[]⟩, obuf := ⟨[],[(8,128),(9,1)],[],[(0,5)]⟩})
     (fun e => {e with regs := memSet e.regs 13 268435496}) memory1, viewOf [opWord 0xb 3 13 0] (fun i =>
     {i with classes := [⟨true, false, 1, [⟨0, 0, 8⟩], [⟨.imgIn,0,64⟩,⟨.imgOut,0,8⟩,⟨.axIn,0,64⟩]⟩], writers := [⟨⟨.imgOut,8,24⟩,0,1⟩,⟨⟨.axOut,0,64⟩,0,1⟩]})
     (fun c => {c with rel := ⟨[(3,7),(9,255),(8,254)],[(1,1)],[(2,2)],[]⟩, obuf := ⟨[],[(8,128),(9,1)],[],[(0,5)]⟩})
     (fun e => {e with regs := memSet e.regs 13 268435496}) memory1, e1, 3, 13, by decide +kernel, _, rfl,
     by decide +kernel⟩,
   ⟨runs [opWord 0xb 0 13 0] (fun i =>
     {i with classes := [⟨true, false, 1, [⟨0, 0, 8⟩], [⟨.imgIn,0,64⟩,⟨.imgOut,0,8⟩,⟨.axIn,0,64⟩]⟩], writers := [⟨⟨.imgOut,8,24⟩,0,1⟩,⟨⟨.axOut,0,64⟩,0,1⟩]})
     (fun c => {c with rel := ⟨[(3,7),(9,255),(8,254)],[(1,1)],[(2,2)],[]⟩, obuf := ⟨[],[(8,128),(9,1)],[],[(0,5)]⟩})
     (fun e => {e with regs := memSet e.regs 13 805306432}) memory1, viewOf [opWord 0xb 0 13 0] (fun i =>
     {i with classes := [⟨true, false, 1, [⟨0, 0, 8⟩], [⟨.imgIn,0,64⟩,⟨.imgOut,0,8⟩,⟨.axIn,0,64⟩]⟩], writers := [⟨⟨.imgOut,8,24⟩,0,1⟩,⟨⟨.axOut,0,64⟩,0,1⟩]})
     (fun c => {c with rel := ⟨[(3,7),(9,255),(8,254)],[(1,1)],[(2,2)],[]⟩, obuf := ⟨[],[(8,128),(9,1)],[],[(0,5)]⟩})
     (fun e => {e with regs := memSet e.regs 13 805306432}) memory1, e1, 0, 13, by decide +kernel, _, rfl,
     by decide +kernel⟩,
   ⟨runs [opWord 0xa 3 13 0] (fun i =>
     {i with classes := [⟨true, false, 1, [⟨0, 0, 8⟩], [⟨.imgIn,0,64⟩,⟨.imgOut,0,8⟩,⟨.axIn,0,64⟩]⟩], writers := [⟨⟨.imgOut,8,24⟩,0,1⟩,⟨⟨.axOut,0,64⟩,0,1⟩]})
     (fun c => {c with rel := ⟨[(3,7),(9,255),(8,254)],[(1,1)],[(2,2)],[]⟩, obuf := ⟨[],[(8,128),(9,1)],[],[(0,5)]⟩})
     (fun e => {e with regs := memSet e.regs 13 64}) memory1, viewOf [opWord 0xa 3 13 0] (fun i =>
     {i with classes := [⟨true, false, 1, [⟨0, 0, 8⟩], [⟨.imgIn,0,64⟩,⟨.imgOut,0,8⟩,⟨.axIn,0,64⟩]⟩], writers := [⟨⟨.imgOut,8,24⟩,0,1⟩,⟨⟨.axOut,0,64⟩,0,1⟩]})
     (fun c => {c with rel := ⟨[(3,7),(9,255),(8,254)],[(1,1)],[(2,2)],[]⟩, obuf := ⟨[],[(8,128),(9,1)],[],[(0,5)]⟩})
     (fun e => {e with regs := memSet e.regs 13 64}) memory1, e1, 3, 13, by decide +kernel, _, rfl, _, rfl, [254],
     by decide +kernel⟩,
   ⟨runs [opWord 0xa 3 13 0] (fun i =>
     {i with classes := [⟨true, false, 1, [⟨0, 0, 8⟩], [⟨.imgIn,0,64⟩,⟨.imgOut,0,8⟩,⟨.axIn,0,64⟩]⟩], writers := [⟨⟨.imgOut,8,24⟩,0,1⟩,⟨⟨.axOut,0,64⟩,0,1⟩]})
     (fun c => {c with rel := ⟨[(3,7),(9,255),(8,254)],[(1,1)],[(2,2)],[]⟩, obuf := ⟨[],[(8,128),(9,1)],[],[(0,5)]⟩})
     (fun e => {e with regs := memSet e.regs 13 512}) memory1, viewOf [opWord 0xa 3 13 0] (fun i =>
     {i with classes := [⟨true, false, 1, [⟨0, 0, 8⟩], [⟨.imgIn,0,64⟩,⟨.imgOut,0,8⟩,⟨.axIn,0,64⟩]⟩], writers := [⟨⟨.imgOut,8,24⟩,0,1⟩,⟨⟨.axOut,0,64⟩,0,1⟩]})
     (fun c => {c with rel := ⟨[(3,7),(9,255),(8,254)],[(1,1)],[(2,2)],[]⟩, obuf := ⟨[],[(8,128),(9,1)],[],[(0,5)]⟩})
     (fun e => {e with regs := memSet e.regs 13 512}) memory1, e1, 3, 13, by decide +kernel, _, rfl, _, rfl,
     by decide +kernel⟩,
   ⟨runs [opWord 0xb 3 13 0] (fun i =>
     {i with classes := [⟨true, false, 1, [⟨0, 0, 8⟩], [⟨.imgIn,0,64⟩,⟨.imgOut,0,8⟩,⟨.axIn,0,64⟩]⟩], writers := [⟨⟨.imgOut,8,24⟩,0,1⟩,⟨⟨.axOut,0,64⟩,0,1⟩]})
     (fun c => {c with rel := ⟨[(3,7),(9,255),(8,254)],[(1,1)],[(2,2)],[]⟩, obuf := ⟨[],[(8,128),(9,1)],[],[(0,5)]⟩})
     (fun e => {e with regs := memSet e.regs 13 1073741893}) memory1, viewOf [opWord 0xb 3 13 0] (fun i =>
     {i with classes := [⟨true, false, 1, [⟨0, 0, 8⟩], [⟨.imgIn,0,64⟩,⟨.imgOut,0,8⟩,⟨.axIn,0,64⟩]⟩], writers := [⟨⟨.imgOut,8,24⟩,0,1⟩,⟨⟨.axOut,0,64⟩,0,1⟩]})
     (fun c => {c with rel := ⟨[(3,7),(9,255),(8,254)],[(1,1)],[(2,2)],[]⟩, obuf := ⟨[],[(8,128),(9,1)],[],[(0,5)]⟩})
     (fun e => {e with regs := memSet e.regs 13 1073741893}) memory1, e1, 3, 13, by decide +kernel, _, rfl, _, rfl,
     by decide +kernel⟩,
   ⟨runs [opWord 0xb 3 13 0] (fun i =>
     {i with classes := [⟨true, false, 1, [⟨0, 0, 8⟩], [⟨.imgIn,0,64⟩,⟨.imgOut,0,8⟩,⟨.axIn,0,64⟩]⟩], writers := [⟨⟨.imgOut,8,24⟩,0,1⟩,⟨⟨.axOut,0,64⟩,0,1⟩]})
     (fun c => {c with rel := ⟨[(3,7),(9,255),(8,254)],[(1,1)],[(2,2)],[]⟩, obuf := ⟨[],[(8,128),(9,1)],[],[(0,5)]⟩})
     (fun e => {e with regs := memSet e.regs 13 1073741824}) memory1, viewOf [opWord 0xb 3 13 0] (fun i =>
     {i with classes := [⟨true, false, 1, [⟨0, 0, 8⟩], [⟨.imgIn,0,64⟩,⟨.imgOut,0,8⟩,⟨.axIn,0,64⟩]⟩], writers := [⟨⟨.imgOut,8,24⟩,0,1⟩,⟨⟨.axOut,0,64⟩,0,1⟩]})
     (fun c => {c with rel := ⟨[(3,7),(9,255),(8,254)],[(1,1)],[(2,2)],[]⟩, obuf := ⟨[],[(8,128),(9,1)],[],[(0,5)]⟩})
     (fun e => {e with regs := memSet e.regs 13 1073741824}) memory1, e1, 3, 13, by decide +kernel, _, rfl, _, rfl,
     by decide +kernel⟩⟩

theorem witness_ImagePointsAreCheckedInOrder_more :
  (∃ (s : State) (v : View) (e : EngRef) (d r : Reg), Stands s e (opWord 10 d r 0) v ∧ ∃ p : W32, p = BitVec.ofNat 32
      (uns v r) ∧ (pointRsvd p ≠ 0 ∨ pointPast p = true))
  ∧ (∃ (s : State) (v : View) (e : EngRef) (d r : Reg), Stands s e (opWord 10 d r 0) v ∧ ∃ p : W32, p = BitVec.ofNat
      32 (uns v r) ∧ pointRsvd p = 0 ∧ pointPast p = false ∧ pointMisaligned p = true)
  ∧ (∃ (s : State) (v : View) (e : EngRef) (d r : Reg), Stands s e (opWord 10 d r 0) v ∧ ∃ p : W32, p = BitVec.ofNat
      32 (uns v r) ∧ pointRsvd p = 0 ∧ pointPast p = false ∧ pointMisaligned p = false ∧ pointType p = 6 ∧ pairOk d =
      false)
  ∧ (∃ (s : State) (v : View) (e : EngRef) (d r : Reg), Stands s e (opWord 11 d r 0) v ∧ ∃ p : W32, p = BitVec.ofNat
      32 (uns v r) ∧ (pointRsvd p ≠ 0 ∨ pointPast p = true))
  ∧ (∃ (s : State) (v : View) (e : EngRef) (d r : Reg), Stands s e (opWord 11 d r 0) v ∧ ∃ p : W32, p = BitVec.ofNat
      32 (uns v r) ∧ pointRsvd p = 0 ∧ pointPast p = false ∧ pointMisaligned p = true)
  ∧ (∃ (s : State) (v : View) (e : EngRef) (d r : Reg), Stands s e (opWord 11 d r 0) v ∧ ∃ p : W32, p = BitVec.ofNat
      32 (uns v r) ∧ pointRsvd p = 0 ∧ pointPast p = false ∧ pointMisaligned p = false ∧ pointType p = 6 ∧ pairOk d =
      false)
  ∧ (∃ (s : State) (v : View) (e : EngRef) (d r : Reg), Stands s e (opWord 10 d r 0) v ∧ ∃ p : W32, p = BitVec.ofNat
      32 (uns v r) ∧ ∃ n : Nat, n = typeSize (pointType p) ∧ ∃ bs : List Byte, pointCheck p d false = none ∧
      v.readBytes (pointArea p) (pointOfs p) n = some bs)
  ∧ (∃ (s : State) (v : View) (e : EngRef) (d r : Reg), Stands s e (opWord 10 d r 0) v ∧ ∃ p : W32, p = BitVec.ofNat
      32 (uns v r) ∧ ∃ n : Nat, n = typeSize (pointType p) ∧ pointCheck p d false = none ∧ v.readBytes (pointArea p)
      (pointOfs p) n = none)
  ∧ (∃ (s : State) (v : View) (e : EngRef) (d r : Reg), Stands s e (opWord 11 d r 0) v ∧ ∃ p : W32, p = BitVec.ofNat
      32 (uns v r) ∧ ∃ n : Nat, n = typeSize (pointType p) ∧ pointCheck p d true = none ∧ v.writable (pointArea p)
      (pointOfs p) n = true)
  ∧ (∃ (s : State) (v : View) (e : EngRef) (d r : Reg), Stands s e (opWord 11 d r 0) v ∧ ∃ p : W32, p = BitVec.ofNat
      32 (uns v r) ∧ ∃ n : Nat, n = typeSize (pointType p) ∧ pointCheck p d true = none ∧ v.writable (pointArea p)
      (pointOfs p) n = false) :=
  ⟨⟨runs [opWord 0xa 3 13 0] (fun i =>
     {i with classes := [⟨true, false, 1, [⟨0, 0, 8⟩], [⟨.imgIn,0,64⟩,⟨.imgOut,0,8⟩,⟨.axIn,0,64⟩]⟩], writers := [⟨⟨.imgOut,8,24⟩,0,1⟩,⟨⟨.axOut,0,64⟩,0,1⟩]})
     (fun c => {c with rel := ⟨[(3,7),(9,255),(8,254)],[(1,1)],[(2,2)],[]⟩, obuf := ⟨[],[(8,128),(9,1)],[],[(0,5)]⟩})
     (fun e => {e with regs := memSet e.regs 13 411041760}) memory1, viewOf [opWord 0xa 3 13 0] (fun i =>
     {i with classes := [⟨true, false, 1, [⟨0, 0, 8⟩], [⟨.imgIn,0,64⟩,⟨.imgOut,0,8⟩,⟨.axIn,0,64⟩]⟩], writers := [⟨⟨.imgOut,8,24⟩,0,1⟩,⟨⟨.axOut,0,64⟩,0,1⟩]})
     (fun c => {c with rel := ⟨[(3,7),(9,255),(8,254)],[(1,1)],[(2,2)],[]⟩, obuf := ⟨[],[(8,128),(9,1)],[],[(0,5)]⟩})
     (fun e => {e with regs := memSet e.regs 13 411041760}) memory1, e1, 3, 13, by decide +kernel, _, rfl,
     by decide +kernel⟩,
   ⟨runs [opWord 0xa 3 13 0] (fun i =>
     {i with classes := [⟨true, false, 1, [⟨0, 0, 8⟩], [⟨.imgIn,0,64⟩,⟨.imgOut,0,8⟩,⟨.axIn,0,64⟩]⟩], writers := [⟨⟨.imgOut,8,24⟩,0,1⟩,⟨⟨.axOut,0,64⟩,0,1⟩]})
     (fun c => {c with rel := ⟨[(3,7),(9,255),(8,254)],[(1,1)],[(2,2)],[]⟩, obuf := ⟨[],[(8,128),(9,1)],[],[(0,5)]⟩})
     (fun e => {e with regs := memSet e.regs 13 268435491}) memory1, viewOf [opWord 0xa 3 13 0] (fun i =>
     {i with classes := [⟨true, false, 1, [⟨0, 0, 8⟩], [⟨.imgIn,0,64⟩,⟨.imgOut,0,8⟩,⟨.axIn,0,64⟩]⟩], writers := [⟨⟨.imgOut,8,24⟩,0,1⟩,⟨⟨.axOut,0,64⟩,0,1⟩]})
     (fun c => {c with rel := ⟨[(3,7),(9,255),(8,254)],[(1,1)],[(2,2)],[]⟩, obuf := ⟨[],[(8,128),(9,1)],[],[(0,5)]⟩})
     (fun e => {e with regs := memSet e.regs 13 268435491}) memory1, e1, 3, 13, by decide +kernel, _, rfl,
     by decide +kernel⟩,
   ⟨runs [opWord 0xa 31 13 0] (fun i =>
     {i with classes := [⟨true, false, 1, [⟨0, 0, 8⟩], [⟨.imgIn,0,64⟩,⟨.imgOut,0,8⟩,⟨.axIn,0,64⟩]⟩], writers := [⟨⟨.imgOut,8,24⟩,0,1⟩,⟨⟨.axOut,0,64⟩,0,1⟩]})
     (fun c => {c with rel := ⟨[(3,7),(9,255),(8,254)],[(1,1)],[(2,2)],[]⟩, obuf := ⟨[],[(8,128),(9,1)],[],[(0,5)]⟩})
     (fun e => {e with regs := memSet e.regs 13 805306432}) memory1, viewOf [opWord 0xa 31 13 0] (fun i =>
     {i with classes := [⟨true, false, 1, [⟨0, 0, 8⟩], [⟨.imgIn,0,64⟩,⟨.imgOut,0,8⟩,⟨.axIn,0,64⟩]⟩], writers := [⟨⟨.imgOut,8,24⟩,0,1⟩,⟨⟨.axOut,0,64⟩,0,1⟩]})
     (fun c => {c with rel := ⟨[(3,7),(9,255),(8,254)],[(1,1)],[(2,2)],[]⟩, obuf := ⟨[],[(8,128),(9,1)],[],[(0,5)]⟩})
     (fun e => {e with regs := memSet e.regs 13 805306432}) memory1, e1, 31, 13, by decide +kernel, _, rfl,
     by decide +kernel⟩,
   ⟨runs [opWord 0xb 3 13 0] (fun i =>
     {i with classes := [⟨true, false, 1, [⟨0, 0, 8⟩], [⟨.imgIn,0,64⟩,⟨.imgOut,0,8⟩,⟨.axIn,0,64⟩]⟩], writers := [⟨⟨.imgOut,8,24⟩,0,1⟩,⟨⟨.axOut,0,64⟩,0,1⟩]})
     (fun c => {c with rel := ⟨[(3,7),(9,255),(8,254)],[(1,1)],[(2,2)],[]⟩, obuf := ⟨[],[(8,128),(9,1)],[],[(0,5)]⟩})
     (fun e => {e with regs := memSet e.regs 13 411041760}) memory1, viewOf [opWord 0xb 3 13 0] (fun i =>
     {i with classes := [⟨true, false, 1, [⟨0, 0, 8⟩], [⟨.imgIn,0,64⟩,⟨.imgOut,0,8⟩,⟨.axIn,0,64⟩]⟩], writers := [⟨⟨.imgOut,8,24⟩,0,1⟩,⟨⟨.axOut,0,64⟩,0,1⟩]})
     (fun c => {c with rel := ⟨[(3,7),(9,255),(8,254)],[(1,1)],[(2,2)],[]⟩, obuf := ⟨[],[(8,128),(9,1)],[],[(0,5)]⟩})
     (fun e => {e with regs := memSet e.regs 13 411041760}) memory1, e1, 3, 13, by decide +kernel, _, rfl,
     by decide +kernel⟩,
   ⟨runs [opWord 0xb 3 13 0] (fun i =>
     {i with classes := [⟨true, false, 1, [⟨0, 0, 8⟩], [⟨.imgIn,0,64⟩,⟨.imgOut,0,8⟩,⟨.axIn,0,64⟩]⟩], writers := [⟨⟨.imgOut,8,24⟩,0,1⟩,⟨⟨.axOut,0,64⟩,0,1⟩]})
     (fun c => {c with rel := ⟨[(3,7),(9,255),(8,254)],[(1,1)],[(2,2)],[]⟩, obuf := ⟨[],[(8,128),(9,1)],[],[(0,5)]⟩})
     (fun e => {e with regs := memSet e.regs 13 268435491}) memory1, viewOf [opWord 0xb 3 13 0] (fun i =>
     {i with classes := [⟨true, false, 1, [⟨0, 0, 8⟩], [⟨.imgIn,0,64⟩,⟨.imgOut,0,8⟩,⟨.axIn,0,64⟩]⟩], writers := [⟨⟨.imgOut,8,24⟩,0,1⟩,⟨⟨.axOut,0,64⟩,0,1⟩]})
     (fun c => {c with rel := ⟨[(3,7),(9,255),(8,254)],[(1,1)],[(2,2)],[]⟩, obuf := ⟨[],[(8,128),(9,1)],[],[(0,5)]⟩})
     (fun e => {e with regs := memSet e.regs 13 268435491}) memory1, e1, 3, 13, by decide +kernel, _, rfl,
     by decide +kernel⟩,
   ⟨runs [opWord 0xb 31 13 0] (fun i =>
     {i with classes := [⟨true, false, 1, [⟨0, 0, 8⟩], [⟨.imgIn,0,64⟩,⟨.imgOut,0,8⟩,⟨.axIn,0,64⟩]⟩], writers := [⟨⟨.imgOut,8,24⟩,0,1⟩,⟨⟨.axOut,0,64⟩,0,1⟩]})
     (fun c => {c with rel := ⟨[(3,7),(9,255),(8,254)],[(1,1)],[(2,2)],[]⟩, obuf := ⟨[],[(8,128),(9,1)],[],[(0,5)]⟩})
     (fun e => {e with regs := memSet e.regs 13 805306432}) memory1, viewOf [opWord 0xb 31 13 0] (fun i =>
     {i with classes := [⟨true, false, 1, [⟨0, 0, 8⟩], [⟨.imgIn,0,64⟩,⟨.imgOut,0,8⟩,⟨.axIn,0,64⟩]⟩], writers := [⟨⟨.imgOut,8,24⟩,0,1⟩,⟨⟨.axOut,0,64⟩,0,1⟩]})
     (fun c => {c with rel := ⟨[(3,7),(9,255),(8,254)],[(1,1)],[(2,2)],[]⟩, obuf := ⟨[],[(8,128),(9,1)],[],[(0,5)]⟩})
     (fun e => {e with regs := memSet e.regs 13 805306432}) memory1, e1, 31, 13, by decide +kernel, _, rfl,
     by decide +kernel⟩,
   ⟨runs [opWord 0xa 3 13 0] (fun i =>
     {i with classes := [⟨true, false, 1, [⟨0, 0, 8⟩], [⟨.imgIn,0,64⟩,⟨.imgOut,0,8⟩,⟨.axIn,0,64⟩]⟩], writers := [⟨⟨.imgOut,8,24⟩,0,1⟩,⟨⟨.axOut,0,64⟩,0,1⟩]})
     (fun c => {c with rel := ⟨[(3,7),(9,255),(8,254)],[(1,1)],[(2,2)],[]⟩, obuf := ⟨[],[(8,128),(9,1)],[],[(0,5)]⟩})
     (fun e => {e with regs := memSet e.regs 13 2013265984}) memory1, viewOf [opWord 0xa 3 13 0] (fun i =>
     {i with classes := [⟨true, false, 1, [⟨0, 0, 8⟩], [⟨.imgIn,0,64⟩,⟨.imgOut,0,8⟩,⟨.axIn,0,64⟩]⟩], writers := [⟨⟨.imgOut,8,24⟩,0,1⟩,⟨⟨.axOut,0,64⟩,0,1⟩]})
     (fun c => {c with rel := ⟨[(3,7),(9,255),(8,254)],[(1,1)],[(2,2)],[]⟩, obuf := ⟨[],[(8,128),(9,1)],[],[(0,5)]⟩})
     (fun e => {e with regs := memSet e.regs 13 2013265984}) memory1, e1, 3, 13, by decide +kernel, _, rfl, _, rfl,
     [128,1,0,0,0,0,0,0], by decide +kernel⟩,
   ⟨runs [opWord 0xa 3 13 0] (fun i =>
     {i with classes := [⟨true, false, 1, [⟨0, 0, 8⟩], [⟨.imgIn,0,64⟩,⟨.imgOut,0,8⟩,⟨.axIn,0,64⟩]⟩], writers := [⟨⟨.imgOut,8,24⟩,0,1⟩,⟨⟨.axOut,0,64⟩,0,1⟩]})
     (fun c => {c with rel := ⟨[(3,7),(9,255),(8,254)],[(1,1)],[(2,2)],[]⟩, obuf := ⟨[],[(8,128),(9,1)],[],[(0,5)]⟩})
     (fun e => {e with regs := memSet e.regs 13 4160750080}) memory1, viewOf [opWord 0xa 3 13 0] (fun i =>
     {i with classes := [⟨true, false, 1, [⟨0, 0, 8⟩], [⟨.imgIn,0,64⟩,⟨.imgOut,0,8⟩,⟨.axIn,0,64⟩]⟩], writers := [⟨⟨.imgOut,8,24⟩,0,1⟩,⟨⟨.axOut,0,64⟩,0,1⟩]})
     (fun c => {c with rel := ⟨[(3,7),(9,255),(8,254)],[(1,1)],[(2,2)],[]⟩, obuf := ⟨[],[(8,128),(9,1)],[],[(0,5)]⟩})
     (fun e => {e with regs := memSet e.regs 13 4160750080}) memory1, e1, 3, 13, by decide +kernel, _, rfl, _, rfl,
     by decide +kernel⟩,
   ⟨runs [opWord 0xb 1 13 0] (fun i =>
     {i with classes := [⟨true, false, 1, [⟨0, 0, 8⟩], [⟨.imgIn,0,64⟩,⟨.imgOut,0,8⟩,⟨.axIn,0,64⟩]⟩], writers := [⟨⟨.imgOut,8,24⟩,0,1⟩,⟨⟨.axOut,0,64⟩,0,1⟩]})
     (fun c => {c with rel := ⟨[(3,7),(9,255),(8,254)],[(1,1)],[(2,2)],[]⟩, obuf := ⟨[],[(8,128),(9,1)],[],[(0,5)]⟩})
     (fun e => {e with regs := memSet e.regs 13 2013266048}) memory1, viewOf [opWord 0xb 1 13 0] (fun i =>
     {i with classes := [⟨true, false, 1, [⟨0, 0, 8⟩], [⟨.imgIn,0,64⟩,⟨.imgOut,0,8⟩,⟨.axIn,0,64⟩]⟩], writers := [⟨⟨.imgOut,8,24⟩,0,1⟩,⟨⟨.axOut,0,64⟩,0,1⟩]})
     (fun c => {c with rel := ⟨[(3,7),(9,255),(8,254)],[(1,1)],[(2,2)],[]⟩, obuf := ⟨[],[(8,128),(9,1)],[],[(0,5)]⟩})
     (fun e => {e with regs := memSet e.regs 13 2013266048}) memory1, e1, 1, 13, by decide +kernel, _, rfl, _, rfl,
     by decide +kernel⟩,
   ⟨runs [opWord 0xb 3 13 0] (fun i =>
     {i with classes := [⟨true, false, 1, [⟨0, 0, 8⟩], [⟨.imgIn,0,64⟩,⟨.imgOut,0,8⟩,⟨.axIn,0,64⟩]⟩], writers := [⟨⟨.imgOut,8,24⟩,0,1⟩,⟨⟨.axOut,0,64⟩,0,1⟩]})
     (fun c => {c with rel := ⟨[(3,7),(9,255),(8,254)],[(1,1)],[(2,2)],[]⟩, obuf := ⟨[],[(8,128),(9,1)],[],[(0,5)]⟩})
     (fun e => {e with regs := memSet e.regs 13 2013266176}) memory1, viewOf [opWord 0xb 3 13 0] (fun i =>
     {i with classes := [⟨true, false, 1, [⟨0, 0, 8⟩], [⟨.imgIn,0,64⟩,⟨.imgOut,0,8⟩,⟨.axIn,0,64⟩]⟩], writers := [⟨⟨.imgOut,8,24⟩,0,1⟩,⟨⟨.axOut,0,64⟩,0,1⟩]})
     (fun c => {c with rel := ⟨[(3,7),(9,255),(8,254)],[(1,1)],[(2,2)],[]⟩, obuf := ⟨[],[(8,128),(9,1)],[],[(0,5)]⟩})
     (fun e => {e with regs := memSet e.regs 13 2013266176}) memory1, e1, 3, 13, by decide +kernel, _, rfl, _, rfl,
     by decide +kernel⟩⟩

theorem witness_EdgeTimerAndCounterBlocks :
  (∃ (s : State) (v : View) (e : EngRef) (d r : Reg) (i : Imm), Stands s e (opWord 96 d r i) v ∧ InState v i 1)
  ∧ (∃ (s : State) (v : View) (e : EngRef) (d r : Reg) (i : Imm), Stands s e (opWord 97 d r i) v ∧ InState v i 1)
  ∧ (∃ (s : State) (v : View) (e : EngRef) (d r : Reg) (i : Imm), Stands s e (opWord 98 d r i) v ∧ InState v i 1)
  ∧ (∃ (s : State) (v : View) (e : EngRef) (d : Reg) (i : Imm), Stands s e (opWord 115 d 0 i) v ∧ InState v i 3)
  ∧ (∃ (s : State) (v : View) (e : EngRef) (i : Imm), Stands s e (opWord 116 0 0 i) v ∧ InState v i 3) :=
  ⟨⟨runs [opWord 0x60 3 0 2] id id id ([(2, header0 9 1), (3, header1 6 2 (ofClassM)), (4, 2^63)]), viewOf [opWord 0x60
     3 0 2] id id id ([(2, header0 9 1), (3, header1 6 2 (ofClassM)), (4, 2^63)]), e1, 3, 0, 2, by decide +kernel⟩,
   ⟨runs [opWord 0x61 3 0 2] id id id ([(2, header0 9 1), (3, header1 6 2 (ofClassM)), (4, 2^63)]), viewOf [opWord 0x61
     3 0 2] id id id ([(2, header0 9 1), (3, header1 6 2 (ofClassM)), (4, 2^63)]), e1, 3, 0, 2, by decide +kernel⟩,
   ⟨runs [opWord 0x62 3 0 2] id id id ([(2, header0 9 1), (3, header1 6 2 (ofClassM)), (4, 2^63)]), viewOf [opWord 0x62
     3 0 2] id id id ([(2, header0 9 1), (3, header1 6 2 (ofClassM)), (4, 2^63)]), e1, 3, 0, 2, by decide +kernel⟩,
   ⟨runs [opWord 0x73 3 0 2] id id id ([(2, header0 9 1), (3, header1 6 2 ofClassM), (4, 2^63),(5,0),(6,40)]), viewOf
     [opWord 0x73 3 0 2] id id id ([(2, header0 9 1), (3, header1 6 2 ofClassM), (4, 2^63),(5,0),(6,40)]), e1, 3, 2,
     by decide +kernel⟩,
   ⟨runs [opWord 0x74 0 0 2] id id id ([(2, header0 9 1), (3, header1 6 2 ofClassM), (4, 2^63),(5,0),(6,40)]), viewOf
     [opWord 0x74 0 0 2] id id id ([(2, header0 9 1), (3, header1 6 2 ofClassM), (4, 2^63),(5,0),(6,40)]), e1, 2,
     by decide +kernel⟩⟩

theorem witness_EdgeTimerAndCounterBlocks_more :
  (∃ (s : State) (v : View) (e : EngRef) (d r : Reg) (i : Imm), Stands s e (opWord 96 d r i) v ∧ InState v i 1)
  ∧ (∃ (s : State) (v : View) (e : EngRef) (d r : Reg) (i : Imm), Stands s e (opWord 97 d r i) v ∧ InState v i 1)
  ∧ (∃ (s : State) (v : View) (e : EngRef) (d r : Reg) (i : Imm), Stands s e (opWord 98 d r i) v ∧ InState v i 1)
  ∧ (∃ (s : State) (v : View) (e : EngRef) (d : Reg) (i : Imm), Stands s e (opWord 115 d 0 i) v ∧ InState v i 3)
  ∧ (∃ (s : State) (v : View) (e : EngRef) (i : Imm), Stands s e (opWord 116 0 0 i) v ∧ InState v i 3) :=
  ⟨⟨runs [opWord 0x60 3 2 2] id id id ([(2, header0 9 1), (3, header1 6 2 (ofClassM+2^14)), (4, 2^63+1)]), viewOf
     [opWord 0x60 3 2 2] id id id ([(2, header0 9 1), (3, header1 6 2 (ofClassM+2^14)), (4, 2^63+1)]), e1, 3, 2, 2,
     by decide +kernel⟩,
   ⟨runs [opWord 0x61 3 2 2] id id id ([(2, header0 9 1), (3, header1 6 2 (ofClassM+2^14)), (4, 2^63+1)]), viewOf
     [opWord 0x61 3 2 2] id id id ([(2, header0 9 1), (3, header1 6 2 (ofClassM+2^14)), (4, 2^63+1)]), e1, 3, 2, 2,
     by decide +kernel⟩,
   ⟨runs [opWord 0x62 3 2 2] id id id ([(2, header0 9 1), (3, header1 6 2 (ofClassM+2^14)), (4, 2^63+1)]), viewOf
     [opWord 0x62 3 2 2] id id id ([(2, header0 9 1), (3, header1 6 2 (ofClassM+2^14)), (4, 2^63+1)]), e1, 3, 2, 2,
     by decide +kernel⟩,
   ⟨runs [opWord 0x73 3 0 2] id id id ([(2, header0 9 1), (3, header1 6 2 ofClassM), (4, 2),(5,200),(6,40)]), viewOf
     [opWord 0x73 3 0 2] id id id ([(2, header0 9 1), (3, header1 6 2 ofClassM), (4, 2),(5,200),(6,40)]), e1, 3, 2,
     by decide +kernel⟩,
   ⟨runs [opWord 0x74 0 0 2] id id id ([(2, header0 9 1), (3, header1 6 2 ofClassM), (4, 2),(5,200),(6,40)]), viewOf
     [opWord 0x74 0 0 2] id id id ([(2, header0 9 1), (3, header1 6 2 ofClassM), (4, 2),(5,200),(6,40)]), e1, 2,
     by decide +kernel⟩⟩

theorem witness_CallsBranchesAndLoops :
  (∃ (s : State) (v : View) (e : EngRef) (r : Reg) (i : Imm) (t : Routine), Stands s e (opWord 144 0 r i) v ∧
      v.img.routines[BitVec.toNat i]? = some t ∧ HandleOk v (uns v r) ∧ instType v.inst (uns v r) = t.typeId ∧
      v.eng.calls.length < 16)
  ∧ (∃ (s : State) (v : View) (e : EngRef) (r : Reg) (i : Imm), Stands s e (opWord 144 0 r i) v ∧ (∀ (t : Routine),
      v.img.routines[BitVec.toNat i]? = some t → ¬(HandleOk v (uns v r) ∧ instType v.inst (uns v r) = t.typeId)))
  ∧ (∃ (s : State) (v : View) (e : EngRef) (r : Reg) (i : Imm) (t : Routine), Stands s e (opWord 144 0 r i) v ∧
      v.img.routines[BitVec.toNat i]? = some t ∧ HandleOk v (uns v r) ∧ instType v.inst (uns v r) = t.typeId ∧ 16 ≤
      v.eng.calls.length)
  ∧ (∃ (s : State) (v : View) (e : EngRef) (i : Imm) (t : Routine), Stands s e (opWord 146 0 0 i) v ∧
      v.img.routines[BitVec.toNat i]? = some t ∧ (t.typeId = 0 ∨ t.typeId = instType v.inst v.eng.ib) ∧
      v.eng.calls.length < 16)
  ∧ (∃ (s : State) (v : View) (e : EngRef) (i : Imm) (t : Routine), Stands s e (opWord 146 0 0 i) v ∧
      v.img.routines[BitVec.toNat i]? = some t ∧ t.typeId ≠ 0 ∧ t.typeId ≠ instType v.inst v.eng.ib)
  ∧ (∃ (s : State) (v : View) (e : EngRef) (pc ib : Nat) (rest : List (Nat × Nat)), Stands s e (opWord 145 0 0 0) v ∧
      v.eng.calls = (pc, ib) :: rest)
  ∧ (∃ (s : State) (v : View) (e : EngRef), Stands s e (opWord 145 0 0 0) v ∧ v.eng.calls = [])
  ∧ (∃ (s : State) (v : View) (e : EngRef), Stands s e (opWord 147 0 0 0) v)
  ∧ (∃ (s : State) (v : View) (e : EngRef) (i : Imm), Stands s e (opWord 160 0 0 i) v ∧ v.eng.pc + BitVec.toNat i < 2
      ^ 24)
  ∧ (∃ (s : State) (v : View) (e : EngRef) (r : Reg) (i : Imm), Stands s e (opWord 161 0 r i) v ∧ v.eng.pc +
      BitVec.toNat i < 2 ^ 24 ∧ v.r r = 0)
  ∧ (∃ (s : State) (v : View) (e : EngRef) (r : Reg) (i : Imm), Stands s e (opWord 161 0 r i) v ∧ v.r r ≠ 0)
  ∧ (∃ (s : State) (v : View) (e : EngRef) (r : Reg) (i : Imm), Stands s e (opWord 162 0 r i) v ∧ v.eng.pc +
      BitVec.toNat i < 2 ^ 24 ∧ v.r r ≠ 0)
  ∧ (∃ (s : State) (v : View) (e : EngRef) (r : Reg) (i : Imm), Stands s e (opWord 162 0 r i) v ∧ v.r r = 0)
  ∧ (∃ (s : State) (v : View) (e : EngRef) (d r : Reg) (i : Imm) (len : BitVec 16), Stands s e (opWord 163 d r i) v ∧
      v.img.code[v.eng.pc + 1]? = some (BitVec.ofNat 32 len.toNat) ∧ v.eng.pc + 2 < 2 ^ 24 ∧ v.eng.pc + len.toNat + 1
      < 2 ^ 24 ∧ BitVec.toNat i < uns v r)
  ∧ (∃ (s : State) (v : View) (e : EngRef) (d r : Reg) (i : Imm) (len : BitVec 16), Stands s e (opWord 163 d r i) v ∧
      v.img.code[v.eng.pc + 1]? = some (BitVec.ofNat 32 len.toNat) ∧ v.eng.pc + 2 < 2 ^ 24 ∧ v.eng.pc + len.toNat + 1
      < 2 ^ 24 ∧ uns v r = 0)
  ∧ (∃ (s : State) (v : View) (e : EngRef) (d r : Reg) (i : Imm) (len : BitVec 16), Stands s e (opWord 163 d r i) v ∧
      v.img.code[v.eng.pc + 1]? = some (BitVec.ofNat 32 len.toNat) ∧ v.eng.pc + 2 < 2 ^ 24 ∧ v.eng.pc + len.toNat + 1
      < 2 ^ 24 ∧ 0 < uns v r ∧ uns v r ≤ BitVec.toNat i ∧ 8 ≤ v.eng.loops.length)
  ∧ (∃ (s : State) (v : View) (e : EngRef) (d r : Reg) (i : Imm) (len : BitVec 16), Stands s e (opWord 163 d r i) v ∧
      v.img.code[v.eng.pc + 1]? = some (BitVec.ofNat 32 len.toNat) ∧ v.eng.pc + 2 < 2 ^ 24 ∧ v.eng.pc + len.toNat + 1
      < 2 ^ 24 ∧ 0 < uns v r ∧ uns v r ≤ BitVec.toNat i ∧ v.eng.loops.length < 8)
  ∧ (∃ (s : State) (v : View) (e : EngRef) (l : LoopEnt) (rest : List LoopEnt), Stands s e (opWord 164 0 0 0) v ∧
      v.eng.loops = l :: rest ∧ l.idx + 1 < l.count)
  ∧ (∃ (s : State) (v : View) (e : EngRef) (l : LoopEnt) (rest : List LoopEnt), Stands s e (opWord 164 0 0 0) v ∧
      v.eng.loops = l :: rest ∧ l.count ≤ l.idx + 1)
  ∧ (∃ (s : State) (v : View) (e : EngRef) (l : LoopEnt) (rest : List LoopEnt), Stands s e (opWord 165 0 0 0) v ∧
      v.eng.loops = l :: rest ∧ l.stop + 1 < 2 ^ 24) :=
  ⟨⟨at1 (opWord 0x90 0 8 0), view1 (opWord 0x90 0 8 0), e1, 8, 0, ⟨5,9⟩, by decide +kernel⟩,
   ⟨at1 (opWord 0x90 0 8 5), view1 (opWord 0x90 0 8 5), e1, 8, 5, by decide +kernel⟩,
   ⟨runs [opWord 0x90 0 8 0] id id (fun e =>
     {e with calls := List.replicate 16 (7,16), loops := List.replicate 8 ⟨3,4,9,3,2,0⟩}) memory1, viewOf [opWord
     0x90 0 8 0] id id (fun e => {e with calls := List.replicate 16 (7,16), loops := List.replicate 8 ⟨3,4,9,3,2,0⟩})
     memory1, e1, 8, 0, ⟨5,9⟩, by decide +kernel⟩,
   ⟨at1 (opWord 0x92 0 0 0), view1 (opWord 0x92 0 0 0), e1, 0, ⟨5,9⟩, by decide +kernel⟩,
   ⟨at1 (opWord 0x92 0 0 2), view1 (opWord 0x92 0 0 2), e1, 2, ⟨7,8⟩, by decide +kernel⟩,
   ⟨runs [opWord 0x91 0 0 0] id id (fun e => {e with calls := [(7,24),(8,16)]}) memory1, viewOf [opWord 0x91 0 0 0] id
     id (fun e => {e with calls := [(7,24),(8,16)]}) memory1, e1, 7, 24, [(8,16)], by decide +kernel⟩,
   ⟨at1 (opWord 0x91 0 0 0), view1 (opWord 0x91 0 0 0), e1, by decide +kernel⟩,
   ⟨at1 (opWord 0x93 0 0 0), view1 (opWord 0x93 0 0 0), e1, by decide +kernel⟩,
   ⟨at1 (opWord 0xa0 0 0 0), view1 (opWord 0xa0 0 0 0), e1, 0, by decide +kernel⟩,
   ⟨at1 (opWord 0xa1 0 0 0), view1 (opWord 0xa1 0 0 0), e1, 0, 0, by decide +kernel⟩,
   ⟨at1 (opWord 0xa1 0 2 0), view1 (opWord 0xa1 0 2 0), e1, 2, 0, by decide +kernel⟩,
   ⟨at1 (opWord 0xa2 0 2 0), view1 (opWord 0xa2 0 2 0), e1, 2, 0, by decide +kernel⟩,
   ⟨at1 (opWord 0xa2 0 0 0), view1 (opWord 0xa2 0 0 0), e1, 0, 0, by decide +kernel⟩,
   ⟨runs [(opWord 0xa3 3 2 2),5] id id id memory1, viewOf [(opWord 0xa3 3 2 2),5] id id id memory1, e1, 3, 2, 2, 5,
     by decide +kernel⟩,
   ⟨runs [(opWord 0xa3 3 0 2),5] id id id memory1, viewOf [(opWord 0xa3 3 0 2),5] id id id memory1, e1, 3, 0, 2, 5,
     by decide +kernel⟩,
   ⟨runs [(opWord 0xa3 3 2 3),5] id id (fun e =>
     {e with calls := List.replicate 16 (7,16), loops := List.replicate 8 ⟨3,4,9,3,2,0⟩}) memory1, viewOf [(opWord
     0xa3 3 2 3),5] id id (fun e =>
     {e with calls := List.replicate 16 (7,16), loops := List.replicate 8 ⟨3,4,9,3,2,0⟩}) memory1, e1, 3, 2, 3, 5,
     by decide +kernel⟩,
   ⟨runs [(opWord 0xa3 3 2 3),5] id id id memory1, viewOf [(opWord 0xa3 3 2 3),5] id id id memory1, e1, 3, 2, 3, 5,
     by decide +kernel⟩,
   ⟨runs [opWord 0xa4 0 0 0] id id (fun e => {e with loops := [⟨1,2,9,3,3,0⟩,⟨0,2,9,3,2,0⟩]}) memory1, viewOf [opWord
     0xa4 0 0 0] id id (fun e => {e with loops := [⟨1,2,9,3,3,0⟩,⟨0,2,9,3,2,0⟩]}) memory1, e1, ⟨1,2,9,3,3,0⟩,
     [⟨0,2,9,3,2,0⟩], by decide +kernel⟩,
   ⟨runs [opWord 0xa4 0 0 0] id id (fun e => {e with loops := [⟨1,2,9,3,3,2⟩,⟨0,2,9,3,2,0⟩]}) memory1, viewOf [opWord
     0xa4 0 0 0] id id (fun e => {e with loops := [⟨1,2,9,3,3,2⟩,⟨0,2,9,3,2,0⟩]}) memory1, e1, ⟨1,2,9,3,3,2⟩,
     [⟨0,2,9,3,2,0⟩], by decide +kernel⟩,
   ⟨runs [opWord 0xa5 0 0 0] id id (fun e => {e with loops := [⟨1,2,9,3,3,1⟩,⟨0,2,9,3,2,0⟩]}) memory1, viewOf [opWord
     0xa5 0 0 0] id id (fun e => {e with loops := [⟨1,2,9,3,3,1⟩,⟨0,2,9,3,2,0⟩]}) memory1, e1, ⟨1,2,9,3,3,1⟩,
     [⟨0,2,9,3,2,0⟩], by decide +kernel⟩⟩

theorem witness_CallsBranchesAndLoops_more :
  (∃ (s : State) (v : View) (e : EngRef) (r : Reg) (i : Imm) (t : Routine), Stands s e (opWord 144 0 r i) v ∧
      v.img.routines[BitVec.toNat i]? = some t ∧ HandleOk v (uns v r) ∧ instType v.inst (uns v r) = t.typeId ∧
      v.eng.calls.length < 16)
  ∧ (∃ (s : State) (v : View) (e : EngRef) (r : Reg) (i : Imm), Stands s e (opWord 144 0 r i) v ∧ (∀ (t : Routine),
      v.img.routines[BitVec.toNat i]? = some t → ¬(HandleOk v (uns v r) ∧ instType v.inst (uns v r) = t.typeId)))
  ∧ (∃ (s : State) (v : View) (e : EngRef) (i : Imm) (t : Routine), Stands s e (opWord 146 0 0 i) v ∧
      v.img.routines[BitVec.toNat i]? = some t ∧ (t.typeId = 0 ∨ t.typeId = instType v.inst v.eng.ib) ∧
      v.eng.calls.length < 16)
  ∧ (∃ (s : State) (v : View) (e : EngRef) (i : Imm), Stands s e (opWord 160 0 0 i) v ∧ v.eng.pc + BitVec.toNat i < 2
      ^ 24)
  ∧ (∃ (s : State) (v : View) (e : EngRef) (r : Reg) (i : Imm), Stands s e (opWord 161 0 r i) v ∧ v.eng.pc +
      BitVec.toNat i < 2 ^ 24 ∧ v.r r = 0)
  ∧ (∃ (s : State) (v : View) (e : EngRef) (r : Reg) (i : Imm), Stands s e (opWord 161 0 r i) v ∧ v.r r ≠ 0)
  ∧ (∃ (s : State) (v : View) (e : EngRef) (r : Reg) (i : Imm), Stands s e (opWord 162 0 r i) v ∧ v.eng.pc +
      BitVec.toNat i < 2 ^ 24 ∧ v.r r ≠ 0)
  ∧ (∃ (s : State) (v : View) (e : EngRef) (r : Reg) (i : Imm), Stands s e (opWord 162 0 r i) v ∧ v.r r = 0)
  ∧ (∃ (s : State) (v : View) (e : EngRef) (d r : Reg) (i : Imm) (len : BitVec 16), Stands s e (opWord 163 d r i) v ∧
      v.img.code[v.eng.pc + 1]? = some (BitVec.ofNat 32 len.toNat) ∧ v.eng.pc + 2 < 2 ^ 24 ∧ v.eng.pc + len.toNat + 1
      < 2 ^ 24 ∧ uns v r = 0)
  ∧ (∃ (s : State) (v : View) (e : EngRef) (d r : Reg) (i : Imm) (len : BitVec 16), Stands s e (opWord 163 d r i) v ∧
      v.img.code[v.eng.pc + 1]? = some (BitVec.ofNat 32 len.toNat) ∧ v.eng.pc + 2 < 2 ^ 24 ∧ v.eng.pc + len.toNat + 1
      < 2 ^ 24 ∧ 0 < uns v r ∧ uns v r ≤ BitVec.toNat i ∧ v.eng.loops.length < 8)
  ∧ (∃ (s : State) (v : View) (e : EngRef) (l : LoopEnt) (rest : List LoopEnt), Stands s e (opWord 164 0 0 0) v ∧
      v.eng.loops = l :: rest ∧ l.idx + 1 < l.count)
  ∧ (∃ (s : State) (v : View) (e : EngRef) (l : LoopEnt) (rest : List LoopEnt), Stands s e (opWord 164 0 0 0) v ∧
      v.eng.loops = l :: rest ∧ l.count ≤ l.idx + 1) :=
  ⟨⟨runs [opWord 0x90 0 8 0] id (fun c => {c with called := [16]}) id memory1, viewOf [opWord 0x90 0 8 0] id (fun c =>
     {c with called := [16]}) id memory1, e1, 8, 0, ⟨5,9⟩, by decide +kernel⟩,
   ⟨at1 (opWord 0x90 0 8 1), view1 (opWord 0x90 0 8 1), e1, 8, 1, by decide +kernel⟩,
   ⟨at1 (opWord 0x92 0 0 1), view1 (opWord 0x92 0 0 1), e1, 1, ⟨6,0⟩, by decide +kernel⟩,
   ⟨at1 (opWord 0xa0 0 0 16383), view1 (opWord 0xa0 0 0 16383), e1, 16383, by decide +kernel⟩,
   ⟨at1 (opWord 0xa1 0 0 16383), view1 (opWord 0xa1 0 0 16383), e1, 0, 16383, by decide +kernel⟩,
   ⟨at1 (opWord 0xa1 0 2 16383), view1 (opWord 0xa1 0 2 16383), e1, 2, 16383, by decide +kernel⟩,
   ⟨at1 (opWord 0xa2 0 2 16383), view1 (opWord 0xa2 0 2 16383), e1, 2, 16383, by decide +kernel⟩,
   ⟨at1 (opWord 0xa2 0 0 16383), view1 (opWord 0xa2 0 0 16383), e1, 0, 16383, by decide +kernel⟩,
   ⟨runs [(opWord 0xa3 3 0 0),0] id id id memory1, viewOf [(opWord 0xa3 3 0 0),0] id id id memory1, e1, 3, 0, 0, 0,
     by decide +kernel⟩,
   ⟨runs [(opWord 0xa3 0 2 3),0xFFFF] id id id memory1, viewOf [(opWord 0xa3 0 2 3),0xFFFF] id id id memory1, e1, 0, 2,
     3, 0xFFFF, by decide +kernel⟩,
   ⟨runs [opWord 0xa4 0 0 0] id id (fun e => {e with loops := [⟨1,2,9,3,3,1⟩,⟨0,2,9,3,2,0⟩]}) memory1, viewOf [opWord
     0xa4 0 0 0] id id (fun e => {e with loops := [⟨1,2,9,3,3,1⟩,⟨0,2,9,3,2,0⟩]}) memory1, e1, ⟨1,2,9,3,3,1⟩,
     [⟨0,2,9,3,2,0⟩], by decide +kernel⟩,
   ⟨runs [opWord 0xa4 0 0 0] id id (fun e => {e with loops := [⟨1,2,9,1,3,0⟩,⟨0,2,9,3,2,0⟩]}) memory1, viewOf [opWord
     0xa4 0 0 0] id id (fun e => {e with loops := [⟨1,2,9,1,3,0⟩,⟨0,2,9,3,2,0⟩]}) memory1, e1, ⟨1,2,9,1,3,0⟩,
     [⟨0,2,9,3,2,0⟩], by decide +kernel⟩⟩

theorem witness_AxisOperations :
  (∃ (s : State) (v : View) (e : EngRef) (d r : Reg) (i : Imm) (c : AxisCfg) (bs : List Byte), Stands s e (opWord 192
      d r i) v ∧ v.img.axis = some c ∧ uns v r < 1024 ∧ (c.axes.any fun (a : AxisRec) => decide (a.axis = uns v r)) =
      true ∧ v.readBytes Area.axIn (64 * uns v r + 8 * BitVec.toNat i) 8 = some bs)
  ∧ (∃ (s : State) (v : View) (e : EngRef) (d r : Reg) (i : Imm) (c : AxisCfg), Stands s e (opWord 193 d r i) v ∧
      v.img.axis = some c ∧ uns v r < 1024 ∧ (c.axes.any fun (a : AxisRec) => decide (a.axis = uns v r)) = true ∧
      v.writable Area.axOut (64 * uns v r + 8 * BitVec.toNat i) 8 = true)
  ∧ (∃ (s : State) (v : View) (e : EngRef) (d r : Reg) (i : Imm), Stands s e (opWord 192 d r i) v ∧ 1024 ≤ uns v r)
  ∧ (∃ (s : State) (v : View) (e : EngRef) (d r : Reg) (i : Imm), Stands s e (opWord 193 d r i) v ∧ 1024 ≤ uns v r)
  ∧ (∃ (s : State) (v : View) (e : EngRef) (d : Reg) (i : Imm), Stands s e (opWord 194 d 0 i) v ∧ pairOk d = true ∧
      (v.img.cls v.cls).mtable = true)
  ∧ (∃ (s : State) (v : View) (e : EngRef) (d : Reg) (i : Imm), Stands s e (opWord 195 d 0 i) v ∧ (v.img.cls
      v.cls).mtable = true)
  ∧ (∃ (s : State) (v : View) (e : EngRef) (d : Reg) (i : Imm), Stands s e (opWord 194 d 0 i) v ∧ pairOk d = false)
  ∧ (∃ (s : State) (v : View) (e : EngRef) (d : Reg) (i : Imm), Stands s e (opWord 195 d 0 i) v ∧ (v.img.cls
      v.cls).mtable = false)
  ∧ (∃ (s : State) (v : View) (e : EngRef) (d r : Reg), Stands s e (opWord 196 d r 0) v ∧ pairOk d = true ∧ pairOk r
      = true)
  ∧ (∃ (s : State) (v : View) (e : EngRef) (d r : Reg), Stands s e (opWord 197 d r 0) v ∧ pairOk d = true ∧ pairOk r
      = true)
  ∧ (∃ (s : State) (v : View) (e : EngRef) (d r : Reg), Stands s e (opWord 198 d r 0) v ∧ pairOk r = true)
  ∧ (∃ (s : State) (v : View) (e : EngRef) (d r : Reg), Stands s e (opWord 200 d r 0) v ∧ pairOk d = true ∧ pairOk r
      = true)
  ∧ (∃ (s : State) (v : View) (e : EngRef) (d r : Reg) (n : Bool) (m : Nat) (x : Int), Stands s e (opWord 199 d r 0)
      v ∧ pairOk d = true ∧ fpOf FWidth.b64 (v.r r) = Fp.fin n m x ∧ fpNearest false m (x + 32) < 2 ^ 95)
  ∧ (∃ (s : State) (v : View) (e : EngRef) (d r : Reg), Stands s e (opWord 199 d r 0) v ∧ pairOk d = true ∧ (∀ (n :
      Bool) (m : Nat) (x : Int), fpOf FWidth.b64 (v.r r) = Fp.fin n m x → 2 ^ 95 ≤ fpNearest false m (x + 32))) :=
  ⟨⟨runs [opWord 0xc0 3 13 0] (fun i =>
     {i with axis := some ⟨0,[],[{(default : AxisRec) with axis := 0},{(default : AxisRec) with axis := 3}],[],[],[]⟩, classes := [⟨true, true, 1, [⟨0, 0, 8⟩], [⟨.axIn,0,512⟩]⟩], writers := [⟨⟨.axOut,0,512⟩,0,1⟩]})
     (fun c => {c with rel := ⟨[],[],[(192,5),(199,200),(511,9)],[]⟩, mtab := [(0,7),(31,3),(33,9),(47,5)]}) (fun e
     => {e with regs := memSet (memSet e.regs 13 3) 14 0x8000000000000003}) memory1, viewOf [opWord 0xc0 3 13 0] (fun
     i => {i with axis := some ⟨0,[],[{(default : AxisRec) with axis := 0},{(default : AxisRec) with axis := 3}],[],[],[]⟩, classes := [⟨true, true, 1, [⟨0, 0, 8⟩], [⟨.axIn,0,512⟩]⟩], writers := [⟨⟨.axOut,0,512⟩,0,1⟩]})
     (fun c => {c with rel := ⟨[],[],[(192,5),(199,200),(511,9)],[]⟩, mtab := [(0,7),(31,3),(33,9),(47,5)]}) (fun e
     => {e with regs := memSet (memSet e.regs 13 3) 14 0x8000000000000003}) memory1, e1, 3, 13, 0,
     ⟨0,[],[{(default : AxisRec) with axis := 0},{(default : AxisRec) with axis := 3}],[],[],[]⟩,
     [5,0,0,0,0,0,0,200], by decide +kernel⟩,
   ⟨runs [opWord 0xc1 3 13 0] (fun i =>
     {i with axis := some ⟨0,[],[{(default : AxisRec) with axis := 0},{(default : AxisRec) with axis := 3}],[],[],[]⟩, classes := [⟨true, true, 1, [⟨0, 0, 8⟩], [⟨.axIn,0,512⟩]⟩], writers := [⟨⟨.axOut,0,512⟩,0,1⟩]})
     (fun c => {c with rel := ⟨[],[],[(192,5),(199,200),(511,9)],[]⟩, mtab := [(0,7),(31,3),(33,9),(47,5)]}) (fun e
     => {e with regs := memSet (memSet e.regs 13 3) 14 0x8000000000000003}) memory1, viewOf [opWord 0xc1 3 13 0] (fun
     i => {i with axis := some ⟨0,[],[{(default : AxisRec) with axis := 0},{(default : AxisRec) with axis := 3}],[],[],[]⟩, classes := [⟨true, true, 1, [⟨0, 0, 8⟩], [⟨.axIn,0,512⟩]⟩], writers := [⟨⟨.axOut,0,512⟩,0,1⟩]})
     (fun c => {c with rel := ⟨[],[],[(192,5),(199,200),(511,9)],[]⟩, mtab := [(0,7),(31,3),(33,9),(47,5)]}) (fun e
     => {e with regs := memSet (memSet e.regs 13 3) 14 0x8000000000000003}) memory1, e1, 3, 13, 0,
     ⟨0,[],[{(default : AxisRec) with axis := 0},{(default : AxisRec) with axis := 3}],[],[],[]⟩, by decide +kernel⟩,
   ⟨runs [opWord 0xc0 3 1 0] (fun i =>
     {i with axis := some ⟨0,[],[{(default : AxisRec) with axis := 0},{(default : AxisRec) with axis := 3}],[],[],[]⟩, classes := [⟨true, true, 1, [⟨0, 0, 8⟩], [⟨.axIn,0,512⟩]⟩], writers := [⟨⟨.axOut,0,512⟩,0,1⟩]})
     (fun c => {c with rel := ⟨[],[],[(192,5),(199,200),(511,9)],[]⟩, mtab := [(0,7),(31,3),(33,9),(47,5)]}) (fun e
     => {e with regs := memSet (memSet e.regs 13 3) 14 0x8000000000000003}) memory1, viewOf [opWord 0xc0 3 1 0] (fun
     i => {i with axis := some ⟨0,[],[{(default : AxisRec) with axis := 0},{(default : AxisRec) with axis := 3}],[],[],[]⟩, classes := [⟨true, true, 1, [⟨0, 0, 8⟩], [⟨.axIn,0,512⟩]⟩], writers := [⟨⟨.axOut,0,512⟩,0,1⟩]})
     (fun c => {c with rel := ⟨[],[],[(192,5),(199,200),(511,9)],[]⟩, mtab := [(0,7),(31,3),(33,9),(47,5)]}) (fun e
     => {e with regs := memSet (memSet e.regs 13 3) 14 0x8000000000000003}) memory1, e1, 3, 1, 0, by decide +kernel⟩,
   ⟨runs [opWord 0xc1 3 1 0] (fun i =>
     {i with axis := some ⟨0,[],[{(default : AxisRec) with axis := 0},{(default : AxisRec) with axis := 3}],[],[],[]⟩, classes := [⟨true, true, 1, [⟨0, 0, 8⟩], [⟨.axIn,0,512⟩]⟩], writers := [⟨⟨.axOut,0,512⟩,0,1⟩]})
     (fun c => {c with rel := ⟨[],[],[(192,5),(199,200),(511,9)],[]⟩, mtab := [(0,7),(31,3),(33,9),(47,5)]}) (fun e
     => {e with regs := memSet (memSet e.regs 13 3) 14 0x8000000000000003}) memory1, viewOf [opWord 0xc1 3 1 0] (fun
     i => {i with axis := some ⟨0,[],[{(default : AxisRec) with axis := 0},{(default : AxisRec) with axis := 3}],[],[],[]⟩, classes := [⟨true, true, 1, [⟨0, 0, 8⟩], [⟨.axIn,0,512⟩]⟩], writers := [⟨⟨.axOut,0,512⟩,0,1⟩]})
     (fun c => {c with rel := ⟨[],[],[(192,5),(199,200),(511,9)],[]⟩, mtab := [(0,7),(31,3),(33,9),(47,5)]}) (fun e
     => {e with regs := memSet (memSet e.regs 13 3) 14 0x8000000000000003}) memory1, e1, 3, 1, 0, by decide +kernel⟩,
   ⟨runs [opWord 0xc2 4 0 0] (fun i =>
     {i with axis := some ⟨0,[],[{(default : AxisRec) with axis := 0},{(default : AxisRec) with axis := 3}],[],[],[]⟩, classes := [⟨true, true, 1, [⟨0, 0, 8⟩], [⟨.axIn,0,512⟩]⟩], writers := [⟨⟨.axOut,0,512⟩,0,1⟩]})
     (fun c => {c with rel := ⟨[],[],[(192,5),(199,200),(511,9)],[]⟩, mtab := [(0,7),(31,3),(33,9),(47,5)]}) (fun e
     => {e with regs := memSet (memSet e.regs 13 3) 14 0x8000000000000003}) memory1, viewOf [opWord 0xc2 4 0 0] (fun
     i => {i with axis := some ⟨0,[],[{(default : AxisRec) with axis := 0},{(default : AxisRec) with axis := 3}],[],[],[]⟩, classes := [⟨true, true, 1, [⟨0, 0, 8⟩], [⟨.axIn,0,512⟩]⟩], writers := [⟨⟨.axOut,0,512⟩,0,1⟩]})
     (fun c => {c with rel := ⟨[],[],[(192,5),(199,200),(511,9)],[]⟩, mtab := [(0,7),(31,3),(33,9),(47,5)]}) (fun e
     => {e with regs := memSet (memSet e.regs 13 3) 14 0x8000000000000003}) memory1, e1, 4, 0, by decide +kernel⟩,
   ⟨runs [opWord 0xc3 4 0 0] (fun i =>
     {i with axis := some ⟨0,[],[{(default : AxisRec) with axis := 0},{(default : AxisRec) with axis := 3}],[],[],[]⟩, classes := [⟨true, true, 1, [⟨0, 0, 8⟩], [⟨.axIn,0,512⟩]⟩], writers := [⟨⟨.axOut,0,512⟩,0,1⟩]})
     (fun c => {c with rel := ⟨[],[],[(192,5),(199,200),(511,9)],[]⟩, mtab := [(0,7),(31,3),(33,9),(47,5)]}) (fun e
     => {e with regs := memSet (memSet e.regs 13 3) 14 0x8000000000000003}) memory1, viewOf [opWord 0xc3 4 0 0] (fun
     i => {i with axis := some ⟨0,[],[{(default : AxisRec) with axis := 0},{(default : AxisRec) with axis := 3}],[],[],[]⟩, classes := [⟨true, true, 1, [⟨0, 0, 8⟩], [⟨.axIn,0,512⟩]⟩], writers := [⟨⟨.axOut,0,512⟩,0,1⟩]})
     (fun c => {c with rel := ⟨[],[],[(192,5),(199,200),(511,9)],[]⟩, mtab := [(0,7),(31,3),(33,9),(47,5)]}) (fun e
     => {e with regs := memSet (memSet e.regs 13 3) 14 0x8000000000000003}) memory1, e1, 4, 0, by decide +kernel⟩,
   ⟨runs [opWord 0xc2 0 0 0] (fun i =>
     {i with axis := some ⟨0,[],[{(default : AxisRec) with axis := 0},{(default : AxisRec) with axis := 3}],[],[],[]⟩, classes := [⟨true, true, 1, [⟨0, 0, 8⟩], [⟨.axIn,0,512⟩]⟩], writers := [⟨⟨.axOut,0,512⟩,0,1⟩]})
     (fun c => {c with rel := ⟨[],[],[(192,5),(199,200),(511,9)],[]⟩, mtab := [(0,7),(31,3),(33,9),(47,5)]}) (fun e
     => {e with regs := memSet (memSet e.regs 13 3) 14 0x8000000000000003}) memory1, viewOf [opWord 0xc2 0 0 0] (fun
     i => {i with axis := some ⟨0,[],[{(default : AxisRec) with axis := 0},{(default : AxisRec) with axis := 3}],[],[],[]⟩, classes := [⟨true, true, 1, [⟨0, 0, 8⟩], [⟨.axIn,0,512⟩]⟩], writers := [⟨⟨.axOut,0,512⟩,0,1⟩]})
     (fun c => {c with rel := ⟨[],[],[(192,5),(199,200),(511,9)],[]⟩, mtab := [(0,7),(31,3),(33,9),(47,5)]}) (fun e
     => {e with regs := memSet (memSet e.regs 13 3) 14 0x8000000000000003}) memory1, e1, 0, 0, by decide +kernel⟩,
   ⟨at1 (opWord 0xc3 3 0 0), view1 (opWord 0xc3 3 0 0), e1, 3, 0, by decide +kernel⟩,
   ⟨at1 (opWord 0xc4 2 4 0), view1 (opWord 0xc4 2 4 0), e1, 2, 4, by decide +kernel⟩,
   ⟨at1 (opWord 0xc5 2 4 0), view1 (opWord 0xc5 2 4 0), e1, 2, 4, by decide +kernel⟩,
   ⟨at1 (opWord 0xc6 2 4 0), view1 (opWord 0xc6 2 4 0), e1, 2, 4, by decide +kernel⟩,
   ⟨at1 (opWord 0xc8 2 4 0), view1 (opWord 0xc8 2 4 0), e1, 2, 4, by decide +kernel⟩,
   ⟨runs [opWord 0xc7 4 13 0] id id (fun e => {e with regs := memSet e.regs 13 0x3FF8000000000000}) memory1, viewOf
     [opWord 0xc7 4 13 0] id id (fun e => {e with regs := memSet e.regs 13 0x3FF8000000000000}) memory1, e1, 4, 13,
     false, 0x18000000000000, (-52), by decide +kernel⟩,
   ⟨runs [opWord 0xc7 4 13 0] id id (fun e => {e with regs := memSet e.regs 13 0x43E0000000000000}) memory1, viewOf
     [opWord 0xc7 4 13 0] id id (fun e => {e with regs := memSet e.regs 13 0x43E0000000000000}) memory1, e1, 4, 13,
     by decide +kernel, by decide +kernel, fun n m x h => by
    have h2 : fpOf .b64 (BitVec.ofNat 64 0x43E0000000000000) = .fin false 4503599627370496 11 := by decide +kernel
    cases h.symm.trans h2; decide +kernel⟩⟩

theorem witness_AxisOperations_more :
  (∃ (s : State) (v : View) (e : EngRef) (d r : Reg) (i : Imm) (c : AxisCfg) (bs : List Byte), Stands s e (opWord 192
      d r i) v ∧ v.img.axis = some c ∧ uns v r < 1024 ∧ (c.axes.any fun (a : AxisRec) => decide (a.axis = uns v r)) =
      true ∧ v.readBytes Area.axIn (64 * uns v r + 8 * BitVec.toNat i) 8 = some bs)
  ∧ (∃ (s : State) (v : View) (e : EngRef) (d r : Reg) (i : Imm) (c : AxisCfg), Stands s e (opWord 193 d r i) v ∧
      v.img.axis = some c ∧ uns v r < 1024 ∧ (c.axes.any fun (a : AxisRec) => decide (a.axis = uns v r)) = true ∧
      v.writable Area.axOut (64 * uns v r + 8 * BitVec.toNat i) 8 = true)
  ∧ (∃ (s : State) (v : View) (e : EngRef) (d r : Reg) (i : Imm), Stands s e (opWord 192 d r i) v ∧ 1024 ≤ uns v r)
  ∧ (∃ (s : State) (v : View) (e : EngRef) (d r : Reg) (i : Imm), Stands s e (opWord 193 d r i) v ∧ 1024 ≤ uns v r)
  ∧ (∃ (s : State) (v : View) (e : EngRef) (d : Reg) (i : Imm), Stands s e (opWord 194 d 0 i) v ∧ pairOk d = true ∧
      (v.img.cls v.cls).mtable = true)
  ∧ (∃ (s : State) (v : View) (e : EngRef) (d : Reg) (i : Imm), Stands s e (opWord 195 d 0 i) v ∧ (v.img.cls
      v.cls).mtable = true)
  ∧ (∃ (s : State) (v : View) (e : EngRef) (d : Reg) (i : Imm), Stands s e (opWord 194 d 0 i) v ∧ pairOk d = false)
  ∧ (∃ (s : State) (v : View) (e : EngRef) (d r : Reg), Stands s e (opWord 196 d r 0) v ∧ pairOk d = true ∧ pairOk r
      = true)
  ∧ (∃ (s : State) (v : View) (e : EngRef) (d r : Reg), Stands s e (opWord 197 d r 0) v ∧ pairOk d = true ∧ pairOk r
      = true)
  ∧ (∃ (s : State) (v : View) (e : EngRef) (d r : Reg), Stands s e (opWord 198 d r 0) v ∧ pairOk r = true)
  ∧ (∃ (s : State) (v : View) (e : EngRef) (d r : Reg), Stands s e (opWord 200 d r 0) v ∧ pairOk d = true ∧ pairOk r
      = true)
  ∧ (∃ (s : State) (v : View) (e : EngRef) (d r : Reg) (n : Bool) (m : Nat) (x : Int), Stands s e (opWord 199 d r 0)
      v ∧ pairOk d = true ∧ fpOf FWidth.b64 (v.r r) = Fp.fin n m x ∧ fpNearest false m (x + 32) < 2 ^ 95)
  ∧ (∃ (s : State) (v : View) (e : EngRef) (d r : Reg), Stands s e (opWord 199 d r 0) v ∧ pairOk d = true ∧ (∀ (n :
      Bool) (m : Nat) (x : Int), fpOf FWidth.b64 (v.r r) = Fp.fin n m x → 2 ^ 95 ≤ fpNearest false m (x + 32))) :=
  ⟨⟨runs [opWord 0xc0 3 13 39] (fun i =>
     {i with axis := some ⟨0,[],[{(default : AxisRec) with axis := 0},{(default : AxisRec) with axis := 3}],[],[],[]⟩, classes := [⟨true, true, 1, [⟨0, 0, 8⟩], [⟨.axIn,0,512⟩]⟩], writers := [⟨⟨.axOut,0,512⟩,0,1⟩]})
     (fun c => {c with rel := ⟨[],[],[(192,5),(199,200),(511,9)],[]⟩, mtab := [(0,7),(31,3),(33,9),(47,5)]}) (fun e
     => {e with regs := memSet (memSet e.regs 13 3) 14 0x8000000000000003}) memory1, viewOf [opWord 0xc0 3 13 39]
     (fun i =>
     {i with axis := some ⟨0,[],[{(default : AxisRec) with axis := 0},{(default : AxisRec) with axis := 3}],[],[],[]⟩, classes := [⟨true, true, 1, [⟨0, 0, 8⟩], [⟨.axIn,0,512⟩]⟩], writers := [⟨⟨.axOut,0,512⟩,0,1⟩]})
     (fun c => {c with rel := ⟨[],[],[(192,5),(199,200),(511,9)],[]⟩, mtab := [(0,7),(31,3),(33,9),(47,5)]}) (fun e
     => {e with regs := memSet (memSet e.regs 13 3) 14 0x8000000000000003}) memory1, e1, 3, 13, 39,
     ⟨0,[],[{(default : AxisRec) with axis := 0},{(default : AxisRec) with axis := 3}],[],[],[]⟩, [0,0,0,0,0,0,0,9],
     by decide +kernel⟩,
   ⟨runs [opWord 0xc1 3 13 39] (fun i =>
     {i with axis := some ⟨0,[],[{(default : AxisRec) with axis := 0},{(default : AxisRec) with axis := 3}],[],[],[]⟩, classes := [⟨true, true, 1, [⟨0, 0, 8⟩], [⟨.axIn,0,512⟩]⟩], writers := [⟨⟨.axOut,0,512⟩,0,1⟩]})
     (fun c => {c with rel := ⟨[],[],[(192,5),(199,200),(511,9)],[]⟩, mtab := [(0,7),(31,3),(33,9),(47,5)]}) (fun e
     => {e with regs := memSet (memSet e.regs 13 3) 14 0x8000000000000003}) memory1, viewOf [opWord 0xc1 3 13 39]
     (fun i =>
     {i with axis := some ⟨0,[],[{(default : AxisRec) with axis := 0},{(default : AxisRec) with axis := 3}],[],[],[]⟩, classes := [⟨true, true, 1, [⟨0, 0, 8⟩], [⟨.axIn,0,512⟩]⟩], writers := [⟨⟨.axOut,0,512⟩,0,1⟩]})
     (fun c => {c with rel := ⟨[],[],[(192,5),(199,200),(511,9)],[]⟩, mtab := [(0,7),(31,3),(33,9),(47,5)]}) (fun e
     => {e with regs := memSet (memSet e.regs 13 3) 14 0x8000000000000003}) memory1, e1, 3, 13, 39,
     ⟨0,[],[{(default : AxisRec) with axis := 0},{(default : AxisRec) with axis := 3}],[],[],[]⟩, by decide +kernel⟩,
   ⟨runs [opWord 0xc0 3 14 0] (fun i =>
     {i with axis := some ⟨0,[],[{(default : AxisRec) with axis := 0},{(default : AxisRec) with axis := 3}],[],[],[]⟩, classes := [⟨true, true, 1, [⟨0, 0, 8⟩], [⟨.axIn,0,512⟩]⟩], writers := [⟨⟨.axOut,0,512⟩,0,1⟩]})
     (fun c => {c with rel := ⟨[],[],[(192,5),(199,200),(511,9)],[]⟩, mtab := [(0,7),(31,3),(33,9),(47,5)]}) (fun e
     => {e with regs := memSet (memSet e.regs 13 3) 14 0x8000000000000003}) memory1, viewOf [opWord 0xc0 3 14 0] (fun
     i => {i with axis := some ⟨0,[],[{(default : AxisRec) with axis := 0},{(default : AxisRec) with axis := 3}],[],[],[]⟩, classes := [⟨true, true, 1, [⟨0, 0, 8⟩], [⟨.axIn,0,512⟩]⟩], writers := [⟨⟨.axOut,0,512⟩,0,1⟩]})
     (fun c => {c with rel := ⟨[],[],[(192,5),(199,200),(511,9)],[]⟩, mtab := [(0,7),(31,3),(33,9),(47,5)]}) (fun e
     => {e with regs := memSet (memSet e.regs 13 3) 14 0x8000000000000003}) memory1, e1, 3, 14, 0, by decide +kernel⟩,
   ⟨runs [opWord 0xc1 3 14 0] (fun i =>
     {i with axis := some ⟨0,[],[{(default : AxisRec) with axis := 0},{(default : AxisRec) with axis := 3}],[],[],[]⟩, classes := [⟨true, true, 1, [⟨0, 0, 8⟩], [⟨.axIn,0,512⟩]⟩], writers := [⟨⟨.axOut,0,512⟩,0,1⟩]})
     (fun c => {c with rel := ⟨[],[],[(192,5),(199,200),(511,9)],[]⟩, mtab := [(0,7),(31,3),(33,9),(47,5)]}) (fun e
     => {e with regs := memSet (memSet e.regs 13 3) 14 0x8000000000000003}) memory1, viewOf [opWord 0xc1 3 14 0] (fun
     i => {i with axis := some ⟨0,[],[{(default : AxisRec) with axis := 0},{(default : AxisRec) with axis := 3}],[],[],[]⟩, classes := [⟨true, true, 1, [⟨0, 0, 8⟩], [⟨.axIn,0,512⟩]⟩], writers := [⟨⟨.axOut,0,512⟩,0,1⟩]})
     (fun c => {c with rel := ⟨[],[],[(192,5),(199,200),(511,9)],[]⟩, mtab := [(0,7),(31,3),(33,9),(47,5)]}) (fun e
     => {e with regs := memSet (memSet e.regs 13 3) 14 0x8000000000000003}) memory1, e1, 3, 14, 0, by decide +kernel⟩,
   ⟨runs [opWord 0xc2 4 0 63] (fun i =>
     {i with axis := some ⟨0,[],[{(default : AxisRec) with axis := 0},{(default : AxisRec) with axis := 3}],[],[],[]⟩, classes := [⟨true, true, 1, [⟨0, 0, 8⟩], [⟨.axIn,0,512⟩]⟩], writers := [⟨⟨.axOut,0,512⟩,0,1⟩]})
     (fun c => {c with rel := ⟨[],[],[(192,5),(199,200),(511,9)],[]⟩, mtab := [(0,7),(31,3),(33,9),(47,5)]}) (fun e
     => {e with regs := memSet (memSet e.regs 13 3) 14 0x8000000000000003}) memory1, viewOf [opWord 0xc2 4 0 63] (fun
     i => {i with axis := some ⟨0,[],[{(default : AxisRec) with axis := 0},{(default : AxisRec) with axis := 3}],[],[],[]⟩, classes := [⟨true, true, 1, [⟨0, 0, 8⟩], [⟨.axIn,0,512⟩]⟩], writers := [⟨⟨.axOut,0,512⟩,0,1⟩]})
     (fun c => {c with rel := ⟨[],[],[(192,5),(199,200),(511,9)],[]⟩, mtab := [(0,7),(31,3),(33,9),(47,5)]}) (fun e
     => {e with regs := memSet (memSet e.regs 13 3) 14 0x8000000000000003}) memory1, e1, 4, 63, by decide +kernel⟩,
   ⟨runs [opWord 0xc3 4 0 63] (fun i =>
     {i with axis := some ⟨0,[],[{(default : AxisRec) with axis := 0},{(default : AxisRec) with axis := 3}],[],[],[]⟩, classes := [⟨true, true, 1, [⟨0, 0, 8⟩], [⟨.axIn,0,512⟩]⟩], writers := [⟨⟨.axOut,0,512⟩,0,1⟩]})
     (fun c => {c with rel := ⟨[],[],[(192,5),(199,200),(511,9)],[]⟩, mtab := [(0,7),(31,3),(33,9),(47,5)]}) (fun e
     => {e with regs := memSet (memSet e.regs 13 3) 14 0x8000000000000003}) memory1, viewOf [opWord 0xc3 4 0 63] (fun
     i => {i with axis := some ⟨0,[],[{(default : AxisRec) with axis := 0},{(default : AxisRec) with axis := 3}],[],[],[]⟩, classes := [⟨true, true, 1, [⟨0, 0, 8⟩], [⟨.axIn,0,512⟩]⟩], writers := [⟨⟨.axOut,0,512⟩,0,1⟩]})
     (fun c => {c with rel := ⟨[],[],[(192,5),(199,200),(511,9)],[]⟩, mtab := [(0,7),(31,3),(33,9),(47,5)]}) (fun e
     => {e with regs := memSet (memSet e.regs 13 3) 14 0x8000000000000003}) memory1, e1, 4, 63, by decide +kernel⟩,
   ⟨runs [opWord 0xc2 31 0 0] (fun i =>
     {i with axis := some ⟨0,[],[{(default : AxisRec) with axis := 0},{(default : AxisRec) with axis := 3}],[],[],[]⟩, classes := [⟨true, true, 1, [⟨0, 0, 8⟩], [⟨.axIn,0,512⟩]⟩], writers := [⟨⟨.axOut,0,512⟩,0,1⟩]})
     (fun c => {c with rel := ⟨[],[],[(192,5),(199,200),(511,9)],[]⟩, mtab := [(0,7),(31,3),(33,9),(47,5)]}) (fun e
     => {e with regs := memSet (memSet e.regs 13 3) 14 0x8000000000000003}) memory1, viewOf [opWord 0xc2 31 0 0] (fun
     i => {i with axis := some ⟨0,[],[{(default : AxisRec) with axis := 0},{(default : AxisRec) with axis := 3}],[],[],[]⟩, classes := [⟨true, true, 1, [⟨0, 0, 8⟩], [⟨.axIn,0,512⟩]⟩], writers := [⟨⟨.axOut,0,512⟩,0,1⟩]})
     (fun c => {c with rel := ⟨[],[],[(192,5),(199,200),(511,9)],[]⟩, mtab := [(0,7),(31,3),(33,9),(47,5)]}) (fun e
     => {e with regs := memSet (memSet e.regs 13 3) 14 0x8000000000000003}) memory1, e1, 31, 0, by decide +kernel⟩,
   ⟨runs [opWord 0xc4 12 10 0] id id (fun e =>
     {e with regs := memSet (memSet e.regs 5 0x7FFFFFFF00000000) 3 0xFFFFFFFE00000000}) memory1, viewOf [opWord 0xc4
     12 10 0] id id (fun e => {e with regs := memSet (memSet e.regs 5 0x7FFFFFFF00000000) 3 0xFFFFFFFE00000000})
     memory1, e1, 12, 10, by decide +kernel⟩,
   ⟨runs [opWord 0xc5 12 10 0] id id (fun e =>
     {e with regs := memSet (memSet e.regs 5 0x7FFFFFFF00000000) 3 0xFFFFFFFE00000000}) memory1, viewOf [opWord 0xc5
     12 10 0] id id (fun e => {e with regs := memSet (memSet e.regs 5 0x7FFFFFFF00000000) 3 0xFFFFFFFE00000000})
     memory1, e1, 12, 10, by decide +kernel⟩,
   ⟨runs [opWord 0xc6 12 10 0] id id (fun e =>
     {e with regs := memSet (memSet e.regs 5 0x7FFFFFFF00000000) 3 0xFFFFFFFE00000000}) memory1, viewOf [opWord 0xc6
     12 10 0] id id (fun e => {e with regs := memSet (memSet e.regs 5 0x7FFFFFFF00000000) 3 0xFFFFFFFE00000000})
     memory1, e1, 12, 10, by decide +kernel⟩,
   ⟨runs [opWord 0xc8 12 10 0] id id (fun e =>
     {e with regs := memSet (memSet e.regs 5 0x7FFFFFFF00000000) 3 0xFFFFFFFE00000000}) memory1, viewOf [opWord 0xc8
     12 10 0] id id (fun e => {e with regs := memSet (memSet e.regs 5 0x7FFFFFFF00000000) 3 0xFFFFFFFE00000000})
     memory1, e1, 12, 10, by decide +kernel⟩,
   ⟨runs [opWord 0xc7 4 13 0] id id (fun e => {e with regs := memSet e.regs 13 0}) memory1, viewOf [opWord 0xc7 4 13 0]
     id id (fun e => {e with regs := memSet e.regs 13 0}) memory1, e1, 4, 13, false, 0, (-1074), by decide +kernel⟩,
   ⟨runs [opWord 0xc7 4 13 0] id id (fun e => {e with regs := memSet e.regs 13 0xC3E0000000000000}) memory1, viewOf
     [opWord 0xc7 4 13 0] id id (fun e => {e with regs := memSet e.regs 13 0xC3E0000000000000}) memory1, e1, 4, 13,
     by decide +kernel, by decide +kernel, fun n m x h => by
    have h2 : fpOf .b64 (BitVec.ofNat 64 0xC3E0000000000000) = .fin true 4503599627370496 11 := by decide +kernel
    cases h.symm.trans h2; decide +kernel⟩⟩

theorem witness_SystemOperationsAndRequests :
  (∃ (s : State) (v : View) (e : EngRef) (d : Reg), Stands s e (opWord 212 d 0 0) v ∧ pairOk d = true)
  ∧ (∃ (s : State) (v : View) (e : EngRef) (d : Reg), Stands s e (opWord 212 d 0 0) v ∧ pairOk d = false)
  ∧ (∃ (s : State) (v : View) (e : EngRef) (d : Reg) (i : Imm), Stands s e (opWord 213 d 0 i) v ∧ 1 < BitVec.toNat i)
  ∧ (∃ (s : State) (v : View) (e : EngRef) (r : Reg), Stands s e (opWord 214 0 r 0) v)
  ∧ (∃ (s : State) (v : View) (e : EngRef) (d : Reg), Stands s e (opWord 217 d 0 0) v)
  ∧ (∃ (s : State) (v : View) (e : EngRef) (d : Reg) (i : Imm) (ev : Event), Stands s e (opWord 218 d 0 i) v ∧
      v.ctx.snap.event = some ev ∧ BitVec.toNat i < 8)
  ∧ (∃ (s : State) (v : View) (e : EngRef) (d : Reg) (i : Imm), Stands s e (opWord 218 d 0 i) v ∧ (v.ctx.snap.event =
      none ∨ 8 ≤ BitVec.toNat i))
  ∧ (∃ (s : State) (v : View) (e : EngRef) (word : W32), Stands s e word v ∧ isOpcode (BitVec.toNat word / 2 ^ 24) =
      false)
  ∧ (∃ (s : State) (v : View) (e : EngRef) (d : Reg) (i : Imm), Stands s e (opWord 215 d 0 i) v ∧ 2 ≤ BitVec.toNat i
      ∧ ∃ w : Mem 64, w = v.inst ∧ ∃ h : Nat, h = v.eng.ib ∧ ∃ head : BitVec 64, head = memGet w (h / 8 +
      BitVec.toNat i) ∧ ∃ kind : Nat, kind = head.toNat % 2 ^ 16 ∧ ∃ n : Nat, n = head.toNat / 2 ^ 16 % 2 ^ 16 ∧
      BitVec.toNat i + n ≤ 2 + instState w h ∧ 0 < n ∧ n ≤ 32 ∧ (kind = 2 ∨ kind = 3)) :=
  ⟨⟨runs [opWord 0xd4 1 0 0] id (fun c =>
     {c with snap := {snap1 with event := some (default : Event), key := .service, first := true, pinsIn := 5, pinsOut := 9, cells := 77, lt := 1234567890123456789, reqBase := 5}})
     id memory1, viewOf [opWord 0xd4 1 0 0] id (fun c =>
     {c with snap := {snap1 with event := some (default : Event), key := .service, first := true, pinsIn := 5, pinsOut := 9, cells := 77, lt := 1234567890123456789, reqBase := 5}})
     id memory1, e1, 1, by decide +kernel⟩,
   ⟨runs [opWord 0xd4 0 0 0] id (fun c =>
     {c with snap := {snap1 with event := some (default : Event), key := .service, first := true, pinsIn := 5, pinsOut := 9, cells := 77, lt := 1234567890123456789, reqBase := 5}})
     id memory1, viewOf [opWord 0xd4 0 0 0] id (fun c =>
     {c with snap := {snap1 with event := some (default : Event), key := .service, first := true, pinsIn := 5, pinsOut := 9, cells := 77, lt := 1234567890123456789, reqBase := 5}})
     id memory1, e1, 0, by decide +kernel⟩,
   ⟨runs [opWord 0xd5 3 0 2] id (fun c =>
     {c with snap := {snap1 with event := some (default : Event), key := .service, first := true, pinsIn := 5, pinsOut := 9, cells := 77, lt := 1234567890123456789, reqBase := 5}})
     id memory1, viewOf [opWord 0xd5 3 0 2] id (fun c =>
     {c with snap := {snap1 with event := some (default : Event), key := .service, first := true, pinsIn := 5, pinsOut := 9, cells := 77, lt := 1234567890123456789, reqBase := 5}})
     id memory1, e1, 3, 2, by decide +kernel⟩,
   ⟨runs [opWord 0xd6 0 2 0] id (fun c =>
     {c with snap := {snap1 with event := some (default : Event), key := .service, first := true, pinsIn := 5, pinsOut := 9, cells := 77, lt := 1234567890123456789, reqBase := 5}})
     id memory1, viewOf [opWord 0xd6 0 2 0] id (fun c =>
     {c with snap := {snap1 with event := some (default : Event), key := .service, first := true, pinsIn := 5, pinsOut := 9, cells := 77, lt := 1234567890123456789, reqBase := 5}})
     id memory1, e1, 2, by decide +kernel⟩,
   ⟨runs [opWord 0xd9 3 0 0] id id (fun e => {e with fsr := 5}) memory1, viewOf [opWord 0xd9 3 0 0] id id (fun e =>
     {e with fsr := 5}) memory1, e1, 3, by decide +kernel⟩,
   ⟨runs [opWord 0xda 3 0 0] id (fun c =>
     {c with snap := {snap1 with event := some (default : Event), key := .service, first := true, pinsIn := 5, pinsOut := 9, cells := 77, lt := 1234567890123456789, reqBase := 5}})
     id memory1, viewOf [opWord 0xda 3 0 0] id (fun c =>
     {c with snap := {snap1 with event := some (default : Event), key := .service, first := true, pinsIn := 5, pinsOut := 9, cells := 77, lt := 1234567890123456789, reqBase := 5}})
     id memory1, e1, 3, 0, (default : Event), by decide +kernel⟩,
   ⟨runs [opWord 0xda 3 0 8] id (fun c =>
     {c with snap := {snap1 with event := some (default : Event), key := .service, first := true, pinsIn := 5, pinsOut := 9, cells := 77, lt := 1234567890123456789, reqBase := 5}})
     id memory1, viewOf [opWord 0xda 3 0 8] id (fun c =>
     {c with snap := {snap1 with event := some (default : Event), key := .service, first := true, pinsIn := 5, pinsOut := 9, cells := 77, lt := 1234567890123456789, reqBase := 5}})
     id memory1, e1, 3, 8, by decide +kernel⟩,
   ⟨at1 (opWord 0xFF 1 2 3), view1 (opWord 0xFF 1 2 3), e1, (opWord 0xFF 1 2 3), by decide +kernel⟩,
   ⟨runs [opWord 0xd7 3 0 4] id (fun c => {c with snap := {snap1 with reqOut := 0, reqBase := 5}}) id ([(2, header0 9
     1), (3, header1 40 2 ofClassM), (6, 65538),(7,3),(9,5)]), viewOf [opWord 0xd7 3 0 4] id (fun c =>
     {c with snap := {snap1 with reqOut := 0, reqBase := 5}}) id ([(2, header0 9 1), (3, header1 40 2 ofClassM), (6,
     65538),(7,3),(9,5)]), e1, 3, 4, by decide +kernel, by decide +kernel, _, rfl, _, rfl, _, rfl, _, rfl, _, rfl,
     by decide +kernel⟩⟩

theorem witness_SystemOperationsAndRequests_more :
  (∃ (s : State) (v : View) (e : EngRef) (d : Reg), Stands s e (opWord 212 d 0 0) v ∧ pairOk d = true)
  ∧ (∃ (s : State) (v : View) (e : EngRef) (d : Reg), Stands s e (opWord 212 d 0 0) v ∧ pairOk d = false)
  ∧ (∃ (s : State) (v : View) (e : EngRef) (d : Reg) (i : Imm), Stands s e (opWord 213 d 0 i) v ∧ 1 < BitVec.toNat i)
  ∧ (∃ (s : State) (v : View) (e : EngRef) (d : Reg) (i : Imm) (ev : Event), Stands s e (opWord 218 d 0 i) v ∧
      v.ctx.snap.event = some ev ∧ BitVec.toNat i < 8)
  ∧ (∃ (s : State) (v : View) (e : EngRef) (d : Reg) (i : Imm), Stands s e (opWord 218 d 0 i) v ∧ (v.ctx.snap.event =
      none ∨ 8 ≤ BitVec.toNat i))
  ∧ (∃ (s : State) (v : View) (e : EngRef) (d : Reg) (i : Imm), Stands s e (opWord 215 d 0 i) v ∧ 2 ≤ BitVec.toNat i
      ∧ ∃ w : Mem 64, w = v.inst ∧ ∃ h : Nat, h = v.eng.ib ∧ ∃ head : BitVec 64, head = memGet w (h / 8 +
      BitVec.toNat i) ∧ ∃ kind : Nat, kind = head.toNat % 2 ^ 16 ∧ ∃ n : Nat, n = head.toNat / 2 ^ 16 % 2 ^ 16 ∧
      BitVec.toNat i + n ≤ 2 + instState w h ∧ 0 < n ∧ n ≤ 32 ∧ (kind = 2 ∨ kind = 3)) :=
  ⟨⟨runs [opWord 0xd4 30 0 0] id (fun c =>
     {c with snap := {snap1 with event := some (default : Event), key := .service, first := true, pinsIn := 5, pinsOut := 9, cells := 77, lt := 1234567890123456789, reqBase := 5}})
     id memory1, viewOf [opWord 0xd4 30 0 0] id (fun c =>
     {c with snap := {snap1 with event := some (default : Event), key := .service, first := true, pinsIn := 5, pinsOut := 9, cells := 77, lt := 1234567890123456789, reqBase := 5}})
     id memory1, e1, 30, by decide +kernel⟩,
   ⟨runs [opWord 0xd4 31 0 0] id (fun c =>
     {c with snap := {snap1 with event := some (default : Event), key := .service, first := true, pinsIn := 5, pinsOut := 9, cells := 77, lt := 1234567890123456789, reqBase := 5}})
     id memory1, viewOf [opWord 0xd4 31 0 0] id (fun c =>
     {c with snap := {snap1 with event := some (default : Event), key := .service, first := true, pinsIn := 5, pinsOut := 9, cells := 77, lt := 1234567890123456789, reqBase := 5}})
     id memory1, e1, 31, by decide +kernel⟩,
   ⟨runs [opWord 0xd5 3 0 16383] id (fun c =>
     {c with snap := {snap1 with event := some (default : Event), key := .service, first := true, pinsIn := 5, pinsOut := 9, cells := 77, lt := 1234567890123456789, reqBase := 5}})
     id memory1, viewOf [opWord 0xd5 3 0 16383] id (fun c =>
     {c with snap := {snap1 with event := some (default : Event), key := .service, first := true, pinsIn := 5, pinsOut := 9, cells := 77, lt := 1234567890123456789, reqBase := 5}})
     id memory1, e1, 3, 16383, by decide +kernel⟩,
   ⟨runs [opWord 0xda 3 0 7] id (fun c =>
     {c with snap := {snap1 with event := some (default : Event), key := .service, first := true, pinsIn := 5, pinsOut := 9, cells := 77, lt := 1234567890123456789, reqBase := 5}})
     id memory1, viewOf [opWord 0xda 3 0 7] id (fun c =>
     {c with snap := {snap1 with event := some (default : Event), key := .service, first := true, pinsIn := 5, pinsOut := 9, cells := 77, lt := 1234567890123456789, reqBase := 5}})
     id memory1, e1, 3, 7, (default : Event), by decide +kernel⟩,
   ⟨at1 (opWord 0xda 3 0 0), view1 (opWord 0xda 3 0 0), e1, 3, 0, by decide +kernel⟩,
   ⟨runs [opWord 0xd7 3 0 4] id (fun c => {c with snap := {snap1 with reqOut := 64, reqBase := 5}}) id ([(2, header0 9
     1), (3, header1 40 2 ofClassM), (6, 2097155),(7,3),(9,5)]), viewOf [opWord 0xd7 3 0 4] id (fun c =>
     {c with snap := {snap1 with reqOut := 64, reqBase := 5}}) id ([(2, header0 9 1), (3, header1 40 2 ofClassM), (6,
     2097155),(7,3),(9,5)]), e1, 3, 4, by decide +kernel, by decide +kernel, _, rfl, _, rfl, _, rfl, _, rfl, _, rfl,
     by decide +kernel⟩⟩

theorem witness_SampleOperationsReadLiveSources :
  (∃ (s : State) (v : View) (t : Nat) (e : EngRef) (d : Reg), Samples s t e (opWord 176 d 0 0) v ∧ pairOk d = true)
  ∧ (∃ (s : State) (v : View) (t : Nat) (e : EngRef) (d : Reg), Samples s t e (opWord 177 d 0 0) v)
  ∧ (∃ (s : State) (v : View) (t : Nat) (e : EngRef) (d : Reg), Samples s t e (opWord 177 d 0 1) v)
  ∧ (∃ (s : State) (v : View) (t : Nat) (e : EngRef) (d : Reg) (i : Imm) (p : Stamp), Samples s t e (opWord 178 d 0
      i) v ∧ BitVec.toNat i < 16 ∧ pairOk d = true ∧ tabFind s.m.reflex.capLast (BitVec.toNat i) = some p)
  ∧ (∃ (s : State) (v : View) (t : Nat) (e : EngRef) (d : Reg) (i : Imm) (a : AnaCfg), Samples s t e (opWord 179 d 0
      i) v ∧ v.img.analogue = some a ∧ BitVec.toNat i < a.entries.length ∧ ¬BitVec.toNat i ∈ s.m.conv.urgPend)
  ∧ (∃ (s : State) (v : View) (t : Nat) (e : EngRef) (d : Reg) (i : Imm) (a : AnaCfg), Samples s t e (opWord 179 d 0
      i) v ∧ v.img.analogue = some a ∧ BitVec.toNat i < a.entries.length ∧ BitVec.toNat i ∈ s.m.conv.urgPend)
  ∧ (∃ (s : State) (v : View) (t : Nat) (e : EngRef) (d : Reg) (i : Imm) (a : AnaCfg), Samples s t e (opWord 180 d 0
      i) v ∧ v.img.analogue = some a ∧ BitVec.toNat i < a.entries.length) :=
  ⟨⟨(samplesOn .A (opWord 0xb0 4 0 0) id id), (view1 (opWord 0xb0 4 0 0)), 2000, ⟨.A,1⟩, 4, by decide +kernel⟩,
   ⟨(samplesOn .A (opWord 0xb1 3 0 0) id id), (view1 (opWord 0xb1 3 0 0)), 2000, ⟨.A,1⟩, 3, by decide +kernel⟩,
   ⟨(samplesOn .A (opWord 0xb1 3 0 1) id id), (view1 (opWord 0xb1 3 0 1)), 2000, ⟨.A,1⟩, 3, by decide +kernel⟩,
   ⟨(samplesOn .A (opWord 0xb2 4 0 15) id (fun m =>
     {m with reflex := {m.reflex with capLast := [(15,⟨123456789012,5⟩)]}})), (view1 (opWord 0xb2 4 0 15)), 2000,
     ⟨.A,1⟩, 4, 15, ⟨123456789012,5⟩, by decide +kernel⟩,
   ⟨(samplesOn .A (opWord 0xb3 3 0 1) (fun i => {i with analogue := some ⟨4,0,0,[(0,0),(1,0)],[],[]⟩}) id), (viewOf
     [opWord 0xb3 3 0 1] (fun i => {i with analogue := some ⟨4,0,0,[(0,0),(1,0)],[],[]⟩}) id id memory1), 2000,
     ⟨.A,1⟩, 3, 1, ⟨4,0,0,[(0,0),(1,0)],[],[]⟩, by decide +kernel⟩,
   ⟨(samplesOn .A (opWord 0xb3 3 0 1) (fun i => {i with analogue := some ⟨4,0,0,[(0,0),(1,0)],[],[]⟩}) (fun m =>
     {m with conv := {m.conv with urgPend := [1]}})), (viewOf [opWord 0xb3 3 0 1] (fun i =>
     {i with analogue := some ⟨4,0,0,[(0,0),(1,0)],[],[]⟩}) id id memory1), 2000, ⟨.A,1⟩, 3, 1,
     ⟨4,0,0,[(0,0),(1,0)],[],[]⟩, by decide +kernel⟩,
   ⟨(samplesOn .A (opWord 0xb4 3 0 1) (fun i => {i with analogue := some ⟨4,0,0,[(0,0),(1,0)],[],[]⟩}) (fun m =>
     {m with conv := {m.conv with urg := [(1,⟨99,true,3⟩)]}})), (viewOf [opWord 0xb4 3 0 1] (fun i =>
     {i with analogue := some ⟨4,0,0,[(0,0),(1,0)],[],[]⟩}) id id memory1), 2000, ⟨.A,1⟩, 3, 1,
     ⟨4,0,0,[(0,0),(1,0)],[],[]⟩, by decide +kernel⟩⟩

theorem witness_SampleOperationsReadLiveSources_more :
  (∃ (s : State) (v : View) (t : Nat) (e : EngRef) (d : Reg), Samples s t e (opWord 176 d 0 0) v ∧ pairOk d = true)
  ∧ (∃ (s : State) (v : View) (t : Nat) (e : EngRef) (d : Reg) (i : Imm) (a : AnaCfg), Samples s t e (opWord 180 d 0
      i) v ∧ v.img.analogue = some a ∧ BitVec.toNat i < a.entries.length) :=
  ⟨⟨(samplesOn .A (opWord 0xb0 30 0 0) id id), (view1 (opWord 0xb0 30 0 0)), 2000, ⟨.A,1⟩, 30, by decide +kernel⟩,
   ⟨(samplesOn .A (opWord 0xb4 3 0 1) (fun i => {i with analogue := some ⟨4,0,0,[(0,0),(1,0)],[],[]⟩}) (fun m =>
     {m with conv := {m.conv with urg := [(1,⟨99,false,3⟩)]}})), (viewOf [opWord 0xb4 3 0 1] (fun i =>
     {i with analogue := some ⟨4,0,0,[(0,0),(1,0)],[],[]⟩}) id id memory1), 2000, ⟨.A,1⟩, 3, 1,
     ⟨4,0,0,[(0,0),(1,0)],[],[]⟩, by decide +kernel⟩⟩

end Ops

/-! ## Loops, converter, Attic, card -/

namespace Loops

/-- The image with two analogue channels. -/
def withChannels (c : ChanCfg) (i : Image) : Image :=
  { i with analogue := some ⟨4, 0, 0, [(0, 0), (1, 1)], [], [c, c]⟩ }

/-- A started module with the two channels of a configuration. -/
def analogue (c : ChanCfg) (f : Mod → Mod) : Machine.State := started .alone fun m => f
  { m with bolt.ownSelf := true, prog.image := some (withChannels c image0), prog.pairKey := .service }

/-- An output channel. -/
def outputCfg : ChanCfg := ⟨.output, 3, 100, 10⟩

/-- An input channel. -/
def inputCfg : ChanCfg := ⟨.input, 3, 100, 10⟩

/-- Channel 1 changed from its state after reset. -/
def loop1 (f : Loop → Loop) (m : Mod) : Mod := { m with loops := [(1, f Loop.zero)] }

/-- A commit record. -/
def commit0 : Commit := ⟨1, 2, 3, 4, 5, 6, 7, []⟩

/-- A module alone whose Attic is as `f` says. -/
def atticOf (f : Attic → Attic) : Machine.State := started .alone fun m =>
  {m with attic := f {m.attic with hdrA := ⟨true, .valid, 4, 0, 0, none⟩}}

/-- An entry that was sent. -/
def sentEntry : TxEntry := { (default : TxEntry) with state := 1, launch := 5, station := 1, stations := [1] }

/-- A module alone whose card controller writes a trim record. -/
def writesTrim (f : CardCtl → CardCtl) : Machine.State := started .alone fun m =>
  {m with card := f {m.card with card := some card0, locked := true, writable := true, nextSeq := 10, queue := [⟨.trim ⟨false,0,1,2,3⟩, none, none, false⟩]}}

/-- The boot step that reads the card. -/
def readsCard (c : Option Card) : Machine.State := coldly fun m =>
  {m with power := {m.power with boot := .cardRead, on := 0x3FFF}, card.card := c, card.locked := true}

/-- A trim record that waits. -/
def trimAppend : Append := ⟨.trim ⟨false,0,1,2,3⟩, none, none, false⟩

/-- A compaction or an image rewrite at step `s`. -/
def rewriting (k : CompKind) (s : Nat) : Comp := ⟨k, s, goodImage, [], 10, 1, none⟩

theorem witness_LoopChannelsAndButtons :
  (∃ (s : State) (ch : Nat), (s.m.chan ch).mode = LoopMode.output ∧ s.m.afeOn = true)
  ∧ (∃ (s : State) (ch seq minNa : Nat), s.m.afeOn = true ∧ (s.m.chan ch).mode = LoopMode.input ∧ ((s.m.loop
      ch).rbSeq = none ∨ ∃ (p : Nat), p ∈ (s.m.loop ch).rbSeq ∧ seq = (p + 1) % 65536) ∧ 3000000 ≤ minNa)
  ∧ (∃ (s : State) (ch : Nat), s.m.afeOn = true ∧ (s.m.chan ch).mode = LoopMode.input)
  ∧ (∃ (s : State) (ch mv : Nat), s.m.driving ch = true ∧ mv < 1500)
  ∧ (∃ (s : State) (ch mv : Nat), s.m.driving ch = true ∧ 1500 ≤ mv ∧ mv < 1700)
  ∧ (∃ (s : State) (t ch mv : Nat), s.m.driving ch = true ∧ 1700 ≤ mv ∧ Since (s.m.loop ch).okSince 10000000 (max
      s.m.now t))
  ∧ (∃ (s : State) (t ch : Nat), (s.m.chan ch).mode = LoopMode.input ∧ Since (s.m.loop ch).neSince ((s.m.chan
      ch).neFilt * 1000000) (max s.m.now t) ∧ (s.m.loop ch).neSide = 1 ∧ (s.m.loop ch).neLow = false)
  ∧ (∃ (s : State) (t ch : Nat), (s.m.chan ch).mode = LoopMode.input ∧ Since (s.m.loop ch).neSince ((s.m.chan
      ch).neFilt * 1000000) (max s.m.now t) ∧ (s.m.loop ch).neSide = 2 ∧ (s.m.loop ch).neHigh = false)
  ∧ (∃ (s : State) (t ch : Nat), (s.m.chan ch).mode = LoopMode.input ∧ (s.m.loop ch).neSince = none ∧ Since (s.m.loop
      ch).okSince ((s.m.chan ch).neFilt * 1000000) (max s.m.now t))
  ∧ (∃ (s : State) (c : Nat), MayTrim s.m c)
  ∧ (∃ s : State, (s.m.conv.display = 0 ∨ s.m.serviceOk = false))
  ∧ (∃ s : State, s.m.upd.porch = false)
  ∧ (∃ (s : State) (mean : Int) (c : Nat), s.m.conv.trim = some { ch := c, span := false } ∧ (s.m.chan c).mode =
      LoopMode.input ∧ ∃ z : Int, z = (s.m.loop c).zeroTrim + (4000000 - mean) ∧ trimInRange z (s.m.loop c).spanTrim
      = true)
  ∧ (∃ (s : State) (mean : Int) (c : Nat), s.m.conv.trim = some { ch := c, span := false } ∧ (s.m.chan c).mode =
      LoopMode.input ∧ ∃ z : Int, z = (s.m.loop c).zeroTrim + (4000000 - mean) ∧ trimInRange z (s.m.loop c).spanTrim
      = false) :=
  ⟨⟨analogue outputCfg id, 1, by decide +kernel⟩,
   ⟨analogue inputCfg (loop1 id), 1, 65535, 3000000, by decide +kernel⟩,
   ⟨analogue inputCfg (loop1 fun l => {l with badFrames := 2}), 1, by decide +kernel⟩,
   ⟨analogue outputCfg (loop1 id), 1, 1499, by decide +kernel⟩,
   ⟨analogue outputCfg (loop1 id), 1, 1500, by decide +kernel⟩,
   ⟨analogue outputCfg (loop1 fun l => {l with compliance := true, okSince := some 5}), 10000005, 1, 1700,
     by decide +kernel⟩,
   ⟨analogue inputCfg (loop1 fun l => {l with neSide := 1, neSince := some 5}), 10000005, 1, by decide +kernel⟩,
   ⟨analogue inputCfg (loop1 fun l => {l with neSide := 2, neSince := some 5}), 10000005, 1, by decide +kernel⟩,
   ⟨analogue inputCfg (loop1 fun l => {l with neHigh := true, okSince := some 5}), 10000005, 1, by decide +kernel⟩,
   ⟨analogue inputCfg (fun m => {m with conv.display := 2}), 1, by decide +kernel⟩,
   ⟨analogue inputCfg id, by decide +kernel⟩,
   ⟨analogue inputCfg (fun m => {m with conv.display := 8}), by decide +kernel⟩,
   ⟨analogue inputCfg (fun m => {m with conv.trim := some ⟨1, false⟩}), 4000100, 1, by decide +kernel,
     by decide +kernel, _, rfl, by decide +kernel⟩,
   ⟨analogue inputCfg (fun m => {m with conv.trim := some ⟨1, false⟩}), 9000000, 1, by decide +kernel,
     by decide +kernel, _, rfl, by decide +kernel⟩⟩

theorem witness_LoopChannelsAndButtons_more :
  (∃ (s : State) (ch : Nat), (s.m.chan ch).mode = LoopMode.output ∧ s.m.afeOn = true)
  ∧ (∃ (s : State) (ch seq minNa : Nat), s.m.afeOn = true ∧ (s.m.chan ch).mode = LoopMode.input ∧ ((s.m.loop
      ch).rbSeq = none ∨ ∃ (p : Nat), p ∈ (s.m.loop ch).rbSeq ∧ seq = (p + 1) % 65536) ∧ 3000000 ≤ minNa)
  ∧ (∃ (s : State) (ch : Nat), s.m.afeOn = true ∧ (s.m.chan ch).mode = LoopMode.input)
  ∧ (∃ (s : State) (ch mv : Nat), s.m.driving ch = true ∧ mv < 1500)
  ∧ (∃ (s : State) (ch mv : Nat), s.m.driving ch = true ∧ 1500 ≤ mv ∧ mv < 1700)
  ∧ (∃ (s : State) (c : Nat), MayTrim s.m c)
  ∧ (∃ s : State, (s.m.conv.display = 0 ∨ s.m.serviceOk = false))
  ∧ (∃ s : State, s.m.upd.porch = false) :=
  ⟨⟨analogue outputCfg (fun m => {m with pantry.out0.imgOut := [(8,1),(11,2)], pantry.out1.imgOut := [(8,1),(11,2)]}),
     1, by decide +kernel⟩,
   ⟨analogue inputCfg (loop1 fun l => {l with rbSeq := some 65535}), 1, 0, 3000000, by decide +kernel⟩,
   ⟨analogue inputCfg (loop1 fun l => {l with badFrames := 1}), 1, by decide +kernel⟩,
   ⟨analogue outputCfg (loop1 fun l => {l with compliance := true}), 1, 0, by decide +kernel⟩,
   ⟨analogue outputCfg (loop1 id), 1, 1699, by decide +kernel⟩,
   ⟨analogue outputCfg (fun m => {m with conv.display := 1}), 0, by decide +kernel⟩,
   ⟨analogue inputCfg (fun m => {m with conv.display := 2, prog.pairKey := .run}), by decide +kernel⟩,
   ⟨analogue inputCfg (fun m => {m with conv.display := 3, conv.trim := some ⟨1, false⟩}), by decide +kernel⟩⟩

theorem witness_ConverterRunsPassesAndCalibration :
  (∃ (s : State) (e : Nat) (a : AnaCfg), s.m.ana = some a ∧ s.m.afeOn = true ∧ e < a.entries.length ∧ (e = 0 ∨
      s.m.conv.passActive = true ∧ s.m.conv.nextEntry = e))
  ∧ (∃ (s : State) (e : Nat) (a : AnaCfg) (rest : List Nat), s.m.ana = some a ∧ s.m.afeOn = true ∧ s.m.conv.urgPend =
      e :: rest ∧ (s.m.conv.passActive = true → s.m.conv.urgThisTick < a.urgMax))
  ∧ (∃ (s : State) (t : Nat) (moved : Bool), s.m.afeOn = true ∧ s.m.conv.calBusy = false ∧ (moved = true ∨
      s.m.conv.calValid = false ∨ s.m.conv.lastCal + 60000000000 ≤ (s.m.start t).ltNs))
  ∧ (∃ s : State, s.m.conv.calBusy = true)
  ∧ (∃ (s : State) (w : TrimWait), s.m.conv.calBusy = true ∧ s.m.conv.trimWait = [w])
  ∧ (∃ (s : State) (t : Nat), s.m.conv.calBusy = true ∧ s.m.conv.calDueAt + 10000000000 ≤ max s.m.now t) :=
  ⟨⟨analogue inputCfg id, 0, ⟨4, 0, 0, [(0, 0), (1, 1)], [], [inputCfg, inputCfg]⟩, by decide +kernel⟩,
   ⟨analogue inputCfg (fun m => {m with conv.urgPend := [1, 0], conv.passActive := true, conv.urgThisTick := 3}), 1, ⟨4,
     0, 0, [(0, 0), (1, 1)], [], [inputCfg, inputCfg]⟩, [0], by decide +kernel⟩,
   ⟨analogue inputCfg id, 5000, false, by decide +kernel⟩,
   ⟨analogue inputCfg fun m => {m with conv.calBusy := true}, by decide +kernel⟩,
   ⟨analogue inputCfg fun m => {m with conv.calBusy := true, conv.trimWait := [⟨1,5,6,(1,1)⟩]}, ⟨1,5,6,(1,1)⟩,
     by decide +kernel⟩,
   ⟨analogue inputCfg fun m => {m with conv.calBusy := true, conv.calDueAt := 5}, 10000000005, by decide +kernel⟩⟩

theorem witness_ConverterRunsPassesAndCalibration_more :
  (∃ (s : State) (e : Nat) (a : AnaCfg), s.m.ana = some a ∧ s.m.afeOn = true ∧ e < a.entries.length ∧ (e = 0 ∨
      s.m.conv.passActive = true ∧ s.m.conv.nextEntry = e))
  ∧ (∃ (s : State) (e : Nat) (a : AnaCfg) (rest : List Nat), s.m.ana = some a ∧ s.m.afeOn = true ∧ s.m.conv.urgPend =
      e :: rest ∧ (s.m.conv.passActive = true → s.m.conv.urgThisTick < a.urgMax))
  ∧ (∃ (s : State) (t : Nat) (moved : Bool), s.m.afeOn = true ∧ s.m.conv.calBusy = false ∧ (moved = true ∨
      s.m.conv.calValid = false ∨ s.m.conv.lastCal + 60000000000 ≤ (s.m.start t).ltNs))
  ∧ (∃ (s : State) (t : Nat) (moved : Bool), s.m.afeOn = true ∧ s.m.conv.calBusy = false ∧ (moved = true ∨
      s.m.conv.calValid = false ∨ s.m.conv.lastCal + 60000000000 ≤ (s.m.start t).ltNs))
  ∧ (∃ s : State, s.m.conv.calBusy = true) :=
  ⟨⟨analogue inputCfg (fun m => {m with conv.passActive := true, conv.nextEntry := 1}), 1, ⟨4, 0, 0, [(0, 0), (1, 1)],
     [], [inputCfg, inputCfg]⟩, by decide +kernel⟩,
   ⟨analogue inputCfg (fun m => {m with conv.urgPend := [1], conv.urg := [(1,⟨0,false,255⟩)]}), 1, ⟨4, 0, 0, [(0, 0),
     (1, 1)], [], [inputCfg, inputCfg]⟩, [], by decide +kernel⟩,
   ⟨analogue inputCfg fun m => {m with conv.calValid := true}, 5000, true, by decide +kernel⟩,
   ⟨analogue inputCfg fun m => {m with conv.calValid := true}, 70000000000, false, by decide +kernel⟩,
   ⟨analogue inputCfg fun m => {m with conv.calBusy := true, conv.trimWait := [⟨1,5,6,(1,1)⟩]}, by decide +kernel⟩⟩

theorem witness_AtticCommitsAndApplies :
  (∃ (s : State) (t : Nat), s.m.attic.fault = false ∧ s.m.attic.pendCovers ≠ 0 ∧ (s.m.attic.lastCommit = none ∨ ∃ (c
      : Nat), c ∈ s.m.attic.lastCommit ∧ c + 1000 ≤ max s.m.now t))
  ∧ (∃ (s : State) (t : Nat) (c : Commit) (n : Nat), s.m.attic.fault = false ∧ s.m.attic.refilling = false ∧ 1000 ≤
      max s.m.now t ∧ lastCommitBy (max s.m.now t - 1000) none (List.filter (fun (e : AEnt) => decide
      (s.m.attic.applied ≤ e.aseq)) s.m.attic.journal) = some (c, n))
  ∧ (∃ (s : State) (h : AHeader) (k : Bool), s.m.attic.header = some (h, k) ∧ s.m.attic.fault = false ∧
      s.m.attic.refilling = false ∧ h.state = AtticState.valid)
  ∧ (∃ s : State, s.m.attic.fault = false ∧ s.m.attic.refilling = true ∧ s.m.attic.loadKey = none)
  ∧ (∃ s : State, s.m.attic.fault = false) :=
  ⟨⟨atticOf fun a => {a with pendCovers := 3, pendKind := 5, pendRel := 9}, 5000, by decide +kernel⟩,
   ⟨atticOf fun a => {a with journal := [⟨0,5,.ret [(2,7)]⟩,⟨1,5,.commit commit0⟩]}, 1005, commit0, 2, by decide +kernel⟩,
   ⟨atticOf id, ⟨true, .valid, 4, 0, 0, none⟩, false, by decide +kernel⟩,
   ⟨atticOf fun a => {a with refilling := true}, by decide +kernel⟩,
   ⟨atticOf fun a => a, by decide +kernel⟩⟩

theorem witness_AtticCommitsAndApplies_more :
  (∃ (s : State) (t : Nat), s.m.attic.fault = false ∧ s.m.attic.pendCovers ≠ 0 ∧ (s.m.attic.lastCommit = none ∨ ∃ (c
      : Nat), c ∈ s.m.attic.lastCommit ∧ c + 1000 ≤ max s.m.now t))
  ∧ (∃ (s : State) (t : Nat) (c : Commit) (n : Nat), s.m.attic.fault = false ∧ s.m.attic.refilling = false ∧ 1000 ≤
      max s.m.now t ∧ lastCommitBy (max s.m.now t - 1000) none (List.filter (fun (e : AEnt) => decide
      (s.m.attic.applied ≤ e.aseq)) s.m.attic.journal) = some (c, n))
  ∧ (∃ (s : State) (h : AHeader) (k : Bool), s.m.attic.header = some (h, k) ∧ s.m.attic.fault = false ∧
      s.m.attic.refilling = false ∧ h.state = AtticState.valid) :=
  ⟨⟨atticOf fun a => {a with pendCovers := 3, pendKind := 5, pendRel := 9, lastCommit := some 5}, 1005,
     by decide +kernel⟩,
   ⟨atticOf fun a =>
     {a with journal := [⟨0,5,.ret [(2,7)]⟩,⟨1,5,.commit commit0⟩,⟨2,6,.ret [(2,8)]⟩,⟨3,6,.commit commit0⟩]}, 1005,
     commit0, 2, by decide +kernel⟩,
   ⟨atticOf fun a => {a with hdrB := ⟨true, .valid, 6, 0, 0, none⟩}, ⟨true, .valid, 6, 0, 0, none⟩, true,
     by decide +kernel⟩⟩

theorem witness_FramesAreBuiltAndLaunched :
  (∃ (s : State) (t : Nat) (i : Image), s.m.prog.image = some i ∧ s.m.sched.running = true ∧ s.m.sched.built = false
      ∧ s.m.buildAt i ≤ (s.m.start t).ltNs ∧ (s.m.run 0).running = false ∧ s.m.pair.plan.st ≠ PlanState.waiting)
  ∧ (∃ s : State, s.m.sched.built = true ∧ s.m.sched.buildEnd = false)
  ∧ (∃ (s : State) (t port entry : Nat) (i : Image) (e : TxEntry), s.m.prog.image = some i ∧ tabFind (s.m.port
      port).txq entry = some e ∧ e.state = 1 ∧ e.launch ≤ (s.m.start t).ltNs ∧ e.kind ≠ 2 ∧ e.relay = false ∧
      s.m.gate = true)
  ∧ (∃ (s : State) (t port entry : Nat) (i : Image) (e : TxEntry), s.m.prog.image = some i ∧ tabFind (s.m.port
      port).txq entry = some e ∧ e.state = 1 ∧ e.launch ≤ (s.m.start t).ltNs ∧ e.kind ≠ 2 ∧ e.relay = false ∧
      s.m.gate = false ∧ s.m.controls = true) :=
  ⟨⟨started .alone fun m => {m with bolt.ownSelf := true}, 62500, image0, by decide +kernel⟩,
   ⟨started .alone fun m => {m with sched.built := true}, by decide +kernel⟩,
   ⟨started .alone fun m =>
     {m with bolt.ownSelf := true, pantry.ports := [(0,{Port.zero with txq := [(3,sentEntry)]})]}, 62500, 0, 3,
     image0, sentEntry, by decide +kernel⟩,
   ⟨started .owner fun m => {m with pantry.ports := [(0,{Port.zero with txq := [(3,sentEntry)]})]}, 62500, 0, 3, image0,
     sentEntry, by decide +kernel⟩⟩

theorem witness_CardReadsAppendsAndLocks :
  (∃ s : State, s.m.power.boot = Boot.cardRead ∧ s.m.card.card = none)
  ∧ (∃ (s : State) (c : Card) (img : Image), s.m.power.boot = Boot.cardRead ∧ s.m.card.card = some c ∧ cardResult
      s.m.upd.project c = (CardRead.ok, some img))
  ∧ (∃ (s : State) (a : Append) (c : Card), s.m.writing = some a ∧ s.m.card.card = some c ∧ s.m.card.usable = true ∧
      s.m.powered 13 = true ∧ (∃ (x : Trim), a.body = JBody.trim x) ∧ a.key = none ∧ journalBytes c + recSize a.body
      ≤ journalSize / 2 ∧ (∃ (sb : Super), ∃ (k : Bool), cardSuper c = some (sb, k) ∧ sb.jStart = 0))
  ∧ (∃ (s : State) (a : Append), s.m.writing = some a ∧ s.m.card.tries < 2 ∧ s.m.card.locked = true)
  ∧ (∃ (s : State) (a : Append), s.m.writing = some a ∧ 2 ≤ s.m.card.tries)
  ∧ (∃ (s : State) (x : Comp) (c : Card), s.m.card.comp = some x ∧ s.m.card.card = some c ∧ x.step = 1 ∧
      s.m.card.usable = true ∧ s.m.powered 13 = true)
  ∧ (∃ (s : State) (x : Comp) (c : Card), s.m.card.comp = some x ∧ s.m.card.card = some c ∧ x.step = 2 ∧ x.kind =
      CompKind.compact ∧ s.m.card.usable = true ∧ s.m.powered 13 = true ∧ s.m.card.unread = false ∧
      s.m.card.rewriteDue = false)
  ∧ (∃ (s : State) (x : Comp) (c : Card), s.m.card.comp = some x ∧ s.m.card.card = some c ∧ x.step ≠ 0)
  ∧ (∃ (s : State) (t : Nat) (x : Comp) (u : Nat), s.m.card.comp = some x ∧ s.m.card.retryAt = some u ∧ x.step = 0 ∧
      x.kind = CompKind.load ∧ u ≤ max s.m.now t ∧ s.m.card.usable = true)
  ∧ (∃ s : State, s.m.card.rewriteDue = false) :=
  ⟨⟨readsCard none, by decide +kernel⟩,
   ⟨readsCard (some card0), card0, goodImage, by decide +kernel⟩,
   ⟨writesTrim id, trimAppend, card0, by decide +kernel, by decide +kernel, by decide +kernel, by decide +kernel, ⟨_,
     rfl⟩, by decide +kernel, by decide +kernel, ⟨_, _, rfl, by decide +kernel⟩⟩,
   ⟨writesTrim fun c => {c with tries := 1}, trimAppend, by decide +kernel⟩,
   ⟨writesTrim fun c => {c with tries := 2}, trimAppend, by decide +kernel⟩,
   ⟨writesTrim fun c => {c with comp := some (rewriting .compact 1)}, rewriting .compact 1, card0, by decide +kernel⟩,
   ⟨writesTrim fun c => {c with comp := some (rewriting .compact 2)}, rewriting .compact 2, card0, by decide +kernel⟩,
   ⟨writesTrim fun c => {c with comp := some (rewriting .load 2)}, rewriting .load 2, card0, by decide +kernel⟩,
   ⟨writesTrim fun c => {c with comp := some (rewriting .load 0), retryAt := some 5000}, 5000, rewriting .load 0, 5000,
     by decide +kernel⟩,
   ⟨writesTrim fun c => {c with locked := false}, by decide +kernel⟩⟩

theorem witness_CardReadsAppendsAndLocks_more :
  ∃ (s : State) (x : Comp) (c : Card), s.m.card.comp = some x ∧ s.m.card.card = some c ∧ x.step ≠ 0 :=
  ⟨writesTrim fun c => {c with comp := some (rewriting .command 1)}, rewriting .command 1, card0, by decide +kernel⟩

end Loops

/-! ## Time and the Hallway -/

namespace Time

/-- A module alone with a time record. -/
def timed (r : TimeRec) (f : Mod → Mod) : Machine.State := started .alone fun m => f
  { m with prog.image := some { image0 with time := r } }

/-- A module that follows line time. -/
def followsLineRec : TimeRec := ⟨true, .peer, 3, 4, 10, 5⟩

/-- A module that takes time from ENG1. -/
def sourceRec : TimeRec := ⟨false, .eng1, 3, 4, 10, 5⟩

/-- A PTP master that sent one exchange. -/
def masterOf (g : Nat) (q : Bool) : PtpMaster := ⟨3, g, 500, q, 9⟩

/-- The shadow of a running pair. -/
def shadow (f : Mod → Mod) : Machine.State := started .shadow fun m => f
  { m with hall.link := .up, bolt.ownPartner := true, bolt.livePartner := true, pair.partner := some .owner }

/-- A Hallway message that checks. -/
def msg (q : Nat) : Msg := ⟨5000, q, 3, true⟩

/-- A Hallway message whose check fails. -/
def msgBad : Msg := ⟨5000, 1, 3, false⟩

/-- The Hallway exchanges HELLO. -/
def hellos (f : Mod → Mod) : Machine.State := outside fun m => f {m with hall.link := .hello, hall.own := some hello0}

/-- A shadow whose next tick waits for data. -/
def waits (f : Mod → Mod) : Machine.State := shadow fun m => f {m with sched.running := false}

/-- Frozen inputs of tick 9. -/
def frozen0 : Frozen := { (default : Frozen) with tick := 9, epoch := 7 }

/-- A frame of a type. -/
def frameOf (ty : Nat) : Frame := { (default : Frame) with type := ty }

/-- The owner of a running pair. -/
def owner (f : Mod → Mod) : Machine.State := started .owner fun m => f
  { m with hall.link := .up, bolt.ownSelf := true, bolt.livePartner := true, pair.partner := some .shadow }

/-- An item that waits. -/
def item4 : Item := { reqId := 4 }

/-- A joining module. -/
def joins (f : Mod → Mod) : Machine.State := started .joining fun m => f
  { m with hall.link := .up, prog.run := .joining, bolt.ownPartner := true, pair.partner := some .owner, bolt.livePartner := true }

/-- A joining module in its first pass. -/
def joinsFirst (f : Mod → Mod) : Machine.State := joins fun m => f { m with hall.join := .first, hall.fmt := 1 }

theorem witness_TimeFollowsItsReferences :
  (∃ s : State, s.m.followsLine = true ∧ s.m.time.keeper = false ∧ s.m.time.lineM = none)
  ∧ (∃ s : State, s.m.takesExt = true ∧ s.m.time.extM = none ∧ s.m.time.calSt = CalState.unset)
  ∧ (∃ (s : State) (offset : Int) (x : PtpMaster), s.m.followsLine = true ∧ s.m.time.keeper = false ∧ s.m.time.lineM
      = some x ∧ (x.exchange offset).qual = false)
  ∧ (∃ (s : State) (offset : Int) (x : PtpMaster), s.m.takesExt = true ∧ s.m.time.extM = some x ∧ (x.exchange
      offset).qual = false)
  ∧ (∃ (s : State) (port : Nat), s.m.controls = true ∧ s.m.portRole port = PortRole.segment ∧ s.m.prog.run =
      RunSt.running)
  ∧ (∃ s : State, s.m.takesExt = true ∧ s.m.time.extM = none)
  ∧ (∃ (s : State) (gm : Nat) (x : PtpMaster), s.m.takesExt = true ∧ s.m.time.extM = some x ∧ x.gm ≠ gm)
  ∧ (∃ (s : State) (r : TimeRec), s.m.timeRec = some r ∧ s.m.followsLine = true ∧ s.m.time.lineM ≠ none)
  ∧ (∃ (s : State) (r : TimeRec), s.m.timeRec = some r ∧ s.m.takesExt = true ∧ s.m.time.extM ≠ none ∧ r.extSrc =
      ExtSrc.eng1)
  ∧ (∃ (s : State) (x : PtpMaster), s.m.controls = true ∧ s.m.time.lineM = some x ∧ x.qual = true)
  ∧ (∃ (s : State) (x : PtpMaster), s.m.controls = true ∧ s.m.time.extM = some x ∧ x.qual = true ∧ s.m.isSource =
      false)
  ∧ (∃ (s : State) (t x : Nat), s.m.time.keeperAt = some x ∧ x ≤ max s.m.now t ∧ s.m.followsLine = true ∧
      s.m.time.begun = true ∧ s.m.time.lineM = none)
  ∧ (∃ (s : State) (t x : Nat) (r : TimeRec), s.m.time.begun = false ∧ s.m.time.waitFrom = some x ∧ s.m.timeRec =
      some r ∧ x + r.ltWaitS * 1000000000 ≤ max s.m.now t)
  ∧ (∃ (s : State) (t : Nat), s.m.pair.role = Role.shadow ∧ s.m.hall.link = Link4.up ∧ s.m.time.lastTimeMsg + 1000000
      ≤ max s.m.now t ∧ s.m.pair.ready = true ∧ s.m.pair.holdSince = none)
  ∧ (∃ (s : State) (t : Nat), s.m.pair.role = Role.shadow ∧ s.m.hall.link = Link4.up ∧ s.m.time.lastTimeMsg + 1000000
      ≤ max s.m.now t ∧ s.m.pair.ready = false) :=
  ⟨⟨timed followsLineRec id, by decide +kernel⟩,
   ⟨timed followsLineRec id, by decide +kernel⟩,
   ⟨timed followsLineRec fun m => {m with time.lineM := some (masterOf 6 false)}, 700, masterOf 6 false,
     by decide +kernel⟩,
   ⟨timed sourceRec fun m => {m with time.extM := some (masterOf 6 false)}, 700, masterOf 6 false, by decide +kernel⟩,
   ⟨timed sourceRec id, 0, by decide +kernel⟩,
   ⟨timed sourceRec id, by decide +kernel⟩,
   ⟨timed sourceRec fun m => {m with time.extM := some (masterOf 6 true)}, 7, masterOf 6 true, by decide +kernel⟩,
   ⟨timed followsLineRec fun m => {m with time.lineM := some (masterOf 6 true)}, followsLineRec, by decide +kernel⟩,
   ⟨timed sourceRec fun m => {m with time.extM := some (masterOf 6 true)}, sourceRec, by decide +kernel⟩,
   ⟨timed followsLineRec fun m => {m with time.lineM := some (masterOf 6 true)}, masterOf 6 true, by decide +kernel⟩,
   ⟨timed followsLineRec fun m => {m with time.extM := some (masterOf 6 true)}, masterOf 6 true, by decide +kernel⟩,
   ⟨timed followsLineRec fun m => {m with time.keeperAt := some 5000}, 5000, 5000, by decide +kernel⟩,
   ⟨timed followsLineRec fun m => {m with time.begun := false, sched.running := false, time.waitFrom := some 7},
     5000000007, 7, followsLineRec, by decide +kernel⟩,
   ⟨shadow fun m => {m with pair.ready := true}, 1000000, by decide +kernel⟩,
   ⟨shadow id, 1000000, by decide +kernel⟩⟩

theorem witness_TimeFollowsItsReferences_more :
  (∃ s : State, s.m.followsLine = true ∧ s.m.time.keeper = false ∧ s.m.time.lineM = none)
  ∧ (∃ s : State, s.m.takesExt = true ∧ s.m.time.extM = none ∧ s.m.time.calSt = CalState.unset)
  ∧ (∃ (s : State) (offset : Int) (x : PtpMaster), s.m.followsLine = true ∧ s.m.time.keeper = false ∧ s.m.time.lineM
      = some x ∧ (x.exchange offset).qual = false)
  ∧ (∃ s : State, s.m.takesExt = true ∧ s.m.time.extM = none)
  ∧ (∃ (s : State) (t x : Nat) (r : TimeRec), s.m.time.begun = false ∧ s.m.time.waitFrom = some x ∧ s.m.timeRec =
      some r ∧ x + r.ltWaitS * 1000000000 ≤ max s.m.now t) :=
  ⟨⟨timed followsLineRec fun m => {m with time.begun := false}, by decide +kernel⟩,
   ⟨timed sourceRec id, by decide +kernel⟩,
   ⟨timed followsLineRec fun m => {m with time.lineM := some (masterOf 7 false)}, 2000, masterOf 7 false,
     by decide +kernel⟩,
   ⟨timed followsLineRec id, by decide +kernel⟩,
   ⟨started .owner fun m =>
     {m with prog.run := .starting, prog.image := some {image0 with time := sourceRec}, time.begun := false, sched.running := false, time.waitFrom := some 7},
     5000000007, 7, sourceRec, by decide +kernel⟩⟩

theorem witness_HallwayLinkTrainsAndChecks :
  (∃ (s : State) (c : Instr) (x : Msg) (cls : Nat), heardAs c = some (x, cls) ∧ s.m.hall.link = Link4.up ∧ Garbled s
      x cls)
  ∧ (∃ (s : State) (c : Instr) (x : Msg) (cls : Nat), heardAs c = some (x, cls) ∧ s.m.hall.link ≠ Link4.up)
  ∧ (∃ (s : State) (x : Msg), Hears s x 0)
  ∧ (∃ s : State, s.m.hall.link = Link4.down ∧ s.m.powered 11 = true ∧ (s.m.power.boot = Boot.ready ∨ s.m.power.boot
      = Boot.started))
  ∧ (∃ (s : State) (t : Nat), s.m.hall.link = Link4.training ∧ s.m.hall.trainSince + 50000000 ≤ max s.m.now t)
  ∧ (∃ s : State, s.m.powered 11 = true ∧ s.m.hall.link = Link4.training)
  ∧ (∃ s : State, s.m.powered 11 = true ∧ s.m.hall.link ≠ Link4.training)
  ∧ (∃ s : State, s.m.hall.hl0 = true ∧ s.m.hall.hl1 = true ∧ s.m.hall.link = Link4.up)
  ∧ (∃ s : State, s.m.hall.hl0 = false ∧ s.m.hall.hl1 = true ∧ s.m.hall.link = Link4.up)
  ∧ (∃ s : State, s.m.hall.hl0 = true)
  ∧ (∃ (s : State) (t : Nat), s.m.hall.link = Link4.up ∧ s.m.hall.lastTx + 100000 ≤ max s.m.now t)
  ∧ (∃ (s : State) (b : Hello), s.m.hall.link = Link4.hello ∧ s.m.hall.own = some b)
  ∧ (∃ s : State, s.m.hall.link = Link4.up)
  ∧ (∃ (s : State) (q k : Nat) (t1 t2 : TimeVal), s.m.hall.link = Link4.up ∧ s.m.controls = false ∧ s.m.hall.lastTime
      = some (q, k, t1, t2)) :=
  ⟨⟨shadow id, .mIdle msgBad, msgBad, 0, by decide +kernel⟩,
   ⟨started .owner fun m => {m with hall.link := .hello}, .mVerdict (msg 7) true 0, msg 7, 2, by decide +kernel⟩,
   ⟨shadow fun m => {m with hall.rxSeq := [(0, 4294967295)]}, msg 0, by decide +kernel⟩,
   ⟨outside id, by decide +kernel⟩,
   ⟨outside fun m => {m with hall.link := .training, hall.trainSince := 8}, 50000008, by decide +kernel⟩,
   ⟨outside fun m => {m with hall.link := .training}, by decide +kernel⟩,
   ⟨outside fun m => {m with hall.link := .up, hall.hl0 := true}, by decide +kernel⟩,
   ⟨shadow fun m => {m with hall.hl0 := true, hall.hl1 := true}, by decide +kernel⟩,
   ⟨shadow fun m => {m with hall.hl1 := true}, by decide +kernel⟩,
   ⟨shadow fun m => {m with hall.hl0 := true}, by decide +kernel⟩,
   ⟨shadow id, 100000, by decide +kernel⟩,
   ⟨outside fun m => {m with hall.link := .hello, hall.own := some hello0}, hello0, by decide +kernel⟩,
   ⟨shadow id, by decide +kernel⟩,
   ⟨shadow fun m => {m with hall.lastTime := some (3, 4000, ⟨1,2,3⟩, ⟨1,3,3⟩)}, 3, 4000, ⟨1,2,3⟩, ⟨1,3,3⟩,
     by decide +kernel⟩⟩

theorem witness_HallwayLinkTrainsAndChecks_more :
  (∃ (s : State) (c : Instr) (x : Msg) (cls : Nat), heardAs c = some (x, cls) ∧ s.m.hall.link = Link4.up ∧ Garbled s
      x cls)
  ∧ (∃ (s : State) (c : Instr) (x : Msg) (cls : Nat), heardAs c = some (x, cls) ∧ s.m.hall.link = Link4.up ∧ Garbled
      s x cls)
  ∧ (∃ (s : State) (c : Instr) (x : Msg) (cls : Nat), heardAs c = some (x, cls) ∧ s.m.hall.link ≠ Link4.up)
  ∧ (∃ s : State, s.m.hall.link = Link4.down ∧ s.m.powered 11 = true ∧ (s.m.power.boot = Boot.ready ∨ s.m.power.boot
      = Boot.started))
  ∧ (∃ s : State, s.m.powered 11 = true ∧ s.m.hall.link = Link4.training)
  ∧ (∃ (s : State) (t : Nat), s.m.hall.link = Link4.up ∧ s.m.hall.lastTx + 100000 ≤ max s.m.now t)
  ∧ (∃ s : State, s.m.hall.link = Link4.up) :=
  ⟨⟨shadow id, .mPage msgBad 1 2 3 [], msgBad, 3, by decide +kernel⟩,
   ⟨shadow fun m => {m with hall.rxSeq := [(1, 7)]}, .mSample (msg 9) default, msg 9, 1, by decide +kernel⟩,
   ⟨started .owner fun m => {m with hall.link := .down}, .mHoEnd (msg 7) 0, msg 7, 0, by decide +kernel⟩,
   ⟨outside fun m => {m with power.boot := .ready}, by decide +kernel⟩,
   ⟨outside fun m => {m with hall.link := .training, hall.hl1 := true, savis.serial := 9, bolt.side := true},
     by decide +kernel⟩,
   ⟨shadow fun m => {m with hall.txSeq := [(0,0xFFFFFFFF)]}, 100000, by decide +kernel⟩,
   ⟨started .alone fun m => {m with hall.link := .up, newel.failed := true}, by decide +kernel⟩⟩

theorem witness_HelloAndAgreeBringTheLinkUp :
  (∃ (s : State) (x : Msg) (h : Hello), s.m.hall.link = Link4.hello ∧ x.chkOk = true ∧ s.m.hall.own = some h ∧
      s.m.hall.partnerAgree = none)
  ∧ (∃ (s : State) (x : Msg), s.m.hall.link = Link4.hello ∧ x.chkOk = false)
  ∧ (∃ (s : State) (x : Msg) (b : Agree), s.m.hall.link = Link4.hello ∧ x.chkOk = true ∧ s.m.hall.agree = some b ∧
      b.result = 0)
  ∧ (∃ (s : State) (x : Msg) (a b : Agree), s.m.hall.link = Link4.hello ∧ x.chkOk = true ∧ s.m.hall.agree = some a ∧
      a ≠ b)
  ∧ (∃ (s : State) (x : Msg) (b : Agree), s.m.hall.link = Link4.hello ∧ x.chkOk = true ∧ s.m.hall.agree = some b ∧
      b.result = 1) :=
  ⟨⟨hellos id, msg 7, hello0, by decide +kernel⟩,
   ⟨hellos id, msgBad, by decide +kernel⟩,
   ⟨hellos fun m => {m with hall.agree := some ⟨3,1,0,1,4⟩, hall.partner := some hello0}, msg 7, ⟨3,1,0,1,4⟩,
     by decide +kernel⟩,
   ⟨hellos fun m => {m with hall.agree := some ⟨3,1,0,1,4⟩}, msg 7, ⟨3,1,0,1,4⟩, ⟨2,1,0,1,4⟩, by decide +kernel⟩,
   ⟨hellos fun m => {m with hall.agree := some ⟨3,1,1,1,4⟩}, msg 7, ⟨3,1,1,1,4⟩, by decide +kernel⟩⟩

theorem witness_HelloAndAgreeBringTheLinkUp_more :
  (∃ (s : State) (x : Msg), s.m.hall.link = Link4.hello ∧ x.chkOk = false)
  ∧ (∃ (s : State) (x : Msg) (b : Agree), s.m.hall.link = Link4.hello ∧ x.chkOk = true ∧ s.m.hall.agree = some b ∧
      b.result = 0) :=
  ⟨⟨hellos fun m => {m with hall.partner := some hello0}, msgBad, by decide +kernel⟩,
   ⟨started .alone fun m =>
     {m with hall.link := .hello, hall.own := some hello0, hall.agree := some ⟨3,1,0,1,4⟩, hall.partner := some {hello0 with role := .joining}},
     msg 7, ⟨3,1,0,1,4⟩, by decide +kernel⟩⟩

theorem witness_RoleTimeAndPlanMessagesAreTaken :
  (∃ (s : State) (x : Msg) (role : Role), Hears s x 0 ∧ s.m.pair.role = Role.shadow ∧ (role = Role.owner ∨ role =
      Role.alone))
  ∧ (∃ (s : State) (x : Msg) (i : Image), Hears s x 0 ∧ s.m.pair.role = Role.alone ∧ s.m.prog.image = some i)
  ∧ (∃ (s : State) (x : Msg) (t1 : TimeVal) (delay : Int) (t2 : TimeVal), Hears s x 0 ∧ s.m.pair.role = Role.shadow ∧
      (diffPs t2 t1 - delay).natAbs ≤ 200000)
  ∧ (∃ (s : State) (x : Msg) (t1 : TimeVal) (delay : Int) (t2 : TimeVal), Hears s x 0 ∧ s.m.pair.role = Role.shadow ∧
      s.m.pair.ready = false ∧ 200000 < (diffPs t2 t1 - delay).natAbs)
  ∧ (∃ (s : State) (x : Msg), Hears s x 0)
  ∧ (∃ (s : State) (x : Msg), Hears s x 0 ∧ s.m.pair.role = Role.shadow) :=
  ⟨⟨shadow id, msg 7, .owner, by decide +kernel⟩,
   ⟨started .alone fun m => {m with hall.link := .up, hall.hofNow := 1}, msg 7, image0, by decide +kernel⟩,
   ⟨shadow id, msg 7, ⟨0,5000,0⟩, 100, ⟨0,5200,0⟩, by decide +kernel⟩,
   ⟨shadow id, msg 7, ⟨0,5000,0⟩, 0, ⟨0,5201,0⟩, by decide +kernel⟩,
   ⟨shadow id, msg 7, by decide +kernel⟩,
   ⟨shadow id, msg 7, by decide +kernel⟩⟩

theorem witness_RoleTimeAndPlanMessagesAreTaken_more :
  (∃ (s : State) (x : Msg) (role : Role), Hears s x 0 ∧ s.m.pair.role = Role.shadow ∧ (role = Role.owner ∨ role =
      Role.alone))
  ∧ (∃ (s : State) (x : Msg) (t1 : TimeVal) (delay : Int) (t2 : TimeVal), Hears s x 0 ∧ s.m.pair.role = Role.shadow ∧
      (diffPs t2 t1 - delay).natAbs ≤ 200000)
  ∧ (∃ (s : State) (x : Msg) (t1 : TimeVal) (delay : Int) (t2 : TimeVal), Hears s x 0 ∧ s.m.pair.role = Role.shadow ∧
      (diffPs t2 t1 - delay).natAbs ≤ 200000)
  ∧ (∃ (s : State) (x : Msg), Hears s x 0 ∧ s.m.pair.role = Role.shadow) :=
  ⟨⟨shadow fun m => {m with pair.ready := true}, msg 7, .alone, by decide +kernel⟩,
   ⟨shadow fun m => {m with pair.ready := true}, msg 7, ⟨0,5000,0⟩, 0, ⟨0,5200,0⟩, by decide +kernel⟩,
   ⟨shadow fun m => {m with pair.holdSince := some 7}, msg 7, ⟨0,5000,0⟩, 0, ⟨0,4800,0⟩, by decide +kernel⟩,
   ⟨shadow fun m => {m with pair.plan.tick := some 9}, msg 7, by decide +kernel⟩⟩

theorem witness_ForwardedDataIsHeld :
  (∃ (s : State) (x : Msg) (gen : Nat), Hears s x 1 ∧ s.m.follows = true ∧ s.m.sched.tick < gen ∧ TickWaits
      (s.m.start x.moment))
  ∧ (∃ (s : State) (x : Msg) (f : Frozen), Hears s x 1 ∧ s.m.follows = true ∧ s.m.sched.tick < f.tick ∧ TickWaits
      (s.m.start x.moment))
  ∧ (∃ (s : State) (x : Msg), Hears s x 1 ∧ s.m.follows = true)
  ∧ (∃ (s : State) (x : Msg), Hears s x 1 ∧ s.m.compares = true ∧ s.m.hall.cut = none ∧ s.m.hall.ownDigs = [] ∧
      s.m.hall.ownerDigs.length < 64)
  ∧ (∃ (s : State) (x : Msg) (k : W32) (r o : Nat) (c c' : W64) (at_ : Nat), Hears s x 1 ∧ s.m.pair.role =
      Role.shadow ∧ s.m.compares = true ∧ s.m.hall.cut = none ∧ s.m.hall.ownDigs = [(at_,
      { kind := k, relTick := r, ord := o, full := false, chg := c', dfull := 0 })] ∧ c' ≠ c)
  ∧ (∃ (s : State) (t at_ : Nat) (d : Dig), s.m.pair.role = Role.shadow ∧ s.m.compares = true ∧ s.m.hall.ownDigs =
      [(at_, d)] ∧ at_ + 20000 ≤ max s.m.now t ∧ s.m.pair.ready = false)
  ∧ (∃ (s : State) (x : Msg), Hears s x 2 ∧ s.m.controls = false) :=
  ⟨⟨waits id, msg 7, 5, by decide +kernel⟩,
   ⟨waits id, msg 7, frozen0, by decide +kernel⟩,
   ⟨shadow id, msg 7, by decide +kernel⟩,
   ⟨shadow id, msg 7, by decide +kernel⟩,
   ⟨shadow fun m => {m with hall.ownDigs := [(9,⟨1,2,3,false,6,0⟩)]}, msg 7, 1, 2, 3, 5, 6, 9, by decide +kernel⟩,
   ⟨shadow fun m => {m with hall.ownDigs := [(9,⟨1,2,3,false,6,0⟩)]}, 20009, 9, ⟨1,2,3,false,6,0⟩, by decide +kernel⟩,
   ⟨shadow id, msg 7, by decide +kernel⟩⟩

theorem witness_ForwardedDataIsHeld_more :
  ∃ (s : State) (x : Msg) (k : W32) (r o : Nat) (c c' : W64) (at_ : Nat), Hears s x 1 ∧ s.m.pair.role = Role.shadow ∧
      s.m.compares = true ∧ s.m.hall.cut = none ∧ s.m.hall.ownDigs = [(at_,
      { kind := k, relTick := r, ord := o, full := false, chg := c', dfull := 0 })] ∧ c' ≠ c :=
  ⟨shadow fun m => {m with hall.ownDigs := [(9,⟨1,2,3,false,6,0⟩)], pair.ready := true}, msg 7, 1, 2, 3, 5, 6, 9,
     by decide +kernel⟩

theorem witness_RelayFramesAndMirrorsAreTaken :
  (∃ (s : State) (x : Msg) (port : Nat) (f : Frame), Hears s x 1 ∧ s.m.controls = true ∧ s.m.portRole port =
      PortRole.segment ∧ (f.type = 2 ∨ f.type = 4 ∨ f.type = 6 ∨ f.type = 8))
  ∧ (∃ (s : State) (x : Msg) (entry : Nat) (e : TxEntry), Hears s x 1 ∧ s.m.controls = false ∧ 768 ≤ entry ∧ entry <
      1024 ∧ (s.m.start x.moment).ltNs ≤ e.launch)
  ∧ (∃ (s : State) (x : Msg) (entry : Nat) (e : TxEntry), Hears s x 1 ∧ s.m.controls = false ∧ 768 ≤ entry ∧ entry <
      1024 ∧ e.kind ≠ 2 ∧ e.launch < (s.m.start x.moment).ltNs)
  ∧ (∃ (s : State) (x : Msg) (port entry : Nat) (i : Image) (e : TxEntry), Hears s x 1 ∧ s.m.prog.image = some i ∧
      tabFind (s.m.port port).relayQ entry = some e)
  ∧ (∃ (s : State) (x : Msg) (op : Nat), Hears s x 2 ∧ s.m.controls = false ∧ op = 1)
  ∧ (∃ (s : State) (x : Msg) (client : Nat), Hears s x 2 ∧ s.m.controls = false ∧ client ≠ 0)
  ∧ (∃ (s : State) (x : Msg) (id stn pos : Nat) (i : Item), Hears s x 2 ∧ s.m.waitingItem id = some (stn, pos, i) ∧
      i.client = 0) :=
  ⟨⟨owner id, msg 7, 0, frameOf 2, by decide +kernel⟩,
   ⟨shadow id, msg 7, 768, { (default : TxEntry) with launch := 5000, state := 2}, by decide +kernel⟩,
   ⟨shadow id, msg 7, 1023, { (default : TxEntry) with launch := 4999, state := 2}, by decide +kernel⟩,
   ⟨owner fun m =>
     {m with pantry.ports := [(0,{Port.zero with relayQ := [(770, { (default : TxEntry) with state := 1})]})]}, msg
     7, 0, 770, image0, { (default : TxEntry) with state := 1}, by decide +kernel⟩,
   ⟨shadow id, msg 7, 1, by decide +kernel⟩,
   ⟨shadow id, msg 7, 5, by decide +kernel⟩,
   ⟨owner fun m => {m with pantry.stns := [(1,{items := [item4]})]}, msg 7, 4, 1, 1, item4, by decide +kernel⟩⟩

theorem witness_RelayFramesAndMirrorsAreTaken_more :
  ∃ (s : State) (x : Msg) (port : Nat) (f : Frame), Hears s x 1 ∧ s.m.controls = true ∧ s.m.portRole port =
      PortRole.segment ∧ (f.type = 2 ∨ f.type = 4 ∨ f.type = 6 ∨ f.type = 8) :=
  ⟨owner id, msg 7, 0, frameOf 8, by decide +kernel⟩

theorem witness_JoinMessagesFillTheJoiner :
  (∃ (s : State) (x : Msg), Hears s x 3 ∧ s.m.pair.role = Role.shadow)
  ∧ (∃ (s : State) (x : Msg) (i : Image) (r inst field : Nat), Hears s x 3 ∧ s.m.pair.role = Role.shadow ∧ (Heard s x
      3).changeCheck i = (r, inst, field) ∧ r ≠ 0)
  ∧ (∃ (s : State) (x : Msg) (r : Nat), Hears s x 2 ∧ s.m.prog.chgState = ChgState.checking ∧ s.m.controls = true ∧ r
      ≠ 0)
  ∧ (∃ (s : State) (x : Msg) (r : Nat), Hears s x 2 ∧ s.m.hall.join = JPhase.admitting ∧ s.m.hall.sender = true ∧ r ≠
      0)
  ∧ (∃ (s : State) (x : Msg) (i : Image), Hears s x 0 ∧ s.m.pair.role = Role.joining ∧ s.m.prog.image = some i)
  ∧ (∃ (s : State) (x : Msg), Hears s x 3 ∧ s.m.joins = true)
  ∧ (∃ (s : State) (x : Msg) (stn : Nat), Hears s x 3 ∧ s.m.joins = true ∧ stn < 8192)
  ∧ (∃ (s : State) (x : Msg) (ver : Nat) (ok : Bool) (sec : Section) (i : Image), Hears s x 3 ∧ s.m.joins = true ∧
      s.m.prog.image = some i ∧ ok = true ∧ ver = s.m.hall.fmt ∧ sec ≠ Section.unreadable)
  ∧ (∃ (s : State) (x : Msg) (ver : Nat) (ok : Bool) (sec : Section), Hears s x 3 ∧ s.m.joins = true ∧ (sec =
      Section.unreadable ∨ ok = false ∨ ver ≠ s.m.hall.fmt))
  ∧ (∃ (s : State) (x : Msg) (tick : Nat) (i : Image), Hears s x 0 ∧ s.m.joins = true ∧ s.m.prog.image = some i ∧
      s.m.time.begun = true ∧ s.m.attic.fault = false ∧ (s.m.start x.moment).ltNs < (tick - 1) * i.tickNs)
  ∧ (∃ (s : State) (x : Msg), Hears s x 0 ∧ s.m.hall.sender = true ∧ s.m.hall.join ≠ JPhase.none)
  ∧ (∃ (s : State) (x : Msg) (r : Nat), Hears s x 0 ∧ s.m.pair.role = Role.joining ∧ r ≠ 0 ∧ r ≠ 6) :=
  ⟨⟨shadow id, msg 7, by decide +kernel⟩,
   ⟨shadow id, msg 7, {image0 with magic := 0}, 1, 0, 0, by decide +kernel⟩,
   ⟨owner fun m => {m with prog.chgState := .checking, prog.staged := some image0}, msg 7, 3, by decide +kernel⟩,
   ⟨owner fun m => {m with hall.join := .admitting, hall.sender := true}, msg 7, 3, by decide +kernel⟩,
   ⟨joins id, msg 7, image0, by decide +kernel⟩,
   ⟨joinsFirst id, msg 7, by decide +kernel⟩,
   ⟨joinsFirst id, msg 7, 0x1FFF, by decide +kernel⟩,
   ⟨joinsFirst id, msg 7, 1, true, .time 3 1 true false none none none, image0, by decide +kernel⟩,
   ⟨joinsFirst id, msg 7, 1, true, .unreadable, by decide +kernel⟩,
   ⟨joinsFirst id, msg 7, 30, image0, by decide +kernel⟩,
   ⟨owner fun m => {m with hall.join := .converge, hall.sender := true, hall.openAt := some 5}, msg 7, by decide +kernel⟩,
   ⟨joinsFirst id, msg 7, 1, by decide +kernel⟩⟩

theorem witness_JoinMessagesFillTheJoiner_more :
  (∃ (s : State) (x : Msg) (ver : Nat) (ok : Bool) (sec : Section) (i : Image), Hears s x 3 ∧ s.m.joins = true ∧
      s.m.prog.image = some i ∧ ok = true ∧ ver = s.m.hall.fmt ∧ sec ≠ Section.unreadable)
  ∧ (∃ (s : State) (x : Msg) (ver : Nat) (ok : Bool) (sec : Section), Hears s x 3 ∧ s.m.joins = true ∧ (sec =
      Section.unreadable ∨ ok = false ∨ ver ≠ s.m.hall.fmt))
  ∧ (∃ (s : State) (x : Msg) (ver : Nat) (ok : Bool) (sec : Section), Hears s x 3 ∧ s.m.joins = true ∧ (sec =
      Section.unreadable ∨ ok = false ∨ ver ≠ s.m.hall.fmt))
  ∧ (∃ (s : State) (x : Msg) (r : Nat), Hears s x 0 ∧ s.m.pair.role = Role.joining ∧ r ≠ 0 ∧ r ≠ 6) :=
  ⟨⟨joinsFirst id, msg 7, 1, true, .queue [(1,.done)], image0, by decide +kernel⟩,
   ⟨joinsFirst id, msg 7, 2, true, .time 3 1 true false none none none, by decide +kernel⟩,
   ⟨joinsFirst id, msg 7, 1, false, .time 3 1 true false none none none, by decide +kernel⟩,
   ⟨joinsFirst id, msg 7, 5, by decide +kernel⟩⟩

end Time

/-! ## Lanes, votes, ticks -/

namespace Lanes

/-- A module alone whose lane B is changed. -/
def laneB (f : Lane → Lane) : Machine.State := started .alone fun m => m.setLane .B f

/-- The shadow of a running pair. -/
def shadow (f : Mod → Mod) : Machine.State := started .shadow fun m => f
  { m with hall.link := .up, bolt.ownPartner := true, bolt.livePartner := true, pair.partner := some .owner }

/-- An engine whose class has ended. -/
def endedEngine : Eng := {Eng.idle with st := .ended}

/-- An execution that has ended with one output word and one written word. -/
def voteContext (w : W64) : Ctx :=
  {(default : Ctx) with engs := [(0, endedEngine)], obuf := ⟨[],[(8,7)],[],[]⟩, written := [(4, ())], snap := {(default:Snap) with relTick := w.toNat}}

/-- A lane whose class M has ended. -/
def voteLane (w : W64) : Lane := { serving with ctxs := [(0, voteContext w)], inst := [(4, 9)] }

/-- A module alone whose class M has ended in each lane. -/
def votes (a b c : Lane) (f : Mod → Mod) : Machine.State := started .alone fun m => f
  {m with lanes := ⟨a, b, c⟩, bolt.ownSelf := true, sched.runs := [(0, {running := true, relTick := 3})]}

/-- The words a lane gives to the vote. -/
def streamOf (l : Lane) : List W64 := (laneRec image0 l 0 ((tabFind l.ctxs 0).getD default)).1.words

/-- A vote without faults. -/
def noFaults : VoteFaults := ⟨false, [], []⟩

/-- A lane whose class M still runs. -/
def busyLane : Lane :=
  { serving with ctxs := [(0, {voteContext 3 with engs := [(0, {Eng.idle with st := .run})]})], inst := [(4, 9)] }

/-- A module alone with a staged change. -/
def changes (f : Mod → Mod) : Machine.State := started .alone fun m => f
  {m with prog.chgState := .checking, prog.staged := some goodImage, prog.image := some goodImage, prog.cardStaged := true}

theorem witness_LanesStopResyncAndAreTested :
  (∃ (s : State) (l : LaneId), (s.m.lane l).mode = LaneMode.serving ∧ (s.m.lane l).stopped = none)
  ∧ (∃ (s : State) (l : LaneId), (s.m.lane l).dr = [])
  ∧ (∃ (s : State) (l : LaneId) (d : DrEnt) (rest : List DrEnt), (s.m.lane l).dr = d :: rest)
  ∧ (∃ (s : State) (l : LaneId), (s.m.lane l).mode = LaneMode.resync ∧ (s.m.lane l).power = true ∧ ((s.m.lane
      l).phase = RPhase.first ∨ (s.m.lane l).phase = RPhase.converge))
  ∧ (∃ (s : State) (t : Nat) (l : LaneId) (i : Image), s.m.prog.image = some i ∧ (s.m.lane l).mode = LaneMode.resync
      ∧ (s.m.lane l).phase = RPhase.waitEdge ∧ (s.m.sched.tick + 1) % i.kmax = 0 ∧ s.m.cyclicDone = true ∧
      s.m.pair.shadowTiming = false ∧ s.m.prog.go ≠ some (s.m.sched.tick + 1) ∧ (s.m.start t).ltNs + s.m.cyclesNs
      ((s.m.lane l).marked * 128) + 1000 ≤ (s.m.sched.tick + 1) * i.tickNs)
  ∧ (∃ (s : State) (t : Nat) (l : LaneId), (s.m.lane l).mode = LaneMode.resync ∧ (s.m.lane l).outAt + 30000000000 ≤
      max s.m.now t)
  ∧ (∃ s : State, s.m.newel.failed = false)
  ∧ (∃ (s : State) (v0 v1 : Option (LaneId × Nat)) (w : Nat), s.m.newel.failed = false ∧ (v0 ≠ some
      (s.m.newel.katLane, w) ∨ v1 ≠ some (s.m.newel.katLane, w)))
  ∧ (∃ s : State, s.m.pair.role = Role.shadow ∧ s.m.pair.ready = false) :=
  ⟨⟨laneB id, .B, by decide +kernel⟩,
   ⟨laneB id, .B, by decide +kernel⟩,
   ⟨laneB fun l => {l with dr := [⟨1,2,3,4,false⟩,⟨1,2,4,4,false⟩]}, .B, ⟨1,2,3,4,false⟩, [⟨1,2,4,4,false⟩],
     by decide +kernel⟩,
   ⟨laneB fun l => {l with mode := .resync, phase := .first}, .B, by decide +kernel⟩,
   ⟨(laneB fun l => {l with mode := .resync, phase := .waitEdge, marked := 7}) |> fun s => {s with m.sched.tick := 1},
     32000, .B, image0, by decide +kernel⟩,
   ⟨laneB fun l => {l with mode := .resync, phase := .converge, outAt := 5}, 30000000005, .B, by decide +kernel⟩,
   ⟨laneB id, by decide +kernel⟩,
   ⟨started .alone fun m => {m with newel.katLane := .C}, some (.C, 9), some (.C, 8), 9, by decide +kernel⟩,
   ⟨shadow id, by decide +kernel⟩⟩

theorem witness_LanesStopResyncAndAreTested_more :
  (∃ (s : State) (l : LaneId), (s.m.lane l).mode = LaneMode.serving ∧ (s.m.lane l).stopped = none)
  ∧ (∃ (s : State) (l : LaneId), (s.m.lane l).mode = LaneMode.resync ∧ (s.m.lane l).power = true ∧ ((s.m.lane
      l).phase = RPhase.first ∨ (s.m.lane l).phase = RPhase.converge))
  ∧ (∃ (s : State) (v0 v1 : Option (LaneId × Nat)) (w : Nat), s.m.newel.failed = false ∧ (v0 ≠ some
      (s.m.newel.katLane, w) ∨ v1 ≠ some (s.m.newel.katLane, w))) :=
  ⟨⟨laneB id, .C, by decide +kernel⟩,
   ⟨laneB fun l => {l with mode := .resync, phase := .converge, copiedKib := 20480}, .B, by decide +kernel⟩,
   ⟨started .owner fun m => {m with newel.katLane := .C, hall.link := .up, bolt.ownSelf := true}, none, some (.C, 9), 9,
     by decide +kernel⟩⟩

theorem witness_CheckpointsAreVoted :
  (∃ (s : State) (k : Cls) (f : VoteFaults) (i : Image) (ws : List W64), Votes s i ∧ NoFault f ∧ 2 ≤
      s.m.serving.length ∧ (∀ (x : LaneId), x ∈ s.m.serving → Streams s.m i k x ws) ∧ (∀ (x : LaneId), x ∈
      s.m.serving → ∀ (z : Ctx), z ∈ tabFind (s.m.lane x).ctxs k.idx → z.req = []) ∧ s.m.controls = true)
  ∧ (∃ (s : State) (k : Cls) (f : VoteFaults) (i : Image) (good odd : LaneId) (ws ws' : List W64), Votes s i ∧
      NoFault f ∧ good ≠ odd ∧ (∀ (x : LaneId), (s.m.lane x).mode = LaneMode.serving) ∧ (∀ (x : LaneId), x ≠ odd →
      Streams s.m i k x ws) ∧ Streams s.m i k odd ws' ∧ ws' ≠ ws ∧ (∀ (x : LaneId) (z : Ctx), z ∈ tabFind (s.m.lane
      x).ctxs k.idx → z.req = []) ∧ s.m.controls = true)
  ∧ (∃ (s : State) (k : Cls) (f : VoteFaults) (i : Image) (odd : LaneId) (ws : List W64), Votes s i ∧ NoFault f ∧ (∀
      (x : LaneId), (s.m.lane x).mode = LaneMode.serving) ∧ (∀ (x : LaneId), x ≠ odd → Streams s.m i k x ws) ∧
      StillRuns s.m k odd)
  ∧ (∃ (s : State) (k : Cls) (f : VoteFaults) (i : Image) (odd : LaneId) (ws : List W64), Votes s i ∧ NoFault f ∧ (∀
      (x : LaneId), (s.m.lane x).mode = LaneMode.serving) ∧ (∀ (x : LaneId), x ≠ odd → Streams s.m i k x ws) ∧
      StillRuns s.m k odd ∧ (∀ (x : LaneId) (z : Ctx), z ∈ tabFind (s.m.lane x).ctxs k.idx → z.req = []) ∧
      s.m.controls = true)
  ∧ (∃ (s : State) (k : Cls) (f : VoteFaults) (i : Image) (wa wb wc : List W64), Votes s i ∧ NoFault f ∧
      s.m.newel.failed = false ∧ (∀ (x : LaneId), (s.m.lane x).mode = LaneMode.serving) ∧ Streams s.m i k LaneId.A wa
      ∧ Streams s.m i k LaneId.B wb ∧ Streams s.m i k LaneId.C wc ∧ wa ≠ wb ∧ wa ≠ wc ∧ wb ≠ wc)
  ∧ (∃ (s : State) (k : Cls) (f : VoteFaults) (i : Image) (x y : LaneId) (wx wy : List W64), Votes s i ∧ NoFault f ∧
      s.m.newel.failed = false ∧ s.m.serving = [x, y] ∧ Streams s.m i k x wx ∧ Streams s.m i k y wy ∧ wx ≠ wy)
  ∧ (∃ (s : State) (f : VoteFaults) (i : Image), Votes s i ∧ NoFault f ∧ 2 ≤ s.m.serving.length ∧ (∀ (x : LaneId), x
      ∈ s.m.serving → (s.m.lane x).poison = false ∧ (s.m.lane x).stopped = none)) :=
  ⟨⟨votes (voteLane 3) (voteLane 3) (voteLane 3) id, .M, noFaults, image0, streamOf (voteLane 3), by decide +kernel,
     by decide +kernel, by decide +kernel, by intro x; cases x <;> decide +kernel,
     by intro x; cases x <;> decide +kernel, by decide +kernel⟩,
   ⟨votes (voteLane 3) (voteLane 4) (voteLane 3) id, .M, noFaults, image0, .A, .B, streamOf (voteLane 3), streamOf
     (voteLane 4), by decide +kernel, by decide +kernel, by decide +kernel, by intro x; cases x <;> decide +kernel,
     by intro x; cases x <;> decide +kernel, by decide +kernel, by decide +kernel,
     by intro x; cases x <;> decide +kernel, by decide +kernel⟩,
   ⟨votes (voteLane 3) (voteLane 3) busyLane id, .M, noFaults, image0, .C, streamOf (voteLane 3), by decide +kernel,
     by decide +kernel, by intro x; cases x <;> decide +kernel, by intro x; cases x <;> decide +kernel,
     by decide +kernel⟩,
   ⟨votes (voteLane 3) (voteLane 3) busyLane id, .M, noFaults, image0, .C, streamOf (voteLane 3), by decide +kernel,
     by decide +kernel, by intro x; cases x <;> decide +kernel, by intro x; cases x <;> decide +kernel,
     by decide +kernel, by intro x; cases x <;> decide +kernel, by decide +kernel⟩,
   ⟨votes (voteLane 3) (voteLane 5) (voteLane 4) id, .M, noFaults, image0, streamOf (voteLane 3), streamOf (voteLane 5),
     streamOf (voteLane 4), by decide +kernel, by decide +kernel, by decide +kernel,
     by intro x; cases x <;> decide +kernel, by decide +kernel⟩,
   ⟨votes (voteLane 3) {(voteLane 3) with mode := .off} (voteLane 4) id, .M, noFaults, image0, .A, .C, streamOf
     (voteLane 3), streamOf (voteLane 4), by decide +kernel⟩,
   ⟨votes (voteLane 3) (voteLane 3) (voteLane 4) id, noFaults, image0, by decide +kernel, by decide +kernel,
     by decide +kernel, by intro x; cases x <;> decide +kernel⟩⟩

theorem witness_CheckpointsAreVoted_more :
  (∃ (s : State) (k : Cls) (f : VoteFaults) (i : Image) (ws : List W64), Votes s i ∧ NoFault f ∧ 2 ≤
      s.m.serving.length ∧ (∀ (x : LaneId), x ∈ s.m.serving → Streams s.m i k x ws) ∧ (∀ (x : LaneId), x ∈
      s.m.serving → ∀ (z : Ctx), z ∈ tabFind (s.m.lane x).ctxs k.idx → z.req = []) ∧ s.m.controls = true)
  ∧ (∃ (s : State) (k : Cls) (f : VoteFaults) (i : Image) (good odd : LaneId) (ws ws' : List W64), Votes s i ∧
      NoFault f ∧ good ≠ odd ∧ (∀ (x : LaneId), (s.m.lane x).mode = LaneMode.serving) ∧ (∀ (x : LaneId), x ≠ odd →
      Streams s.m i k x ws) ∧ Streams s.m i k odd ws' ∧ ws' ≠ ws ∧ (∀ (x : LaneId) (z : Ctx), z ∈ tabFind (s.m.lane
      x).ctxs k.idx → z.req = []) ∧ s.m.controls = true) :=
  ⟨⟨votes (voteLane 3) {(voteLane 3) with mode := .retired} (voteLane 3) id, .M, noFaults, image0, streamOf (voteLane
     3), by decide +kernel, by decide +kernel, by decide +kernel, by intro x; cases x <;> decide +kernel,
     by intro x; cases x <;> decide +kernel, by decide +kernel⟩,
   ⟨votes (voteLane 3) {(voteLane 4) with moments := [1, 2]} (voteLane 3) id, .M, noFaults, image0, .C, .B, streamOf
     (voteLane 3), streamOf (voteLane 4), by decide +kernel, by decide +kernel, by decide +kernel,
     by intro x; cases x <;> decide +kernel, by intro x; cases x <;> decide +kernel, by decide +kernel,
     by decide +kernel, by intro x; cases x <;> decide +kernel, by decide +kernel⟩⟩

theorem witness_TicksRunInOrder :
  (∃ (s : State) (t : Nat) (i : Image), OwnTick s t i)
  ∧ (∃ (s : State) (t : Nat) (i : Image), s.m.prog.image = some i ∧ s.m.time.begun = true ∧ s.m.sched.running = true
      ∧ s.m.pair.plan.st ≠ PlanState.go ∧ (s.m.start t).ltNs < (s.m.sched.tick + 1) * i.tickNs ∧ (∀ (r : SReq), r ∈
      s.m.savis.reqs → r.cmd = none))
  ∧ (∃ (s : State) (t : Nat) (i : Image), s.m.prog.image = some i ∧ s.m.sched.running = true ∧ s.m.pantry.complete =
      false ∧ s.m.pair.shadowTiming = false ∧ s.m.sched.tick * i.tickNs + 600 ≤ (s.m.start t).ltNs)
  ∧ (∃ (s : State) (k : Cls) (i : Image) (x : LaneId) (rest : List Nat), s.m.prog.image = some i ∧ s.m.leader = some
      x ∧ k.idx < 6 ∧ s.m.sched.toCopy = k.idx :: rest) :=
  ⟨⟨started .alone fun m => {m with bolt.ownSelf := true, sched.tick := 3}, 125000, image0, by decide +kernel⟩,
   ⟨started .alone id, 31249, image0, by decide +kernel⟩,
   ⟨started .alone fun m => {m with sched.tick := 1, prog.frozen.releases := [0, 3, 1]}, 31850, image0,
     by decide +kernel⟩,
   ⟨started .alone fun m =>
     {m with sched.toCopy := [0, 1], sched.runs := [(0, {relTick := 5, clk := 6, first := true})]}, .M, image0, .A,
     [1], by decide +kernel⟩⟩

theorem witness_TicksRunInOrder_more :
  (∃ (s : State) (t : Nat) (i : Image), OwnTick s t i)
  ∧ (∃ (s : State) (t : Nat) (i : Image), OwnTick s t i)
  ∧ (∃ (s : State) (t : Nat) (i : Image), s.m.prog.image = some i ∧ s.m.sched.running = true ∧ s.m.pantry.complete =
      false ∧ s.m.pair.shadowTiming = false ∧ s.m.sched.tick * i.tickNs + 600 ≤ (s.m.start t).ltNs)
  ∧ (∃ (s : State) (k : Cls) (i : Image) (x : LaneId) (rest : List Nat), s.m.prog.image = some i ∧ s.m.leader = some
      x ∧ k.idx < 6 ∧ s.m.sched.toCopy = k.idx :: rest) :=
  ⟨⟨started .owner fun m =>
     {m with sched.tick := 4, hall.link := .up, sched.runs := [(0,{running := true})], prog.image := some goodImage},
     9000000, goodImage, by decide +kernel⟩,
   ⟨started .alone fun m => {m with bolt.ownSelf := true, sched.tick := 3, prog.awaitFirst := true}, 125000, image0,
     by decide +kernel⟩,
   ⟨started .alone fun m =>
     {m with sched.tick := 1, prog.frozen.releases := [0, 3, 1], sched.runs := [(1, {held := some default}), (0, {held := some default})], pantry.out0.imgOut := [(4,4)]},
     31850, image0, by decide +kernel⟩,
   ⟨started .alone fun m => {m with sched.toCopy := [5], sched.runs := [(5, {relTick := 5, clk := 6, first := true})]},
     .B, image0, .A, [], by decide +kernel⟩⟩

theorem witness_HaltsKeysAndChangesProceed :
  (∃ s : State, s.m.test.halting = true ∧ s.m.haltReached = true)
  ∧ (∃ s : State, s.m.test.halting = true ∧ s.m.haltReached = false)
  ∧ (∃ (s : State) (b : Nat) (k : Brk) (n : Nat), s.m.test.dbgOpen = some n ∧ tabFind s.m.test.breaks b = some k ∧
      s.m.test.halting = false ∧ s.m.test.halted = false ∧ s.m.leadsAt k.eng k.pc = true)
  ∧ (∃ s : State, s.m.hall.link ≠ Link4.up)
  ∧ (∃ (s : State) (pos : KeyPos), s.m.hall.link = Link4.up ∧ s.m.pair.partner ≠ none ∧ pos ≠ s.m.pair.partnerKey)
  ∧ (∃ (s : State) (img : Image), s.m.prog.chgState = ChgState.checking ∧ s.m.prog.staged = some img ∧ s.m.verdictsIn
      = true ∧ s.m.mayStage = true ∧ s.m.prog.cardStaged = true)
  ∧ (∃ (s : State) (img : Image), s.m.prog.chgState = ChgState.checking ∧ s.m.prog.staged = some img ∧ s.m.mayStage =
      false)
  ∧ (∃ (s : State) (old new : Image), s.m.prog.go = some (s.m.sched.tick + 1) ∧ s.m.prog.remapped = false ∧
      s.m.cyclicDone = true ∧ s.m.prog.image = some old ∧ s.m.prog.staged = some new)
  ∧ (∃ (s : State) (t : Nat), s.m.prog.chgState = ChgState.staged ∧ s.m.prog.go = none ∧ s.m.prog.chgSince +
      30000000000 ≤ max s.m.now t) :=
  ⟨⟨started .alone fun m => {m with test.halting := true, test.dbgOpen := some 1}, by decide +kernel⟩,
   ⟨(runs [opWord 0 0 0 0] id id id memory1 |> fun s => {s with m.test.halting := true, m.test.targets := [(1,4)]}),
     by decide +kernel⟩,
   ⟨(runs [opWord 0 0 0 0] id id id memory1 |> fun s =>
     {s with m.test.dbgOpen := some 3, m.test.breaks := [(5,⟨1,2⟩)]}), 5, ⟨1,2⟩, 3, by decide +kernel⟩,
   ⟨started .alone id, by decide +kernel⟩,
   ⟨shadow fun m => {m with pair.partnerKey := .run}, .service, by decide +kernel⟩,
   ⟨changes id, goodImage, by decide +kernel⟩,
   ⟨changes fun m => {m with lanes.c.mode := .resync}, goodImage, by decide +kernel⟩,
   ⟨changes fun m => {m with prog.go := some 1, prog.chgState := .staged, lanes.a.inst := [(8, 5),(3,7)]}, goodImage,
     goodImage, by decide +kernel⟩,
   ⟨changes fun m => {m with prog.chgState := .staged, prog.chgSince := 9}, 30000000009, by decide +kernel⟩⟩

theorem witness_HaltsKeysAndChangesProceed_more :
  ∃ s : State, s.m.test.halting = true ∧ s.m.haltReached = true :=
  ⟨started .alone fun m =>
     {m with test.halting := true, test.dbgOpen := some 1, lanes.b.mode := .retired, test.haltKey := some (1,2)},
     by decide +kernel⟩

theorem witness_AccessesAreChecked :
  (∃ (s : State) (t n : Nat) (ty : AccType) (a len : Nat), isMaster n = true ∧ 48 ≤ n ∧ (s.m.start t).checkAccess n
      ty a len = none)
  ∧ (∃ (s : State) (i : Image), s.m.prog.image = some i ∧ s.m.access.sealed = false)
  ∧ (∃ (s : State) (n : Nat), isMaster n = true ∧ masterLane n = none ∧ ¬n ∈ s.m.access.tableErr)
  ∧ (∃ (s : State) (n : Nat) (x : LaneId), isMaster n = true ∧ masterLane n = some x ∧ n ∈ s.m.access.tableErr ∧
      (s.m.lane x).inService = true)
  ∧ (∃ (s : State) (t n : Nat) (ty : AccType) (a len cause : Nat), isMaster n = true ∧ 48 ≤ n ∧ masterLane n = none ∧
      n ≠ 59 ∧ (s.m.start t).checkAccess n ty a len = some cause ∧ BitVec.getLsbD s.m.access.viol 31 = false)
  ∧ (∃ (s : State) (t n : Nat) (ty : AccType) (a len cause : Nat), isMaster n = true ∧ 48 ≤ n ∧ masterLane n = none ∧
      n ≠ 59 ∧ (s.m.start t).checkAccess n ty a len = some cause ∧ BitVec.getLsbD s.m.access.viol 31 = true) :=
  ⟨⟨started .alone id, 5000, 0x33, .r, 0x20000000, 8, by decide +kernel⟩,
   ⟨started .alone id, image0, by decide +kernel⟩,
   ⟨started .alone id, 0x33, by decide +kernel⟩,
   ⟨started .alone fun m => {m with access.tableErr := [0x31]}, 0x31, .B, by decide +kernel⟩,
   ⟨started .alone fun m => {m with sched.tick := 70}, 5000, 0x3A, .w, 0x40000000, 8, 33, by decide +kernel⟩,
   ⟨started .alone fun m => {m with access.viol := 0x80000000}, 5000, 0x3A, .w, 0x40000000, 8, 33, by decide +kernel⟩⟩

end Lanes

/-! ## Roles -/

namespace Roles

/-- The shadow of a pair. -/
def shadow (f : Mod → Mod) : Machine.State := coldly fun m => f (inRole .shadow
  { m with bolt := { m.bolt with ownPartner := true, livePartner := true, permit := true, liveSelf := true, bistLatch := true }, pair := { m.pair with ready := true } })

/-- An owner whose last output of tick 1 is due. -/
def lastOut : Machine.State := started .owner fun m =>
  {m with pair := {m.pair with pfl := 2, shadowTiming := true, plan := {m.pair.plan with st := .go, tick := some 1}}, bolt := {m.bolt with ownSelf := true}}

theorem witness_PartnerLinesChangeRoles :
  (∃ s : State, s.m.bolt.ownPartner = true ∧ s.m.pair.role = Role.shadow ∧ s.m.pair.ready = true ∧ s.m.pair.plan.st ≠
      PlanState.go)
  ∧ (∃ s : State, s.m.bolt.ownPartner = true ∧ (s.m.pair.role = Role.joining ∨ s.m.pair.role = Role.shadow ∧
      s.m.pair.ready = false))
  ∧ (∃ s : State, s.m.bolt.ownPartner = true ∧ s.m.pair.role ≠ Role.shadow ∧ s.m.pair.role ≠ Role.joining)
  ∧ (∃ (s : State) (t r : Nat), s.m.bolt.side = true ∧ s.m.bolt.ownSelf = true ∧ s.m.bolt.raisedAt = some r ∧ max
      s.m.now t ≤ r + 2000)
  ∧ (∃ s : State, (s.m.bolt.side = false ∨ s.m.bolt.ownSelf = false))
  ∧ (∃ s : State, s.m.bolt.livePartner = false)
  ∧ (∃ s : State, s.m.bolt.livePartner = true)
  ∧ (∃ (s : State) (t : Nat), s.m.bolt.livePartner = true ∧ s.m.hall.lastRx + 1000000 ≤ max s.m.now t ∧ s.m.pair.role
      = Role.owner)
  ∧ (∃ (s : State) (t : Nat), s.m.bolt.livePartner = true ∧ s.m.hall.lastRx + 1000000 ≤ max s.m.now t ∧
      (s.m.pair.role = Role.joining ∨ s.m.pair.role = Role.shadow ∧ s.m.pair.decider = false))
  ∧ (∃ (s : State) (t : Nat), s.m.bolt.ownPartner = true ∧ s.m.bolt.livePartner = false ∧ s.m.bolt.liveLast + 5000 ≤
      max s.m.now t) :=
  ⟨⟨shadow id, by decide +kernel⟩,
   ⟨shadow fun m => {m with pair := {m.pair with ready := false}}, by decide +kernel⟩,
   ⟨shadow fun m => {m with pair := {m.pair with role := .owner}}, by decide +kernel⟩,
   ⟨aloneRaw fun m => {m with bolt := {m.bolt with side := true, raisedAt := some 10}}, 2010, 10, by decide +kernel⟩,
   ⟨aloneRaw id, by decide +kernel⟩,
   ⟨aloneRaw id, by decide +kernel⟩,
   ⟨shadow fun m => {m with pair := {m.pair with role := .owner}}, by decide +kernel⟩,
   ⟨shadow fun m => {m with pair := {m.pair with role := .owner}}, 1000000, by decide +kernel⟩,
   ⟨shadow id, 1000000, by decide +kernel⟩,
   ⟨shadow fun m => {m with bolt := {m.bolt with livePartner := false}}, 5000, by decide +kernel⟩⟩

theorem witness_PartnerLinesChangeRoles_more :
  ∃ s : State, s.m.bolt.ownPartner = true ∧ (s.m.pair.role = Role.joining ∨ s.m.pair.role = Role.shadow ∧
      s.m.pair.ready = false) :=
  ⟨shadow fun m => {m with pair := {m.pair with role := .joining}}, by decide +kernel⟩

theorem witness_OwnLinesFollowThePermit :
  (∃ (s : State) (t : Nat), s.m.bolt.permit = true ∧ s.m.bolt.lastStroke ≠ 0 ∧ s.m.bolt.lastStroke + 16000 ≤ max
      s.m.now t)
  ∧ (∃ (s : State) (t : Nat), s.m.bolt.permit = true ∧ s.m.bolt.lastStroke ≠ 0 ∧ max s.m.now t < s.m.bolt.lastStroke
      + 16000 ∧ (s.m.start t).lsuLate = false)
  ∧ (∃ s : State, s.m.bolt.liveSelf = false)
  ∧ (∃ (s : State) (t : Nat), MayRaise s.m (max s.m.now t))
  ∧ (∃ (s : State) (t : Nat), ¬MayRaise s.m (max s.m.now t)) :=
  ⟨⟨aloneRaw fun m => {m with bolt := {m.bolt with lastStroke := 1}}, 16001, by decide +kernel⟩,
   ⟨aloneRaw fun m => {m with bolt := {m.bolt with lastStroke := 1}}, 16000, by decide +kernel⟩,
   ⟨outside fun m => {m with bolt := {m.bolt with liveSelf := false}}, by decide +kernel⟩,
   ⟨started .alone id, 2000, by decide +kernel⟩,
   ⟨started .alone id, 1999, by decide +kernel⟩⟩

theorem witness_OwnLinesFollowThePermit_more :
  (∃ (s : State) (t : Nat), MayRaise s.m (max s.m.now t))
  ∧ (∃ (s : State) (t : Nat), ¬MayRaise s.m (max s.m.now t)) :=
  ⟨⟨started .shadow fun m =>
     {m with bolt := {m.bolt with armed := true}, pair := {m.pair with plan := {m.pair.plan with st := .go}}}, 2000,
     by decide +kernel⟩,
   ⟨outside id, 1999, by decide +kernel⟩⟩

theorem witness_StartRuleGivesARole :
  (∃ (s : State) (t : Nat) (i : Image), s.m.power.boot = Boot.started ∧ (s.m.start t).mayStart = true ∧
      s.m.bolt.ownPartner = false ∧ s.m.bolt.livePartner = false ∧ max s.m.power.startedAt s.m.bolt.liveLast +
      2000000000 ≤ max s.m.now t ∧ s.m.prog.image = some i)
  ∧ (∃ (s : State) (t : Nat), s.m.power.boot = Boot.started ∧ (s.m.start t).mayStart = true ∧ s.m.bolt.ownPartner =
      false ∧ s.m.bolt.livePartner = false ∧ max s.m.power.startedAt s.m.bolt.liveLast + 2000000000 ≤ max s.m.now t ∧
      s.m.prog.image = none)
  ∧ (∃ (s : State) (t : Nat) (h : Hello) (i : Image), s.m.power.boot = Boot.started ∧ (s.m.start t).mayStart = true ∧
      s.m.bolt.ownPartner = true ∧ s.m.hall.link = Link4.up ∧ (s.m.pair.partner = some Role.owner ∨ s.m.pair.partner
      = some Role.alone) ∧ s.m.hall.hofNow ≠ 0 ∧ s.m.hall.partner = some h ∧ s.m.prog.image = some i ∧ h.digest =
      i.digest)
  ∧ (∃ (s : State) (t : Nat), s.m.power.boot = Boot.started ∧ (s.m.start t).mayStart = true ∧ s.m.bolt.ownPartner =
      true ∧ s.m.hall.link = Link4.up ∧ s.m.pair.partner = some Role.owner ∧ s.m.hall.hofNow = 0)
  ∧ (∃ (s : State) (t : Nat) (i : Image) (a : Agree), s.m.power.boot = Boot.started ∧ (s.m.start t).mayStart = true ∧
      s.m.bolt.ownPartner = false ∧ s.m.bolt.livePartner = true ∧ s.m.hall.link = Link4.up ∧ s.m.hall.agree = some a
      ∧ s.m.prog.image = some i ∧ a.winner = s.m.side)
  ∧ (∃ (s : State) (t : Nat) (i : Image) (a : Agree), s.m.power.boot = Boot.started ∧ (s.m.start t).mayStart = true ∧
      s.m.bolt.ownPartner = false ∧ s.m.bolt.livePartner = true ∧ s.m.hall.link = Link4.up ∧ s.m.hall.agree = some a
      ∧ s.m.prog.image = some i ∧ a.winner = 2)
  ∧ (∃ (s : State) (t u : Nat), s.m.power.boot = Boot.started ∧ (s.m.start t).mayStart = true ∧ s.m.bolt.ownPartner =
      false ∧ s.m.bolt.livePartner = true ∧ s.m.hall.link ≠ Link4.up ∧ s.m.bolt.liveSeen = some u ∧ max s.m.now t < u
      + 10000000000)
  ∧ (∃ (s : State) (t : Nat), s.m.power.boot = Boot.started ∧ (s.m.start t).mayStart = false)
  ∧ (∃ (s : State) (t e : Nat) (i : Image), s.m.hall.endedAt = some e ∧ s.m.pair.role = Role.out ∧ e + 10000000000 ≤
      max s.m.now t ∧ s.m.bolt.permit = true ∧ s.m.bolt.ownStuck = false ∧ s.m.newel.failed = false ∧
      s.m.pair.outCause = 17 ∧ 2 ≤ s.m.servingCount ∧ s.m.bolt.ownPartner = false ∧ s.m.bolt.livePartner = false ∧
      max s.m.power.startedAt s.m.bolt.liveLast + 2000000000 ≤ max s.m.now t ∧ s.m.prog.image = some i) :=
  ⟨⟨outside id, 2000000000, image0, by decide +kernel⟩,
   ⟨outside fun m => {m with prog := {m.prog with image := none}}, 2000000000, by decide +kernel⟩,
   ⟨outside fun m =>
     {m with bolt := {m.bolt with ownPartner := true}, hall := {m.hall with link := .up, hofNow := 1, partner := some hello0}, pair := {m.pair with partner := some .alone}},
     5, hello0, image0, by decide +kernel⟩,
   ⟨outside fun m =>
     {m with bolt := {m.bolt with ownPartner := true}, hall := {m.hall with link := .up}, pair := {m.pair with partner := some .owner}},
     5, by decide +kernel⟩,
   ⟨outside fun m =>
     {m with bolt := {m.bolt with livePartner := true}, hall := {m.hall with link := .up, agree := some ⟨1,1,0,0,0⟩}},
     5, image0, ⟨1,1,0,0,0⟩, by decide +kernel⟩,
   ⟨outside fun m =>
     {m with bolt := {m.bolt with livePartner := true}, hall := {m.hall with link := .up, agree := some ⟨1,1,0,2,0⟩}},
     5, image0, ⟨1,1,0,2,0⟩, by decide +kernel⟩,
   ⟨outside fun m => {m with bolt := {m.bolt with livePartner := true, liveSeen := some 7}}, 10000000006, 7,
     by decide +kernel⟩,
   ⟨started .alone id, 10000000006, by decide +kernel⟩,
   ⟨outside fun m => {m with pair := {m.pair with outCause := 0x11}, hall := {m.hall with endedAt := some 0}},
     10000000000, 0, image0, by decide +kernel⟩⟩

theorem witness_SwitchoversAndJoinsProceed :
  (∃ (s : State) (t h : Nat), s.m.pair.holdSince = some h ∧ s.m.pair.role = Role.shadow ∧ h + s.m.tickNs ≤ max
      s.m.now t ∧ s.m.bolt.ownPartner = true)
  ∧ (∃ (s : State) (t : Nat) (i : Image), s.m.prog.image = some i ∧ s.m.pair.role = Role.shadow ∧ s.m.pair.decider =
      false ∧ (s.m.start t).genComplete (s.m.sched.tick + 1) = false ∧ s.m.edgeAt i (s.m.sched.tick + 1) + 20000 ≤
      (s.m.start t).ltNs ∧ s.m.pair.ready = true ∧ s.m.pair.holdSince = none)
  ∧ (∃ (s : State) (t : Nat) (i : Image), s.m.prog.image = some i ∧ s.m.pair.role = Role.shadow ∧ s.m.pair.decider =
      false ∧ (s.m.start t).genComplete (s.m.sched.tick + 1) = false ∧ s.m.edgeAt i (s.m.sched.tick + 1) + 20000 ≤
      (s.m.start t).ltNs ∧ s.m.pair.ready = false)
  ∧ (∃ (s : State) (t : Nat), s.m.pair.plan.st = PlanState.waiting ∧ s.m.pair.plan.since + 30000000000 ≤ max s.m.now
      t)
  ∧ (∃ (s : State) (i : Image), s.m.prog.image = some i ∧ s.m.joinSends = true ∧ (∀ (l : LaneId), (s.m.lane l).mode ≠
      LaneMode.resync))
  ∧ (∃ (s : State) (l : LaneId), (s.m.lane l).mode = LaneMode.resync)
  ∧ (∃ (s : State) (t tEnd : Nat) (i : Image), s.m.prog.image = some i ∧ s.m.hall.sender = true ∧ s.m.hall.join =
      JPhase.wait ∧ (∀ (l : LaneId), (s.m.lane l).mode ≠ LaneMode.resync) ∧ (s.m.sched.tick + 1) % i.kmax = 0 ∧
      s.m.tickWorkDone = true ∧ s.m.sched.tick * i.tickNs + tEnd ≤ (s.m.start t).ltNs ∧ s.m.finalFits i
      s.m.hall.marked tEnd = true)
  ∧ (∃ (s : State) (t u : Nat), s.m.hall.openAt = some u ∧ s.m.hall.join ≠ JPhase.none ∧ s.m.hall.join ≠
      JPhase.compare ∧ u + 60000000000 ≤ max s.m.now t)
  ∧ (∃ (s : State) (t : Nat) (i : Image) (sw u : Nat), s.m.prog.image = some i ∧ s.m.pair.plan.tick = some sw ∧
      s.m.pair.plan.st = PlanState.go ∧ s.m.pair.role = Role.owner ∧ s.m.pair.shadowTiming = true ∧ 2 ≤ s.m.pair.pfl
      ∧ s.m.test.dbgOpen = none ∧ (s.m.start t).outLast i sw = some u ∧ u + 500 ≤ (s.m.start t).ltNs)
  ∧ (∃ (s : State) (t : Nat) (i : Image) (sw u : Nat), s.m.prog.image = some i ∧ s.m.pair.plan.tick = some sw ∧
      (s.m.start t).outLast i sw = some u ∧ (s.m.start t).ltNs < u + 500) :=
  ⟨⟨started .shadow fun m =>
     {m with pair := {m.pair with holdSince := some 3, ready := true}, bolt := {m.bolt with ownPartner := true}},
     31253, 3, by decide +kernel⟩,
   ⟨started .shadow fun m => {m with pair := {m.pair with ready := true}}, 31250+20000, image0, by decide +kernel⟩,
   ⟨started .shadow id, 31250+20000, image0, by decide +kernel⟩,
   ⟨started .owner fun m => {m with pair := {m.pair with plan := {m.pair.plan with st := .waiting}}}, 30000000000,
     by decide +kernel⟩,
   ⟨started .owner fun m => {m with hall := {m.hall with sender := true, join := .wait}}, image0, by decide +kernel,
     by decide +kernel, by intro x; cases x <;> decide +kernel⟩,
   ⟨started .owner fun m =>
     {m with hall := {m.hall with sender := true, join := .first}, lanes := {m.lanes with a := {serving with mode := .resync}}},
     .A, by decide +kernel⟩,
   ⟨started .owner fun m =>
     {m with hall := {m.hall with sender := true, join := .wait, link := .up, hl0 := true, hl1 := true, fmt := 1}, sched := {m.sched with tick := 1}},
     31250+40, 40, image0, by decide +kernel, by decide +kernel, by decide +kernel,
     by intro x; cases x <;> decide +kernel, by decide +kernel⟩,
   ⟨started .owner fun m => {m with hall := {m.hall with sender := true, join := .wait, openAt := some 3}}, 60000000003,
     3, by decide +kernel⟩,
   ⟨lastOut, 31750, image0, 1, 31250, by decide +kernel⟩,
   ⟨lastOut, 31749, image0, 1, 31250, by decide +kernel⟩⟩

theorem witness_SwitchoversAndJoinsProceed_more :
  (∃ (s : State) (i : Image), s.m.prog.image = some i ∧ s.m.joinSends = true ∧ (∀ (l : LaneId), (s.m.lane l).mode ≠
      LaneMode.resync))
  ∧ (∃ (s : State) (t u : Nat), s.m.hall.openAt = some u ∧ s.m.hall.join ≠ JPhase.none ∧ s.m.hall.join ≠
      JPhase.compare ∧ u + 60000000000 ≤ max s.m.now t) :=
  ⟨⟨started .owner fun m => {m with hall := {m.hall with sender := true, join := .first}}, image0, by decide +kernel,
     by decide +kernel, by intro x; cases x <;> decide +kernel⟩,
   ⟨started .joining fun m => {m with hall := {m.hall with sender := false, join := .first, openAt := some 3}},
     60000000003, 3, by decide +kernel⟩⟩

end Roles

/-! ## Stations -/

namespace Stations

/-- The group address of domain 1. -/
def groupOf (n : Nat) : BitVec 48 := groupAddr 1 n (n = 1)

/-- A frame of station 1 before its end-to-end check is set. -/
def plainFrame (ty : Nat) : Frame :=
  { (default : Frame) with
    fcsOk := true, etype := 0x88B5, dst := groupOf 0, type := ty, addr := stnAddr 1, ver := 1,
    payload := [1,2,3,4,0,6,7,8,9,10,11,12], len := 12, epoch := 7, tick := 1 }

/-- A frame of station 1, changed, with its end-to-end check. -/
def frameOf (ty : Nat) (f : Frame → Frame) : Frame :=
  { f (plainFrame ty) with e2e := (f (plainFrame ty)).e2eOf }

/-- A module alone that knows station 1. -/
def heldStation (f : Mod → Mod) : Machine.State := started .alone fun m => f
  { m with bolt.ownSelf := true, pair.epoch := 7, pantry.stns := [(1, {ver := 1, dropped := false, path := .own, lastSeq := some 5})] }

/-- Station 1 changed. -/
def stn1 (f : Stn → Stn) (m : Mod) : Mod := m.setStn 1 f

/-- A frame first in the ring of port 0. -/
def received (f : Frame) (m : Mod) : Mod := m.setPort 0 fun p =>
  {p with ring := [⟨f, 500, false⟩, ⟨default, 3, true⟩]}

/-- What stands behind it. -/
def rest0 : List RxEnt := [⟨default, 3, true⟩]

/-- The ring entry of a frame. -/
def entryOf (f : Frame) : RxEnt := ⟨f, 500, false⟩

/-- A cyclic frame in sequence. -/
def cyclic : Frame := frameOf 2 fun f => {f with seq := 6}

/-- A module that has received a frame of a type. -/
def receives (ty : Nat) (f : Frame → Frame) : Machine.State := heldStation (received (frameOf ty f))

/-- A cyclic frame of an old tick. -/
def late : Frame := frameOf 2 fun f => {f with seq := 6, tick := 0}

/-- A PEER configuration. -/
def peerCfg : PeerCfg := ⟨0, 4, [⟨3, 4, 64⟩]⟩

/-- The image with it. -/
def peerImage : Image := {image0 with peer := some peerCfg}

/-- A PEER frame. -/
def peerFrame (f : Frame → Frame) : Frame := frameOf 9 fun x => f
  {x with dst := groupOf 1, payload := [3,0,2,0,9,8], len := 6, tick := 77}

/-- A module that received a PEER frame. -/
def peerReceives (t : Nat) (f : Frame → Frame) : Machine.State := heldStation fun m =>
  {m with prog.image := some peerImage, pantry.ports := [(1, {Port.zero with ring := [⟨peerFrame f, t, false⟩]})]}

/-- An ANNOUNCE frame. -/
def announce (l : List Byte) : Frame := frameOf 6 fun f => {f with payload := l, len := l.length}

/-- Its body. -/
def announceBody : List Byte := [1, 3, 0, 0, 7, 0, 0, 0, 0, 0, 0, 0, 4, 0, 4, 0] ++ List.replicate 16 0

/-- A module that received an ANNOUNCE frame. -/
def hears (b : List Byte) : Machine.State := heldStation fun m => received (announce b) {m with pantry.stns := []}

/-- A READY frame. -/
def readyFrame (b : Byte) : Frame := frameOf 8 fun f => {f with payload := [b, 0, 0, 0], len := 4, seq := 6}

/-- A module that received it, its station in a state. -/
def hearsReady (b : Byte) (coldly : TspState) : Machine.State := heldStation fun m => received (readyFrame b) (stn1
  (fun z => {z with state := coldly, sends := 2}) m)

/-- An item of class 1. -/
def item9 (f : Item → Item) : Item := f { reqId := 9, cls := some 1, timeoutMs := 20 }

/-- The owner of a running pair. -/
def ownerOf (f : Mod → Mod) : Machine.State := heldStation fun m => f
  {m with pair.role := .owner, pair.partner := some .shadow, hall.link := .up, bolt.livePartner := true}

/-- An item that was sent at 5. -/
def flying (f : Item → Item) : Item := item9 fun i => f {i with firstSend := some 5, lastSend := some 5}

/-- A response with a status. -/
def response (b : Byte) : Frame := frameOf 4 fun f => {f with payload := [9, 0, 0, 0, b, 0, 0, 0], len := 8, seq := 6}

/-- A module that received it. -/
def hearsResponse (b : Byte) (f : Item → Item) : Machine.State := heldStation fun m => received (response b) (stn1
  (fun z => {z with state := .run, flight := some (flying f)}) m)

theorem witness_FramesAreCheckedInOrder :
  (∃ (s : State) (port : Nat) (f : Frame), s.m.portRole port ≠ PortRole.unused ∧ f.fcsOk = false)
  ∧ (∃ (s : State) (port : Nat) (f : Frame), s.m.portRole port ≠ PortRole.unused ∧ f.fcsOk = true ∧ f.etype ≠ 35063 ∧
      (f.vlan = true ∨ f.etype ≠ s.m.etype ∨ f.dst ≠ groupAddr s.m.domain port (decide (s.m.portRole port =
      PortRole.peer))))
  ∧ (∃ (s : State) (port : Nat) (f : Frame), s.m.portRole port = PortRole.segment ∧ f.fcsOk = true ∧ f.etype ≠ 35063
      ∧ f.vlan = false ∧ f.etype = s.m.etype ∧ f.dst = groupAddr s.m.domain port false ∧ s.m.controls = true ∧
      (f.type = 2 ∨ f.type = 4 ∨ f.type = 6 ∨ f.type = 8) ∧ (s.m.port port).ring.length < 512)
  ∧ (∃ (s : State) (port : Nat) (f : Frame), s.m.portRole port = PortRole.segment ∧ f.fcsOk = true ∧ f.etype ≠ 35063
      ∧ f.vlan = false ∧ f.etype = s.m.etype ∧ f.dst = groupAddr s.m.domain port false ∧ s.m.controls = true ∧
      (f.type = 2 ∨ f.type = 4 ∨ f.type = 6 ∨ f.type = 8) ∧ 512 ≤ (s.m.port port).ring.length)
  ∧ (∃ (s : State) (port : Nat) (f : Frame), s.m.portRole port = PortRole.segment ∧ f.fcsOk = true ∧ f.etype ≠ 35063
      ∧ f.vlan = false ∧ f.etype = s.m.etype ∧ f.dst = groupAddr s.m.domain port false ∧ s.m.controls = true ∧ f.type
      = 9)
  ∧ (∃ (s : State) (port : Nat) (e : RxEnt) (rest : List RxEnt) (r : StationRec), Front s port 2 e rest ∧ From s port
      e.frame r ∧ e.frame.ver ≠ (s.m.stn r.station).ver)
  ∧ (∃ (s : State) (port : Nat) (e : RxEnt) (rest : List RxEnt) (r : StationRec), Front s port 2 e rest ∧ From s port
      e.frame r ∧ e.frame.ver = (s.m.stn r.station).ver ∧ e.frame.len ≠ 8 + r.inLen)
  ∧ (∃ (s : State) (port : Nat) (e : RxEnt) (rest : List RxEnt) (r : StationRec), Front s port 2 e rest ∧ From s port
      e.frame r ∧ e.frame.ver = (s.m.stn r.station).ver ∧ e.frame.len = 8 + r.inLen ∧ e.frame.len =
      e.frame.payload.length ∧ e.frame.len ≤ 1482 ∧ e.frame.e2e ≠ e.frame.e2eOf)
  ∧ (∃ (s : State) (port : Nat) (e : RxEnt) (rest : List RxEnt) (r : StationRec), Front s port 2 e rest ∧ From s port
      e.frame r ∧ Shaped s e.frame r ∧ ¬EpochOk s e.frame)
  ∧ (∃ (s : State) (port : Nat) (e : RxEnt) (rest : List RxEnt) (r : StationRec), Front s port 2 e rest ∧ From s port
      e.frame r ∧ Shaped s e.frame r ∧ EpochOk s e.frame ∧ ¬SeqOk s e.frame r)
  ∧ (∃ (s : State) (port : Nat) (e : RxEnt) (rest : List RxEnt), Front s port 2 e rest ∧ s.m.frameStn port e.frame =
      none ∧ 1 ≤ e.frame.ver ∧ e.frame.ver ≤ 3 ∧ e.frame.len = e.frame.payload.length ∧ e.frame.len ≤ 1482 ∧
      e.frame.e2e = e.frame.e2eOf) :=
  ⟨⟨heldStation id, 0, {cyclic with fcsOk := false}, by decide +kernel⟩,
   ⟨heldStation id, 0, {cyclic with vlan := true}, by decide +kernel⟩,
   ⟨heldStation id, 0, cyclic, by decide +kernel⟩,
   ⟨heldStation (fun m => m.setPort 0 fun p => {p with ring := List.replicate 512 (entryOf cyclic)}), 0, cyclic,
     by decide +kernel⟩,
   ⟨heldStation id, 0, frameOf 9 id, by decide +kernel⟩,
   ⟨heldStation (received (frameOf 2 fun f => {f with ver := 2})), 0, entryOf (frameOf 2 fun f => {f with ver := 2}),
     rest0, station1, by decide +kernel⟩,
   ⟨heldStation (received (frameOf 2 fun f => {f with len := 11})), 0, entryOf (frameOf 2 fun f => {f with len := 11}),
     rest0, station1, by decide +kernel⟩,
   ⟨heldStation (received {cyclic with e2e := 0}), 0, entryOf {cyclic with e2e := 0}, rest0, station1, by decide +kernel⟩,
   ⟨heldStation (received (frameOf 2 fun f => {f with epoch := 8})), 0, entryOf (frameOf 2 fun f =>
     {f with epoch := 8}), rest0, station1, by decide +kernel⟩,
   ⟨heldStation (received (frameOf 2 fun f => {f with seq := 4})), 0, entryOf (frameOf 2 fun f => {f with seq := 4}),
     rest0, station1, by decide +kernel⟩,
   ⟨heldStation (received (frameOf 2 fun f => {f with addr := stnAddr 2})), 0, entryOf (frameOf 2 fun f =>
     {f with addr := stnAddr 2}), rest0, by decide +kernel⟩⟩

theorem witness_FramesAreCheckedInOrder_more :
  (∃ (s : State) (port : Nat) (f : Frame), s.m.portRole port ≠ PortRole.unused ∧ f.fcsOk = true ∧ f.etype ≠ 35063 ∧
      (f.vlan = true ∨ f.etype ≠ s.m.etype ∨ f.dst ≠ groupAddr s.m.domain port (decide (s.m.portRole port =
      PortRole.peer))))
  ∧ (∃ (s : State) (port : Nat) (f : Frame), s.m.portRole port ≠ PortRole.unused ∧ f.fcsOk = true ∧ f.etype ≠ 35063 ∧
      (f.vlan = true ∨ f.etype ≠ s.m.etype ∨ f.dst ≠ groupAddr s.m.domain port (decide (s.m.portRole port =
      PortRole.peer))))
  ∧ (∃ (s : State) (port : Nat) (f : Frame), s.m.portRole port = PortRole.segment ∧ f.fcsOk = true ∧ f.etype ≠ 35063
      ∧ f.vlan = false ∧ f.etype = s.m.etype ∧ f.dst = groupAddr s.m.domain port false ∧ s.m.controls = true ∧
      (f.type = 2 ∨ f.type = 4 ∨ f.type = 6 ∨ f.type = 8) ∧ (s.m.port port).ring.length < 512)
  ∧ (∃ (s : State) (port : Nat) (e : RxEnt) (rest : List RxEnt) (r : StationRec), Front s port 2 e rest ∧ From s port
      e.frame r ∧ Shaped s e.frame r ∧ ¬EpochOk s e.frame)
  ∧ (∃ (s : State) (port : Nat) (e : RxEnt) (rest : List RxEnt) (r : StationRec), Front s port 2 e rest ∧ From s port
      e.frame r ∧ Shaped s e.frame r ∧ EpochOk s e.frame ∧ ¬SeqOk s e.frame r)
  ∧ (∃ (s : State) (port : Nat) (e : RxEnt) (rest : List RxEnt), Front s port 2 e rest ∧ s.m.frameStn port e.frame =
      none ∧ 1 ≤ e.frame.ver ∧ e.frame.ver ≤ 3 ∧ e.frame.len = e.frame.payload.length ∧ e.frame.len ≤ 1482 ∧
      e.frame.e2e = e.frame.e2eOf) :=
  ⟨⟨heldStation id, 0, {cyclic with etype := 3}, by decide +kernel⟩,
   ⟨heldStation id, 0, {cyclic with dst := 3}, by decide +kernel⟩,
   ⟨heldStation id, 0, frameOf 8 id, by decide +kernel⟩,
   ⟨heldStation (received (frameOf 2 fun f => {f with epoch := 5})), 0, entryOf (frameOf 2 fun f =>
     {f with epoch := 5}), rest0, station1, by decide +kernel⟩,
   ⟨heldStation (received (frameOf 2 fun f => {f with seq := 4, epoch := 6})), 0, entryOf (frameOf 2 fun f =>
     {f with seq := 4, epoch := 6}), rest0, station1, by decide +kernel⟩,
   ⟨heldStation (received (frameOf 2 fun f => {f with addr := 0x2001, ver := 3})), 0, entryOf (frameOf 2 fun f =>
     {f with addr := 0x2001, ver := 3}), rest0, by decide +kernel⟩⟩

theorem witness_CyclicInputsEnterTheirGeneration :
  (∃ (s : State) (port : Nat) (e : RxEnt) (rest : List RxEnt) (r : StationRec), Front s port 2 e rest ∧ Accepted s
      port e.frame r ∧ s.m.controls = true ∧ InTime s e ∧ (s.m.stn r.station).goodGen ≠ some (s.m.sched.tick + 1) ∧
      (s.m.stn r.station).dropped = false ∧ byteAt e.frame.payload 4 ≠ 2)
  ∧ (∃ (s : State) (port : Nat) (e : RxEnt) (rest : List RxEnt) (r : StationRec), Front s port 2 e rest ∧ Accepted s
      port e.frame r ∧ s.m.controls = true ∧ InTime s e ∧ (s.m.stn r.station).goodGen = some (s.m.sched.tick + 1))
  ∧ (∃ (s : State) (port : Nat) (e : RxEnt) (rest : List RxEnt) (r : StationRec), Front s port 2 e rest ∧ Accepted s
      port e.frame r ∧ s.m.controls = true ∧ ¬InTime s e)
  ∧ (∃ (s : State) (port : Nat) (e : RxEnt) (rest : List RxEnt) (r : StationRec), Front s port 2 e rest ∧ Accepted s
      port e.frame r ∧ s.m.pair.role = Role.shadow ∧ InTime s e)
  ∧ (∃ (s : State) (port : Nat) (e : RxEnt) (rest : List RxEnt) (i : Image) (c : PeerCfg) (src : PeerSrc), Front s
      port 9 e rest ∧ e.frame.ver = 1 ∧ e.frame.len = e.frame.payload.length ∧ e.frame.len ≤ 1482 ∧ 4 + leNat
      (List.take 2 (List.drop 2 e.frame.payload)) ≤ e.frame.len ∧ e.frame.e2e = e.frame.e2eOf ∧ s.m.prog.image = some
      i ∧ i.peer = some c ∧ List.find? (fun (x : PeerSrc) => decide (x.domain = byteAt e.frame.payload 0)) c.srcs =
      some src ∧ ∃ q : Nat, q = s.m.sched.tick + 1 ∧ e.stamp + 6000 ≤ q * s.m.tickNs)
  ∧ (∃ (s : State) (port : Nat) (e : RxEnt) (rest : List RxEnt) (i : Image) (c : PeerCfg) (src : PeerSrc), Front s
      port 9 e rest ∧ e.frame.ver = 1 ∧ e.frame.len = e.frame.payload.length ∧ e.frame.len ≤ 1482 ∧ 4 + leNat
      (List.take 2 (List.drop 2 e.frame.payload)) ≤ e.frame.len ∧ e.frame.e2e = e.frame.e2eOf ∧ s.m.prog.image = some
      i ∧ i.peer = some c ∧ List.find? (fun (x : PeerSrc) => decide (x.domain = byteAt e.frame.payload 0)) c.srcs =
      some src ∧ ∃ q : Nat, q = s.m.sched.tick + 1 ∧ q * s.m.tickNs < e.stamp + 6000)
  ∧ (∃ (s : State) (port : Nat), s.m.portRole port = PortRole.segment)
  ∧ (∃ (s : State) (port : Nat), s.m.powered (7 + port) = true ∧ (∀ (j : PortJob), j ∈ s.m.test.portJobs → j.port ≠
      port)) :=
  ⟨⟨heldStation (received cyclic), 0, entryOf cyclic, rest0, station1, by decide +kernel⟩,
   ⟨heldStation (fun m => received cyclic (stn1 (fun z => {z with goodGen := some 1}) m)), 0, entryOf cyclic, rest0,
     station1, by decide +kernel⟩,
   ⟨heldStation (received late), 0, entryOf late, rest0, station1, by decide +kernel⟩,
   ⟨heldStation (fun m => {received cyclic m with pair.role := .shadow, bolt.ownSelf := false}), 0, entryOf cyclic,
     rest0, station1, by decide +kernel⟩,
   ⟨peerReceives 25250 id, 1, ⟨peerFrame id, 25250, false⟩, [], peerImage, peerCfg, ⟨3,4,64⟩, by decide +kernel,
     by decide +kernel, by decide +kernel, by decide +kernel, by decide +kernel, by decide +kernel,
     by decide +kernel, by decide +kernel, by decide +kernel, _, rfl, by decide +kernel⟩,
   ⟨peerReceives 25251 id, 1, ⟨peerFrame id, 25251, false⟩, [], peerImage, peerCfg, ⟨3,4,64⟩, by decide +kernel,
     by decide +kernel, by decide +kernel, by decide +kernel, by decide +kernel, by decide +kernel,
     by decide +kernel, by decide +kernel, by decide +kernel, _, rfl, by decide +kernel⟩,
   ⟨heldStation (fun m => m.setPort 0 fun p => {p with link := true}), 0, by decide +kernel⟩,
   ⟨heldStation id, 0, by decide +kernel⟩⟩

theorem witness_CyclicInputsEnterTheirGeneration_more :
  (∃ (s : State) (port : Nat) (e : RxEnt) (rest : List RxEnt) (r : StationRec), Front s port 2 e rest ∧ Accepted s
      port e.frame r ∧ s.m.controls = true ∧ InTime s e ∧ (s.m.stn r.station).goodGen ≠ some (s.m.sched.tick + 1) ∧
      (s.m.stn r.station).dropped = false ∧ byteAt e.frame.payload 4 ≠ 2)
  ∧ (∃ (s : State) (port : Nat) (e : RxEnt) (rest : List RxEnt) (r : StationRec), Front s port 2 e rest ∧ Accepted s
      port e.frame r ∧ s.m.controls = true ∧ ¬InTime s e)
  ∧ (∃ (s : State) (port : Nat), s.m.powered (7 + port) = true ∧ (∀ (j : PortJob), j ∈ s.m.test.portJobs → j.port ≠
      port)) :=
  ⟨⟨heldStation (fun m => m.setPort 0 fun p => {p with ring := [⟨cyclic, 30250, false⟩]}), 0, ⟨cyclic, 30250, false⟩,
     [], station1, by decide +kernel⟩,
   ⟨heldStation (fun m => m.setPort 0 fun p => {p with ring := [⟨cyclic, 30251, false⟩]}), 0, ⟨cyclic, 30251, false⟩,
     [], station1, by decide +kernel⟩,
   ⟨heldStation id, 3, by decide +kernel⟩⟩

theorem witness_StationsStartAndRevalidate :
  (∃ (s : State) (port : Nat) (e : RxEnt) (rest : List RxEnt) (r : StationRec) (i : Image), Front s port 6 e rest ∧
      From s port e.frame r ∧ e.frame.ver = 1 ∧ e.frame.len = e.frame.payload.length ∧ e.frame.len ≤ 1482 ∧
      e.frame.e2e = e.frame.e2eOf ∧ s.m.controls = true ∧ s.m.prog.image = some i ∧ (s.m.stn r.station).state =
      TspState.absent ∧ announceCheck i r e.frame.payload = 0)
  ∧ (∃ (s : State) (port : Nat) (e : RxEnt) (rest : List RxEnt) (r : StationRec) (i : Image), Front s port 6 e rest ∧
      From s port e.frame r ∧ e.frame.ver = 1 ∧ e.frame.len = e.frame.payload.length ∧ e.frame.len ≤ 1482 ∧
      e.frame.e2e = e.frame.e2eOf ∧ s.m.controls = true ∧ s.m.prog.image = some i ∧ (s.m.stn r.station).state =
      TspState.absent ∧ ∃ code : Nat, announceCheck i r e.frame.payload = code ∧ code ≠ 0)
  ∧ (∃ (s : State) (port : Nat) (e : RxEnt) (rest : List RxEnt) (r : StationRec), Front s port 8 e rest ∧ Accepted s
      port e.frame r ∧ s.m.controls = true ∧ (s.m.stn r.station).sends ≠ 0 ∧ (s.m.stn r.station).state =
      TspState.starting ∧ (s.m.stn r.station).started = false ∧ byteAt e.frame.payload 0 = 0)
  ∧ (∃ (s : State) (port : Nat) (e : RxEnt) (rest : List RxEnt) (r : StationRec), Front s port 8 e rest ∧ Accepted s
      port e.frame r ∧ s.m.controls = true ∧ (s.m.stn r.station).sends ≠ 0 ∧ (s.m.stn r.station).state =
      TspState.starting ∧ (s.m.stn r.station).started = false ∧ byteAt e.frame.payload 0 = 2)
  ∧ (∃ (s : State) (port : Nat) (e : RxEnt) (rest : List RxEnt) (r : StationRec), Front s port 8 e rest ∧ Accepted s
      port e.frame r ∧ s.m.controls = true ∧ (s.m.stn r.station).sends ≠ 0 ∧ (s.m.stn r.station).state =
      TspState.revalidating ∧ byteAt e.frame.payload 0 = 0)
  ∧ (∃ (s : State) (port : Nat) (e : RxEnt) (rest : List RxEnt) (r : StationRec), Front s port 8 e rest ∧ Accepted s
      port e.frame r ∧ s.m.controls = true ∧ (s.m.stn r.station).sends ≠ 0 ∧ (s.m.stn r.station).state =
      TspState.revalidating ∧ byteAt e.frame.payload 0 = 2)
  ∧ (∃ (s : State) (k : Nat) (i : Image), s.m.prog.image = some i ∧ s.m.controls = true ∧ s.m.gate = true ∧ (s.m.stn
      k).state = TspState.refused)
  ∧ (∃ s : State, s.m.gate = false)
  ∧ (∃ (s : State) (t k : Nat) (r : StationRec), s.m.stnRec k = some r ∧ s.m.controls = true ∧ (s.m.stn k).state =
      TspState.starting ∧ (s.m.stn k).started = false ∧ 0 < (s.m.stn k).sends ∧ (s.m.stn k).sentAt + 20000000 ≤
      (s.m.start t).ltNs ∧ (s.m.stn k).sends < 3)
  ∧ (∃ (s : State) (t k : Nat) (r : StationRec), s.m.stnRec k = some r ∧ s.m.controls = true ∧ (s.m.stn k).state =
      TspState.starting ∧ (s.m.stn k).started = false ∧ 0 < (s.m.stn k).sends ∧ (s.m.stn k).sentAt + 20000000 ≤
      (s.m.start t).ltNs ∧ (s.m.stn k).sends = 3)
  ∧ (∃ (s : State) (t k : Nat) (r : StationRec), s.m.stnRec k = some r ∧ s.m.controls = true ∧ (s.m.stn k).state =
      TspState.revalidating ∧ 0 < (s.m.stn k).sends ∧ (s.m.stn k).sentAt + 2000000 ≤ (s.m.start t).ltNs ∧ (s.m.stn
      k).sends < 3)
  ∧ (∃ (s : State) (t k : Nat) (r : StationRec), s.m.stnRec k = some r ∧ s.m.controls = true ∧ (s.m.stn k).state =
      TspState.revalidating ∧ 0 < (s.m.stn k).sends ∧ (s.m.stn k).sentAt + 2000000 ≤ (s.m.start t).ltNs ∧ (s.m.stn
      k).sends = 3) :=
  ⟨⟨hears announceBody, 0, entryOf (announce announceBody), rest0, station1, image0, by decide +kernel⟩,
   ⟨hears (announceBody.set 4 8), 0, entryOf (announce (announceBody.set 4 8)), rest0, station1, image0,
     by decide +kernel, by decide +kernel, by decide +kernel, by decide +kernel, by decide +kernel,
     by decide +kernel, by decide +kernel, by decide +kernel, by decide +kernel, 2, by decide +kernel⟩,
   ⟨hearsReady 0 .starting, 0, entryOf (readyFrame 0), rest0, station1, by decide +kernel⟩,
   ⟨hearsReady 2 .starting, 0, entryOf (readyFrame 2), rest0, station1, by decide +kernel⟩,
   ⟨hearsReady 0 .revalidating, 0, entryOf (readyFrame 0), rest0, station1, by decide +kernel⟩,
   ⟨hearsReady 2 .revalidating, 0, entryOf (readyFrame 2), rest0, station1, by decide +kernel⟩,
   ⟨heldStation (stn1 fun z => {z with state := .refused}), 1, image0, by decide +kernel⟩,
   ⟨started .alone id, by decide +kernel⟩,
   ⟨heldStation (stn1 fun z => {z with state := .starting, sends := 2}), 20000000, 1, station1, by decide +kernel⟩,
   ⟨heldStation (stn1 fun z => {z with state := .starting, sends := 3}), 20000000, 1, station1, by decide +kernel⟩,
   ⟨heldStation (stn1 fun z => {z with state := .revalidating, sends := 2}), 2000000, 1, station1, by decide +kernel⟩,
   ⟨heldStation (stn1 fun z => {z with state := .revalidating, sends := 3}), 2000000, 1, station1, by decide +kernel⟩⟩

theorem witness_StationsStartAndRevalidate_more :
  ∃ (s : State) (port : Nat) (e : RxEnt) (rest : List RxEnt) (r : StationRec) (i : Image), Front s port 6 e rest ∧
      From s port e.frame r ∧ e.frame.ver = 1 ∧ e.frame.len = e.frame.payload.length ∧ e.frame.len ≤ 1482 ∧
      e.frame.e2e = e.frame.e2eOf ∧ s.m.controls = true ∧ s.m.prog.image = some i ∧ (s.m.stn r.station).state =
      TspState.absent ∧ ∃ code : Nat, announceCheck i r e.frame.payload = code ∧ code ≠ 0 :=
  ⟨hears (announceBody.set 12 8), 0, entryOf (announce (announceBody.set 12 8)), rest0, station1, image0,
     by decide +kernel, by decide +kernel, by decide +kernel, by decide +kernel, by decide +kernel,
     by decide +kernel, by decide +kernel, by decide +kernel, by decide +kernel, 3, by decide +kernel⟩

theorem witness_AcyclicItemsRunToTheirOutcome :
  (∃ (s : State) (k : Nat) (j : Item) (rest : List Item), s.m.controls = true ∧ (s.m.stn k).state = TspState.run ∧
      s.m.pair.plan.st ≠ PlanState.waiting ∧ s.m.redundant = false ∧ (s.m.stn k).flight = none ∧ (s.m.stn k).items =
      j :: rest ∧ j.waiting = false ∧ j.testUntil = none ∧ HasEntry s k)
  ∧ (∃ (s : State) (k : Nat) (j : Item) (rest : List Item), s.m.controls = true ∧ (s.m.stn k).state = TspState.run ∧
      s.m.pair.plan.st ≠ PlanState.waiting ∧ s.m.redundant = true ∧ (s.m.stn k).flight = none ∧ (s.m.stn k).items = j
      :: rest ∧ j.waiting = false ∧ j.testUntil = none ∧ j.sentAcked = false ∧ j.sentMark = false)
  ∧ (∃ (s : State) (t k : Nat) (j : Item) (u : Nat), s.m.controls = true ∧ s.m.pair.plan.st ≠ PlanState.waiting ∧
      (s.m.stn k).flight = some j ∧ j.lastSend = some u ∧ j.idem = true ∧ j.testUntil = none ∧ u + 5000000 ≤
      (s.m.start t).ltNs ∧ j.expired (s.m.start t).ltNs = false ∧ HasEntry s k)
  ∧ (∃ (s : State) (t k : Nat) (j : Item) (c u : Nat), s.m.controls = true ∧ (s.m.stn k).flight = some j ∧ j.cls =
      some c ∧ j.firstSend = some u ∧ u + j.timeoutMs * 1000000 ≤ (s.m.start t).ltNs)
  ∧ (∃ (s : State) (t k : Nat) (j : Item) (u : Nat), s.m.controls = true ∧ (s.m.stn k).flight = some j ∧ j.testUntil
      = some u ∧ u ≤ (s.m.start t).ltNs ∧ HasEntry s k)
  ∧ (∃ (s : State) (port : Nat) (e : RxEnt) (rest : List RxEnt) (r : StationRec) (j : Item) (c : Nat), Front s port 4
      e rest ∧ Accepted s port e.frame r ∧ s.m.controls = true ∧ (s.m.stn r.station).flight = some j ∧ j.cls = some c
      ∧ j.reqId = leNat (List.take 4 e.frame.payload) ∧ j.firstSend.isSome = true ∧ byteAt e.frame.payload 4 = 0)
  ∧ (∃ (s : State) (port : Nat) (e : RxEnt) (rest : List RxEnt) (r : StationRec) (j : Item) (c : Nat), Front s port 4
      e rest ∧ Accepted s port e.frame r ∧ s.m.controls = true ∧ (s.m.stn r.station).flight = some j ∧ j.cls = some c
      ∧ j.reqId = leNat (List.take 4 e.frame.payload) ∧ j.firstSend.isSome = true ∧ byteAt e.frame.payload 4 = 1)
  ∧ (∃ (s : State) (port : Nat) (e : RxEnt) (rest : List RxEnt) (r : StationRec) (j : Item) (c : Nat), Front s port 4
      e rest ∧ Accepted s port e.frame r ∧ s.m.controls = true ∧ (s.m.stn r.station).flight = some j ∧ j.cls = some c
      ∧ j.reqId = leNat (List.take 4 e.frame.payload) ∧ j.firstSend.isSome = true ∧ byteAt e.frame.payload 4 = 2)
  ∧ (∃ (s : State) (port : Nat) (e : RxEnt) (rest : List RxEnt) (r : StationRec) (j : Item), Front s port 4 e rest ∧
      Accepted s port e.frame r ∧ s.m.controls = true ∧ (s.m.stn r.station).flight = some j ∧ j.reqId ≠ leNat
      (List.take 4 e.frame.payload)) :=
  ⟨⟨heldStation (stn1 fun z => {z with state := .run, items := [item9 id, item9 id]}), 1, item9 id, [item9 id],
     by decide +kernel⟩,
   ⟨ownerOf (stn1 fun z => {z with state := .run, items := [item9 id, item9 id]}), 1, item9 id, [item9 id],
     by decide +kernel⟩,
   ⟨heldStation (stn1 fun z => {z with state := .run, flight := some (flying fun i => {i with idem := true})}), 5000005,
     1, flying fun i => {i with idem := true}, 5, by decide +kernel⟩,
   ⟨heldStation (stn1 fun z => {z with state := .run, flight := some (flying id)}), 20000005, 1, flying id, 1, 5,
     by decide +kernel⟩,
   ⟨heldStation (stn1 fun z => {z with state := .run, flight := some (flying fun i => {i with testUntil := some 70})}),
     70, 1, flying fun i => {i with testUntil := some 70}, 70, by decide +kernel⟩,
   ⟨hearsResponse 0 id, 0, entryOf (response 0), rest0, station1, flying id, 1, by decide +kernel⟩,
   ⟨hearsResponse 1 id, 0, entryOf (response 1), rest0, station1, flying id, 1, by decide +kernel⟩,
   ⟨hearsResponse 2 id, 0, entryOf (response 2), rest0, station1, flying id, 1, by decide +kernel⟩,
   ⟨hearsResponse 0 (fun i => {i with reqId := 8}), 0, entryOf (response 0), rest0, station1, flying (fun i =>
     {i with reqId := 8}), by decide +kernel⟩⟩

theorem witness_AcyclicItemsRunToTheirOutcome_more :
  (∃ (s : State) (k : Nat) (j : Item) (rest : List Item), s.m.controls = true ∧ (s.m.stn k).state = TspState.run ∧
      s.m.pair.plan.st ≠ PlanState.waiting ∧ s.m.redundant = false ∧ (s.m.stn k).flight = none ∧ (s.m.stn k).items =
      j :: rest ∧ j.waiting = false ∧ j.testUntil = none ∧ HasEntry s k)
  ∧ (∃ (s : State) (port : Nat) (e : RxEnt) (rest : List RxEnt) (r : StationRec) (j : Item) (c : Nat), Front s port 4
      e rest ∧ Accepted s port e.frame r ∧ s.m.controls = true ∧ (s.m.stn r.station).flight = some j ∧ j.cls = some c
      ∧ j.reqId = leNat (List.take 4 e.frame.payload) ∧ j.firstSend.isSome = true ∧ byteAt e.frame.payload 4 = 0) :=
  ⟨⟨heldStation (stn1 fun z => {z with state := .run, items := [item9 fun i => {i with cls := none, client := 5}]}), 1,
     item9 fun i => {i with cls := none, client := 5}, [], by decide +kernel⟩,
   ⟨hearsResponse 0 (fun i => {i with delayed := true}), 0, entryOf (response 0), rest0, station1, flying (fun i =>
     {i with delayed := true}), 1, by decide +kernel⟩⟩

end Stations

/-! ## Masters, axes, Reflex -/

namespace Axes

/-- A virtual master with a highest speed. -/
def virtualMaster (vm : Nat) : MasterRec :=
  { kind := .virtual, srcType := .int32, filter := 0, holdTicks := 0, src := 0, snum := 1, sden := 1, extraNs := 0, haltDec := 77, jerk := 0, vmax := vm }

/-- An external master. -/
def externalMaster : MasterRec :=
  { virtualMaster 0 with kind := .external, holdTicks := 3, src := BitVec.ofNat 32 (2 * 2^27) }

/-- A CAM table. -/
def cam7 : CamTab := ⟨7, 1, 1, false, 0, [⟨0, 2^32 - 1, 5, 6, 7, 8⟩]⟩

/-- Axis 3. -/
def axis3 : AxisRec := { (default : AxisRec) with axis := 3, engDist := 9 }

/-- Three masters, one axis, one register, one CAM table. -/
def axisCfg : AxisCfg := ⟨64, [virtualMaster 0, virtualMaster 1000, externalMaster] , [axis3], [],
  [{ (default : RegRec) with axis := 3 }], [cam7]⟩

/-- The same without a registration. -/
def noRegs : AxisCfg := { axisCfg with regs := [] }

/-- Lane B serves that configuration. -/
def lsuOf (c : AxisCfg) (f : Lsu → Lsu) : Machine.State := (started .alone fun m => m.setLane .B fun l =>
  { l with lsu := f { l.lsu with masters := [(0, MasterSt.init .virtual), (1, MasterSt.init .virtual), (2, { MasterSt.init .external with seen := true, state := .holdover, hold := 3 })], axes := [(3, { AxisSt.init with state := .disengaged, b := 50 })] } })
  |> fun s => { s with m.prog.image := some { image0 with axis := some c } }

/-- The inputs of the LSU. -/
def inputsOf (s : Machine.State) : LsuIn := match s.m.lsuIn with | some x => x | none => ⟨0, 0, axisCfg, [], [],
  .zero, .zero, [], [], []⟩

/-- Lane B serves the whole configuration. -/
def lsu (f : Lsu → Lsu) := lsuOf axisCfg f

/-- Axis 3 in a state. -/
def axisIs (f : AxisSt → AxisSt) (l : Lsu) : Lsu :=
  { l with axes := [(3, f { AxisSt.init with state := .disengaged, b := 50 })] }

/-- A Reflex cell. -/
def cell (lut : W64) (ss : List Nat) (o : Nat) : CellCfg := ⟨lut, ss, 0, o⟩

/-- A Reflex table with two cells. -/
def table2 : ReflexCfg := ⟨[cell 0x8 [0, 1] 1, cell 0x2 [0x80, 0x10] 2], List.replicate 16 (0x80, true), [(0, 1,
  100), (1, 2, 50), (2, 3, 0)], 0⟩

/-- A module alone with that table. -/
def reflexOf (f : Reflex → Reflex) : Machine.State := started .alone fun m =>
  {m with reflex := f {m.reflex with table := some table2}}

theorem witness_MastersTakeCommands :
  (∃ (s : State) (l : LaneId) (k n : Nat) (v acc dec : Int) (inp : LsuIn) (r : MasterRec), HasMaster s k inp r ∧
      LsuOn s l ∧ n < 256 ∧ n ≠ (mst s.m l k r).ack ∧ 0 < acc ∧ acc < 2 ^ 63 ∧ 0 < dec ∧ (r.vmax = 0 ∨ v.natAbs ≤
      r.vmax))
  ∧ (∃ (s : State) (l : LaneId) (k n : Nat) (v acc dec : Int) (inp : LsuIn) (r : MasterRec), HasMaster s k inp r ∧
      LsuOn s l ∧ n < 256 ∧ n ≠ (mst s.m l k r).ack ∧ 0 < acc ∧ acc < 2 ^ 63 ∧ 0 < dec ∧ r.vmax ≠ 0 ∧ r.vmax <
      v.natAbs)
  ∧ (∃ (s : State) (l : LaneId) (k n : Nat) (dec : Int) (inp : LsuIn) (r : MasterRec), HasMaster s k inp r ∧ LsuOn s
      l ∧ n < 256 ∧ n ≠ (mst s.m l k r).ack ∧ 0 < dec)
  ∧ (∃ (s : State) (l : LaneId) (k n : Nat) (dec : Int) (inp : LsuIn) (r : MasterRec), HasMaster s k inp r ∧ LsuOn s
      l ∧ n < 256 ∧ n ≠ (mst s.m l k r).ack ∧ dec ≤ 0)
  ∧ (∃ (s : State) (l : LaneId) (k n : Nat) (inp : LsuIn) (r : MasterRec), HasMaster s k inp r ∧ LsuOn s l ∧ n < 256
      ∧ n ≠ (mst s.m l k r).ack)
  ∧ (∃ (s : State) (l : LaneId) (k n frac : Nat) (inp : LsuIn) (r : MasterRec), HasMaster s k inp r ∧ LsuOn s l ∧ n <
      256 ∧ n ≠ (mst s.m l k r).ack ∧ frac < 2 ^ 32 ∧ (mst s.m l k r).v = 0 ∧ (mst s.m l k r).a = 0 ∧ followerOn
      (s.m.lane l).lsu.axes k = false)
  ∧ (∃ (s : State) (l : LaneId) (k n frac : Nat) (inp : LsuIn) (r : MasterRec), HasMaster s k inp r ∧ LsuOn s l ∧ n <
      256 ∧ n ≠ (mst s.m l k r).ack ∧ frac < 2 ^ 32 ∧ ((mst s.m l k r).v ≠ 0 ∨ followerOn (s.m.lane l).lsu.axes k =
      true))
  ∧ (∃ (s : State) (l : LaneId) (k n : Nat) (inp : LsuIn) (r : MasterRec), HasMaster s k inp r ∧ (s.m.lane
      l).inService = true ∧ (s.m.lane l).lsu.haltRamp = true ∧ n < 256 ∧ n ≠ (mst s.m l k r).ack)
  ∧ (∃ (s : State) (l : LaneId) (k : Nat) (inp : LsuIn) (r : MasterRec), HasMaster s k inp r ∧ (s.m.lane l).inService
      = true ∧ (mst s.m l k r).ack < 256)
  ∧ (∃ (s : State) (l : LaneId) (k : Nat) (inp : LsuIn) (r : MasterRec) (y : MasterSt), HasMaster s k inp r ∧
      (s.m.lane l).inService = true ∧ r.kind = MasterKind.external ∧ tabFind (s.m.lane l).lsu.masters k = some y ∧
      y.seen = true ∧ y.state ≠ MState.lost ∧ r.holdTicks ≤ y.hold ∧ sourceStation inp.slots (pointArea r.src)
      (pointOfs r.src) (srcSize r.srcType) = none) :=
  ⟨⟨lsu id, .B, 0, 1, -5000, 3, 4, inputsOf (lsu id), virtualMaster 0, by decide +kernel⟩,
   ⟨lsu id, .B, 1, 255, -1001, 3, 4, inputsOf (lsu id), virtualMaster 1000, by decide +kernel⟩,
   ⟨lsu id, .B, 1, 255, 7, inputsOf (lsu id), virtualMaster 1000, by decide +kernel⟩,
   ⟨lsu id, .B, 1, 255, 0, inputsOf (lsu id), virtualMaster 1000, by decide +kernel⟩,
   ⟨lsu id, .B, 1, 255, inputsOf (lsu id), virtualMaster 1000, by decide +kernel⟩,
   ⟨lsu id, .B, 1, 255, 4294967295, inputsOf (lsu id), virtualMaster 1000, by decide +kernel⟩,
   ⟨lsu (axisIs fun a => {a with state := .geared, master := 1}), .B, 1, 255, 4294967295, inputsOf (lsu id),
     virtualMaster 1000, by decide +kernel⟩,
   ⟨lsu fun l => {l with haltRamp := true}, .B, 1, 255, inputsOf (lsu id), virtualMaster 1000, by decide +kernel⟩,
   ⟨lsu fun l => {l with masters := [(1, {MasterSt.init .virtual with ack := 5})]}, .B, 1, inputsOf (lsu id),
     virtualMaster 1000, by decide +kernel⟩,
   ⟨lsu id, .B, 2, inputsOf (lsu id), externalMaster,
     { MasterSt.init .external with seen := true, state := .holdover, hold := 3 }, by decide +kernel⟩⟩

theorem witness_MastersTakeCommands_more :
  (∃ (s : State) (l : LaneId) (k n : Nat) (v acc dec : Int) (inp : LsuIn) (r : MasterRec), HasMaster s k inp r ∧
      LsuOn s l ∧ n < 256 ∧ n ≠ (mst s.m l k r).ack ∧ 0 < acc ∧ acc < 2 ^ 63 ∧ 0 < dec ∧ (r.vmax = 0 ∨ v.natAbs ≤
      r.vmax))
  ∧ (∃ (s : State) (l : LaneId) (k n : Nat) (dec : Int) (inp : LsuIn) (r : MasterRec), HasMaster s k inp r ∧ LsuOn s
      l ∧ n < 256 ∧ n ≠ (mst s.m l k r).ack ∧ dec ≤ 0)
  ∧ (∃ (s : State) (l : LaneId) (k n frac : Nat) (inp : LsuIn) (r : MasterRec), HasMaster s k inp r ∧ LsuOn s l ∧ n <
      256 ∧ n ≠ (mst s.m l k r).ack ∧ frac < 2 ^ 32 ∧ ((mst s.m l k r).v ≠ 0 ∨ followerOn (s.m.lane l).lsu.axes k =
      true)) :=
  ⟨⟨lsu id, .B, 1, 255, -1000, 3, 4, inputsOf (lsu id), virtualMaster 1000, by decide +kernel⟩,
   ⟨lsu id, .B, 1, 255, -3, inputsOf (lsu id), virtualMaster 1000, by decide +kernel⟩,
   ⟨lsu fun l => {l with masters := [(1, {MasterSt.init .virtual with v := 5})]}, .B, 1, 255, 4294967295, inputsOf (lsu
     id), virtualMaster 1000, by decide +kernel⟩⟩

theorem witness_AxesTakeCommands :
  (∃ (s : State) (l : LaneId) (a n k : Nat) (num : Int) (den : Nat) (inp : LsuIn) (r : AxisRec) (p : Int), HasAxis s
      a inp r ∧ LsuOn s l ∧ n < 256 ∧ n ≠ (ast s.m l a).ack ∧ Follows s l inp k p ∧ num ≠ 0 ∧ -2 ^ 31 ≤ num ∧ num < 2
      ^ 31 ∧ 0 < den ∧ den < 2 ^ 32 ∧ (ast s.m l a).state = AState.disengaged)
  ∧ (∃ (s : State) (l : LaneId) (a n k : Nat) (num : Int) (den : Nat) (inp : LsuIn) (r : AxisRec) (p : Int), HasAxis
      s a inp r ∧ LsuOn s l ∧ n < 256 ∧ n ≠ (ast s.m l a).ack ∧ Follows s l inp k p ∧ num ≠ 0 ∧ -2 ^ 31 ≤ num ∧ num <
      2 ^ 31 ∧ 0 < den ∧ den < 2 ^ 32 ∧ (ast s.m l a).state = AState.disengaged ∧ ∃ angle : Nat, angle < 2 ^ 32)
  ∧ (∃ (s : State) (l : LaneId) (a n k : Nat) (inp : LsuIn) (r : AxisRec), HasAxis s a inp r ∧ LsuOn s l ∧ n < 256 ∧
      n ≠ (ast s.m l a).ack ∧ k < 256 ∧ inp.master k = none)
  ∧ (∃ (s : State) (l : LaneId) (a n k : Nat) (inp : LsuIn) (r : AxisRec), HasAxis s a inp r ∧ LsuOn s l ∧ n < 256 ∧
      n ≠ (ast s.m l a).ack ∧ k < 256 ∧ (inp.master k).isSome = true)
  ∧ (∃ (s : State) (l : LaneId) (a n k id : Nat) (inp : LsuIn) (r : AxisRec) (p : Int) (t : CamTab), HasAxis s a inp
      r ∧ LsuOn s l ∧ n < 256 ∧ n ≠ (ast s.m l a).ack ∧ Follows s l inp k p ∧ id < 2 ^ 16 ∧ camOf inp.cfg id = some t
      ∧ (ast s.m l a).state = AState.disengaged)
  ∧ (∃ (s : State) (l : LaneId) (a n k id : Nat) (inp : LsuIn) (r : AxisRec), HasAxis s a inp r ∧ LsuOn s l ∧ n < 256
      ∧ n ≠ (ast s.m l a).ack ∧ k < 256 ∧ (inp.master k).isSome = true ∧ id < 2 ^ 16 ∧ camOf inp.cfg id = none)
  ∧ (∃ (s : State) (l : LaneId) (a n ramp : Nat) (d : Int) (inp : LsuIn) (r : AxisRec), HasAxis s a inp r ∧ LsuOn s l
      ∧ n < 256 ∧ n ≠ (ast s.m l a).ack ∧ ramp < 2 ^ 32 ∧ -2 ^ 63 ≤ d ∧ d < 2 ^ 63 ∧ (ast s.m l a).state ≠
      AState.notReady)
  ∧ (∃ (s : State) (l : LaneId) (a n ramp : Nat) (d : Int) (inp : LsuIn) (r : AxisRec), HasAxis s a inp r ∧ LsuOn s l
      ∧ n < 256 ∧ n ≠ (ast s.m l a).ack ∧ ramp < 2 ^ 32 ∧ -2 ^ 63 ≤ d ∧ d < 2 ^ 63 ∧ (ast s.m l a).state =
      AState.notReady)
  ∧ (∃ (s : State) (l : LaneId) (a n : Nat) (inp : LsuIn) (r : AxisRec) (y : MasterSt), HasAxis s a inp r ∧ LsuOn s l
      ∧ n < 256 ∧ n ≠ (ast s.m l a).ack ∧ (ast s.m l a).state = AState.geared ∧ tabFind (s.m.lane l).lsu.masters (ast
      s.m l a).master = some y)
  ∧ (∃ (s : State) (l : LaneId) (a n : Nat) (inp : LsuIn) (r : AxisRec), HasAxis s a inp r ∧ LsuOn s l ∧ n < 256 ∧ n
      ≠ (ast s.m l a).ack ∧ (ast s.m l a).state = AState.cammed)
  ∧ (∃ (s : State) (l : LaneId) (a n : Nat) (inp : LsuIn) (r : AxisRec), HasAxis s a inp r ∧ LsuOn s l ∧ n < 256 ∧ n
      ≠ (ast s.m l a).ack ∧ (ast s.m l a).state = AState.disengaged ∧ (ast s.m l a).wait = none)
  ∧ (∃ (s : State) (l : LaneId) (a n : Nat) (inp : LsuIn) (r : AxisRec), HasAxis s a inp r ∧ LsuOn s l ∧ n < 256 ∧ n
      ≠ (ast s.m l a).ack ∧ (regOf inp.cfg a).isSome = true)
  ∧ (∃ (s : State) (l : LaneId) (a n : Nat) (inp : LsuIn) (r : AxisRec), HasAxis s a inp r ∧ LsuOn s l ∧ n < 256 ∧ n
      ≠ (ast s.m l a).ack ∧ regOf inp.cfg a = none) :=
  ⟨⟨lsu id, .B, 3, 1, 1, -5, 3, inputsOf (lsu id), axis3, 0, by decide +kernel⟩,
   ⟨lsu id, .B, 3, 1, 1, -5, 3, inputsOf (lsu id), axis3, 0, by decide +kernel, by decide +kernel, by decide +kernel,
     by decide +kernel, by decide +kernel, by decide +kernel, by decide +kernel, by decide +kernel,
     by decide +kernel, by decide +kernel, by decide +kernel, 4294967295, by decide +kernel⟩,
   ⟨lsu id, .B, 3, 1, 9, inputsOf (lsu id), axis3, by decide +kernel⟩,
   ⟨lsu id, .B, 3, 1, 1, inputsOf (lsu id), axis3, by decide +kernel⟩,
   ⟨lsu id, .B, 3, 1, 1, 7, inputsOf (lsu id), axis3, 0, cam7, by decide +kernel⟩,
   ⟨lsu id, .B, 3, 1, 1, 8, inputsOf (lsu id), axis3, by decide +kernel⟩,
   ⟨lsu id, .B, 3, 1, 0, -9, inputsOf (lsu id), axis3, by decide +kernel⟩,
   ⟨lsu (axisIs fun a => {a with state := .notReady}), .B, 3, 1, 20, -9, inputsOf (lsu id), axis3, by decide +kernel⟩,
   ⟨lsu (axisIs fun a => {a with state := .geared, master := 1, c := 6, r1 := 3}), .B, 3, 1, inputsOf (lsu id), axis3,
     MasterSt.init .virtual, by decide +kernel⟩,
   ⟨lsu (axisIs fun a => {a with state := .cammed, master := 1, c := 6, r1 := 3}), .B, 3, 1, inputsOf (lsu id), axis3,
     by decide +kernel⟩,
   ⟨lsu id, .B, 3, 1, inputsOf (lsu id), axis3, by decide +kernel⟩,
   ⟨lsu id, .B, 3, 1, inputsOf (lsu id), axis3, by decide +kernel⟩,
   ⟨lsuOf noRegs id, .B, 3, 1, inputsOf (lsuOf noRegs id), axis3, by decide +kernel⟩⟩

theorem witness_AxesTakeCommands_more :
  (∃ (s : State) (l : LaneId) (a n k : Nat) (inp : LsuIn) (r : AxisRec), HasAxis s a inp r ∧ LsuOn s l ∧ n < 256 ∧ n
      ≠ (ast s.m l a).ack ∧ k < 256 ∧ inp.master k = none)
  ∧ (∃ (s : State) (l : LaneId) (a n k id : Nat) (inp : LsuIn) (r : AxisRec) (p : Int) (t : CamTab), HasAxis s a inp
      r ∧ LsuOn s l ∧ n < 256 ∧ n ≠ (ast s.m l a).ack ∧ Follows s l inp k p ∧ id < 2 ^ 16 ∧ camOf inp.cfg id = some t
      ∧ (ast s.m l a).state = AState.disengaged)
  ∧ (∃ (s : State) (l : LaneId) (a n ramp : Nat) (d : Int) (inp : LsuIn) (r : AxisRec), HasAxis s a inp r ∧ LsuOn s l
      ∧ n < 256 ∧ n ≠ (ast s.m l a).ack ∧ ramp < 2 ^ 32 ∧ -2 ^ 63 ≤ d ∧ d < 2 ^ 63 ∧ (ast s.m l a).state ≠
      AState.notReady) :=
  ⟨⟨lsu id, .B, 3, 255, 255, inputsOf (lsu id), axis3, by decide +kernel⟩,
   ⟨lsu id, .B, 3, 1, 2, 7, inputsOf (lsu id), axis3, 0, cam7, by decide +kernel⟩,
   ⟨lsu (axisIs fun a => {a with dphi := 500, rampR := 10, rampI := 5}), .B, 3, 1, 20, -9, inputsOf (lsu id), axis3,
     by decide +kernel⟩⟩

theorem witness_ReflexPlaneFollowsItsInputs :
  (∃ pin : Nat, pin < 16)
  ∧ (∃ (s : State) (t u : Nat) (x : CmpEdge) (rest : List CmpEdge), u < 32 ∧ tabGet s.m.reflex.edges [] u = x :: rest
      ∧ x.at_ ≤ ↑(s.m.start t).ltNs)
  ∧ (∃ (s : State) (t u : Nat) (x : CmpEdge) (rest : List CmpEdge), u < 32 ∧ tabGet s.m.reflex.edges [] u = x :: rest
      ∧ ↑(s.m.start t).ltNs < x.at_)
  ∧ (∃ (s : State) (ch : Nat) (rising : Bool) (held : Nat) (tb : ReflexCfg) (pol filt src : Nat), s.m.reflex.table =
      some tb ∧ tb.capcfg[ch]? = some (src, pol, filt) ∧ (if rising = true then pol = 1 ∨ pol = 3 else pol = 2 ∨ pol
      = 3) ∧ filt ≤ held)
  ∧ (∃ (s : State) (ch : Nat) (rising : Bool) (held : Nat) (tb : ReflexCfg) (pol filt src : Nat), s.m.reflex.table =
      some tb ∧ tb.capcfg[ch]? = some (src, pol, filt) ∧ (if rising = true then pol = 1 ∨ pol = 3 else pol = 2 ∨ pol
      = 3) ∧ held < filt)
  ∧ (∃ (s : State) (tb : ReflexCfg) (cls : Nat) (bits : W64), s.m.reflex.table = some tb ∧ s.m.reflex.armPend =
      [(cls, bits)])
  ∧ (∃ (s : State) (pin : Nat) (tb : ReflexCfg) (o : Nat × Bool), s.m.reflex.table = some tb ∧ tb.outmap[pin]? = some
      o)
  ∧ (∃ (r : Reflex) (t : ReflexCfg) (c : Nat) (k : CellCfg), r.table = some t ∧ c < 64 ∧ t.cells[c]? = some k ∧
      k.mode = 0 ∧ (∀ (x : Nat), x ∈ k.sel → x < 16 ∨ 128 ≤ x)) :=
  ⟨⟨15, by decide +kernel⟩,
   ⟨reflexOf fun r => {r with edges := [(31, [⟨31, 5000, true, false⟩])]}, 5000, 31, ⟨31, 5000, true, false⟩, [],
     by decide +kernel⟩,
   ⟨reflexOf fun r => {r with edges := [(31, [⟨31, 5001, true, false⟩])]}, 5000, 31, ⟨31, 5001, true, false⟩, [],
     by decide +kernel⟩,
   ⟨reflexOf id, 0, true, 100, table2, 1, 100, 0, by decide +kernel⟩,
   ⟨reflexOf id, 0, true, 99, table2, 1, 100, 0, by decide +kernel⟩,
   ⟨reflexOf fun r => {r with armPend := [(2, 7)], arm := 5}, table2, 2, 7, by decide +kernel⟩,
   ⟨reflexOf id, 15, table2, (0x80, true), by decide +kernel⟩,
   ⟨{Reflex.zero with table := some table2, pinsIn := 3}, table2, 0, cell 0x8 [0,1] 1, by decide +kernel⟩⟩

theorem witness_ReflexPlaneFollowsItsInputs_more :
  (∃ pin : Nat, pin < 16)
  ∧ (∃ (s : State) (t u : Nat) (x : CmpEdge) (rest : List CmpEdge), u < 32 ∧ tabGet s.m.reflex.edges [] u = x :: rest
      ∧ x.at_ ≤ ↑(s.m.start t).ltNs)
  ∧ (∃ (s : State) (ch : Nat) (rising : Bool) (held : Nat) (tb : ReflexCfg) (pol filt src : Nat), s.m.reflex.table =
      some tb ∧ tb.capcfg[ch]? = some (src, pol, filt) ∧ (if rising = true then pol = 1 ∨ pol = 3 else pol = 2 ∨ pol
      = 3) ∧ filt ≤ held) :=
  ⟨⟨0, by decide +kernel⟩,
   ⟨reflexOf fun r => {r with edges := [(31, [⟨31, -4, false, true⟩,⟨31, 5001, true, false⟩])]}, 5000, 31, ⟨31, -4,
     false, true⟩, [⟨31, 5001, true, false⟩], by decide +kernel⟩,
   ⟨reflexOf fun r => {r with capSeq := [(1, 32767)]}, 1, false, 51, table2, 2, 50, 1, by decide +kernel⟩⟩

end Axes

/-! ## Power-up, clocks, downloads, sessions -/

namespace Power

/-- A module without power. -/
def off (f : Mod → Mod) : Machine.State := coldly f

/-- Memory that survives, and some that does not. -/
def dirty (m : Mod) : Mod :=
  { m with card.card := some card0, attic.home := [(3,4)], savis.anchors := [1,2], savis.serial := 77, upd.svnFused := 2, newel.failed := true, bolt.side := true, savis.sess := [(1, {conn := 1})], time.begun := true }

/-- A built-in self-test that passed. -/
def bistPassed : BistRes := ⟨[true,true,true],[true,true,true],true,true,true,true,3⟩

/-- The self-test runs. -/
def inBist (f : Mod → Mod) : Machine.State := coldly fun m => f
  {m with power := {m.power with boot := .bist, on := 0x3F}}

/-- The boot ROM runs. -/
def inRom (f : Mod → Mod) : Machine.State := coldly fun m => f
  {m with power := {m.power with boot := .rom, on := 0x143F}}

/-- A package of security version 9. -/
def package9 : PkgHdr := { (default : PkgHdr) with svn := 9, revoke := 0x5 }

/-- A download is received. -/
def downloads (f : Update → Update) : Machine.State := started .owner fun m =>
  {m with upd := f {m.upd with dl := .receiving, dlBank := true, bank1 := {st := .writing}}}

/-- Lane C is in its rotating test. -/
def rotates (f : Mod → Mod) : Machine.State := started .alone fun m => f
  {m with test.rotLane := .C, test.rotAll := true, test.rotKey := some (1,1)}

/-- An owner with a trust anchor and both networks. -/
def savis (f : Savis → Savis) : Machine.State := started .owner fun m =>
  {m with savis := f {m.savis with anchors := [9], eng1 := true, eng2 := true, net.own1 := 0x0A000001, net.pfx1 := 24, net.own2 := 0x0A000101, net.pfx2 := 24}}

/-- A connection by an engineer. -/
def conn0 : Conn := ⟨false, false, some .engineer, 88⟩

/-- A session. -/
def session1 : Sess := {conn := 4, client := 5, last := 6}

/-- A request that is done. -/
def done1 : SReq := {client := 5, id := 1, session := 2, outcome := some .done, ended := 7}

/-- A subscription to the diagnostics. -/
def notify9 : Sub := {reqId := 9, body := ⟨0xF1, 8, 0, 0, 4⟩, due := 4000, period := 1, skipped := 3}

theorem witness_PowerUpRunsTheBootSteps :
  (∃ (s : State) (held : Bool), s.m.power.boot = Boot.off ∧ s.m.power.failing = false ∧ (held = false ∨
      s.m.prog.ownKey ≠ KeyPos.service))
  ∧ (∃ s : State, s.m.power.boot = Boot.off ∧ s.m.power.failing = true)
  ∧ (∃ s : State, s.m.power.boot = Boot.off ∧ s.m.prog.ownKey = KeyPos.service)
  ∧ (∃ s : State, s.m.power.boot ≠ Boot.off)
  ∧ (∃ (s : State) (r : BistRes), s.m.power.boot = Boot.bist ∧ r.pass = true)
  ∧ (∃ (s : State) (r : BistRes), s.m.power.boot = Boot.bist ∧ r.pass = false)
  ∧ (∃ s : State, s.m.power.boot = Boot.rom ∧ s.m.upd.bank0.st = BankSt.good ∧ s.m.upd.bank0.pkg = none ∧
      s.m.upd.bank1.st = BankSt.empty)
  ∧ (∃ s : State, s.m.power.boot = Boot.rom ∧ s.m.upd.bank1.st = BankSt.trial ∧ s.m.upd.bank1.tries < 3 ∧
      s.m.upd.bank1.pkg = none ∧ s.m.upd.bank0.st = BankSt.good)
  ∧ (∃ (s : State) (t : Nat), (s.m.power.boot = Boot.cardRead ∨ s.m.power.boot = Boot.ready) ∧ s.m.power.handedOver +
      60000000000 ≤ max s.m.now t)
  ∧ (∃ (s : State) (t u : Nat) (h : PkgHdr), s.m.upd.trialFrom = some u ∧ s.m.upd.runBank = true ∧ s.m.upd.bank1.st =
      BankSt.trial ∧ s.m.upd.bank1.pkg = some h ∧ u + 10000000000 ≤ (s.m.start t).ltNs) :=
  ⟨⟨off id, false, by decide +kernel⟩,
   ⟨off fun m => dirty {m with power.failing := true}, by decide +kernel⟩,
   ⟨off fun m => dirty {m with prog.ownKey := .service}, by decide +kernel⟩,
   ⟨started .alone id, by decide +kernel⟩,
   ⟨inBist id, bistPassed, by decide +kernel⟩,
   ⟨inBist dirty, {bistPassed with lbist := [true,false,false]}, by decide +kernel⟩,
   ⟨inRom id, by decide +kernel⟩,
   ⟨inRom fun m => {m with upd.bank1 := {st := .trial, tries := 2}}, by decide +kernel⟩,
   ⟨inRom fun m => dirty {m with power.boot := .ready, power.handedOver := 9}, 60000000009, by decide +kernel⟩,
   ⟨started .owner fun m =>
     {m with upd := {m.upd with trialFrom := some 5, runBank := true, bank1 := {st := .trial, tries := 2, pkg := some package9}, svnFused := 3}},
     10000000005, 5, package9, by decide +kernel⟩⟩

theorem witness_PowerUpRunsTheBootSteps_more :
  (∃ (s : State) (held : Bool), s.m.power.boot = Boot.off ∧ s.m.power.failing = false ∧ (held = false ∨
      s.m.prog.ownKey ≠ KeyPos.service))
  ∧ (∃ s : State, s.m.power.boot ≠ Boot.off)
  ∧ (∃ s : State, s.m.power.boot ≠ Boot.off)
  ∧ (∃ (s : State) (r : BistRes), s.m.power.boot = Boot.bist ∧ r.pass = true)
  ∧ (∃ (s : State) (r : BistRes), s.m.power.boot = Boot.bist ∧ r.pass = true)
  ∧ (∃ (s : State) (r : BistRes), s.m.power.boot = Boot.bist ∧ r.pass = false)
  ∧ (∃ s : State, s.m.power.boot = Boot.rom ∧ s.m.upd.bank0.st = BankSt.good ∧ s.m.upd.bank0.pkg = none ∧
      s.m.upd.bank1.st = BankSt.empty) :=
  ⟨⟨off dirty, true, by decide +kernel⟩,
   ⟨started .owner dirty, by decide +kernel⟩,
   ⟨inBist id, by decide +kernel⟩,
   ⟨inBist dirty, {bistPassed with lbist := [true,false,true]}, by decide +kernel⟩,
   ⟨inBist fun m => {m with power.feed1 := 24000, bolt.ownPartner := true, bolt.lastStroke := 1},
     {bistPassed with lbist := [true,true,false]}, by decide +kernel⟩,
   ⟨inBist id, {bistPassed with rulesM := false}, by decide +kernel⟩,
   ⟨inRom dirty, by decide +kernel⟩⟩

theorem witness_ClocksAndDomainsAreSupervised :
  (∃ (s : State) (mv : Nat), 18000 ≤ s.m.power.feed1 ∧ mv < 18000)
  ∧ (∃ mv : Nat, 18000 ≤ mv)
  ∧ (∃ s : State, s.m.power.boot ≠ Boot.off ∧ s.m.power.sag = false)
  ∧ (∃ (s : State) (t : Nat), s.m.power.sagAt + 1000000 ≤ max s.m.now t)
  ∧ (∃ (s : State) (t : Nat), max s.m.now t < s.m.power.sagAt + 1000000)
  ∧ (∃ s : State, s.m.power.boot ≠ Boot.off)
  ∧ (∃ (s : State) (d : Nat), (d = 5 ∨ d = 6) ∧ s.m.powered d = true)
  ∧ (∃ s : State, s.m.powered 2 = true ∧ (s.m.lane LaneId.A).mode = LaneMode.serving ∧ s.m.serving.length = 3)
  ∧ (∃ s : State, s.m.powered 3 = true ∧ (s.m.lane LaneId.B).mode = LaneMode.serving ∧ s.m.serving.length ≤ 2 ∧
      s.m.newel.failed = false)
  ∧ (∃ (s : State) (p : Nat), p < 4 ∧ s.m.powered (7 + p) = true)
  ∧ (∃ s : State, s.m.powered 11 = true)
  ∧ (∃ s : State, s.m.powered 13 = true)
  ∧ (∃ (s : State) (t u : Nat), s.m.powered 12 = true ∧ tabFind s.m.power.tripAt 12 = some u ∧ max s.m.now t < u +
      1000000000)
  ∧ (∃ (s : State) (t u : Nat), s.m.powered 12 = true ∧ tabFind s.m.power.tripAt 12 = some u ∧ u + 1000000000 ≤ max
      s.m.now t)
  ∧ (∃ (s : State) (t u : Nat), s.m.power.tripped.getLsbD 11 = true ∧ tabFind s.m.power.tripAt 12 = some u ∧ u +
      10000000 ≤ max s.m.now t)
  ∧ (∃ (s : State) (t u : Nat), s.m.power.tripped.getLsbD 11 = true ∧ tabFind s.m.power.tripAt 12 = some u ∧ max
      s.m.now t < u + 10000000)
  ∧ (∃ (s : State) (t p : Nat), p < 4 ∧ s.m.powered (7 + p) = false ∧ s.m.portRole p ≠ PortRole.unused ∧ p ∈
      s.m.power.sfpFault ∧ ¬p ∈ s.m.power.sfpTried ∧ tabGet s.m.power.sfpAt 0 p + 10000000000 ≤ max s.m.now t)
  ∧ (∃ (s : State) (p : Nat), p ∈ s.m.power.sfpFault ∧ p ∈ s.m.power.sfpTried) :=
  ⟨⟨started .owner fun m => {m with power.feed1 := 18000}, 17999, by decide +kernel⟩,
   ⟨18000, by decide +kernel⟩,
   ⟨started .owner fun m => {m with power.sag := false}, by decide +kernel⟩,
   ⟨started .owner fun m => {m with power.sagAt := 5}, 1000005, by decide +kernel⟩,
   ⟨started .owner fun m => {m with power.sagAt := 5}, 1000004, by decide +kernel⟩,
   ⟨started .owner fun m => {m with power.sag := false}, by decide +kernel⟩,
   ⟨started .shadow dirty, 5, by decide +kernel⟩,
   ⟨started .alone id, by decide +kernel⟩,
   ⟨started .owner fun m => {m with lanes.a.mode := .retired}, by decide +kernel⟩,
   ⟨started .owner fun m => m.setPort 0 fun p => {p with link := true}, 0, by decide +kernel⟩,
   ⟨started .owner fun m => {m with bolt.ownSelf := true, bolt.livePartner := true, hall.link := .up, hall.hl0 := true},
     by decide +kernel⟩,
   ⟨started .owner dirty, by decide +kernel⟩,
   ⟨started .owner fun m => {m with power.tripAt := [(12, 7)]}, 1000000006, 7, by decide +kernel⟩,
   ⟨started .owner fun m => {m with power.tripAt := [(12, 7)], conv.calBusy := true}, 1000000007, 7, by decide +kernel⟩,
   ⟨started .owner fun m => {m with power.tripAt := [(12, 7)], power.tripped := 0x800, power.on := 0x37FF}, 10000007, 7,
     by decide +kernel⟩,
   ⟨started .owner fun m => {m with power.tripAt := [(12, 7)], power.tripped := 0x800, power.on := 0x37FF}, 10000006, 7,
     by decide +kernel⟩,
   ⟨started .owner fun m => {m with power.on := 0x3FBF, power.sfpFault := [0, 1], power.sfpAt := [(0, 5)]}, 10000000005,
     0, by decide +kernel⟩,
   ⟨started .owner fun m => {m with power.sfpFault := [0, 1], power.sfpTried := [0]}, 0, by decide +kernel⟩⟩

theorem witness_ClocksAndDomainsAreSupervised_more :
  (∃ s : State, s.m.power.boot ≠ Boot.off)
  ∧ (∃ s : State, s.m.power.boot ≠ Boot.off)
  ∧ (∃ (s : State) (d : Nat), (d = 5 ∨ d = 6) ∧ s.m.powered d = true)
  ∧ (∃ s : State, s.m.powered 2 = true ∧ (s.m.lane LaneId.A).mode = LaneMode.serving ∧ s.m.serving.length = 3)
  ∧ (∃ (s : State) (p : Nat), p < 4 ∧ s.m.powered (7 + p) = true)
  ∧ (∃ (s : State) (p : Nat), p < 4 ∧ s.m.powered (7 + p) = true)
  ∧ (∃ s : State, s.m.powered 11 = true)
  ∧ (∃ s : State, s.m.powered 11 = true)
  ∧ (∃ (s : State) (t p : Nat), p < 4 ∧ s.m.powered (7 + p) = false ∧ s.m.portRole p ≠ PortRole.unused ∧ p ∈
      s.m.power.sfpFault ∧ ¬p ∈ s.m.power.sfpTried ∧ tabGet s.m.power.sfpAt 0 p + 10000000000 ≤ max s.m.now t) :=
  ⟨⟨started .owner dirty, by decide +kernel⟩,
   ⟨started .shadow dirty, by decide +kernel⟩,
   ⟨started .alone id, 6, by decide +kernel⟩,
   ⟨started .owner fun m =>
     {m with lanes.a.ctxs := [(0, {(default:Ctx) with engs := [(0,{Eng.idle with st := .run})]})]}, by decide +kernel⟩,
   ⟨started .owner fun m => m.setPort 3 fun p => {p with link := true}, 3, by decide +kernel⟩,
   ⟨started .owner id, 0, by decide +kernel⟩,
   ⟨started .shadow fun m =>
     {m with bolt.ownPartner := true, bolt.livePartner := true, hall.link := .up, hall.hl0 := true},
     by decide +kernel⟩,
   ⟨started .alone id, by decide +kernel⟩,
   ⟨started .owner fun m => {m with power.on := 0x3F7F, power.sfpFault := [0, 1], power.sfpAt := [(0, 5)]}, 10000000005,
     1, by decide +kernel⟩⟩

theorem witness_DownloadsAndTestsProceed :
  (∃ (s : State) (i : Nat) (k : Nat × Nat), s.m.upd.dlQueue = [(i, k)])
  ∧ (∃ (s : State) (i : Nat) (k : Nat × Nat) (rest : List (Nat × Nat × Nat)), s.m.upd.dlQueue = (i, k) :: rest ∧
      s.m.upd.dlTry < 2)
  ∧ (∃ (s : State) (i : Nat) (k : Nat × Nat) (rest : List (Nat × Nat × Nat)), s.m.upd.dlQueue = (i, k) :: rest ∧ 2 ≤
      s.m.upd.dlTry ∧ s.m.upd.dlBank = true)
  ∧ (∃ s : State, s.m.upd.dl = DlState.verifying ∧ s.m.upd.dlBank = true)
  ∧ (∃ (s : State) (t : Nat), (s.m.upd.dl = DlState.receiving ∨ s.m.upd.dl = DlState.verifying) ∧ s.m.upd.dlLast +
      600000000000 ≤ max s.m.now t)
  ∧ (∃ (s : State) (t : Nat), s.m.upd.dlLast + 600000000000 > max s.m.now t)
  ∧ (∃ (s : State) (t : Nat), s.m.test.rot = RotSt.power ∧ s.m.test.rotAt + 1000000 ≤ max s.m.now t)
  ∧ (∃ s : State, s.m.test.rot = RotSt.bist)
  ∧ (∃ (s : State) (j : PortJob), s.m.test.portJobs = [j] ∧ j.trim = none) :=
  ⟨⟨downloads fun u => {u with dlQueue := [(3,(1,2))], dlDone := [1]}, 3, (1,2), by decide +kernel⟩,
   ⟨downloads fun u => {u with dlQueue := [(3,(1,2)),(4,(1,3))], dlTry := 1}, 3, (1,2), [(4,(1,3))], by decide +kernel⟩,
   ⟨downloads fun u => {u with dlQueue := [(3,(1,2)),(4,(1,3))], dlTry := 2}, 3, (1,2), [(4,(1,3))], by decide +kernel⟩,
   ⟨downloads fun u => {u with dl := .verifying, dlKey := some (1,2)}, by decide +kernel⟩,
   ⟨downloads fun u => {u with dlLast := 4, dlQueue := [(3,(1,2))]}, 600000000004, by decide +kernel⟩,
   ⟨downloads fun u => {u with dlLast := 4}, 600000000003, by decide +kernel⟩,
   ⟨rotates fun m => {m with test.rot := .power, test.rotAt := 7, power.on := 0x3FF7}, 1000007, by decide +kernel⟩,
   ⟨rotates fun m => {m with test.rot := .bist, lanes.c.mode := .test}, by decide +kernel⟩,
   ⟨rotates fun m => {m with test.portJobs := [⟨1, false, none, (1,2), false⟩]}, ⟨1, false, none, (1,2), false⟩,
     by decide +kernel⟩⟩

theorem witness_DownloadsAndTestsProceed_more :
  (∃ (s : State) (t : Nat), (s.m.upd.dl = DlState.receiving ∨ s.m.upd.dl = DlState.verifying) ∧ s.m.upd.dlLast +
      600000000000 ≤ max s.m.now t)
  ∧ (∃ (s : State) (j : PortJob), s.m.test.portJobs = [j] ∧ j.trim = none) :=
  ⟨⟨downloads fun u => {u with dlLast := 4, dl := .verifying}, 600000000004, by decide +kernel⟩,
   ⟨rotates fun m => {m with test.portJobs := [⟨1, true, none, (1,2), false⟩]}, ⟨1, true, none, (1,2), false⟩,
     by decide +kernel⟩⟩

theorem witness_SavisSessionsOpenAndClose :
  (∃ (s : State) (conn : Nat) (eng2 ok : Bool), tabFind s.m.savis.conns conn = none ∧ (∀ (p : Nat × Sess), p ∈
      s.m.savis.sess → p.snd.conn ≠ conn) ∧ s.m.answersIp eng2 (s.m.ownIp eng2) = true ∧ s.m.savis.anchors ≠ [] ∧ (ok
      = true ∨ s.m.time.calValid = false))
  ∧ (∃ (s : State) (conn id lo hi : Nat) (c : Conn) (role : SRole) (k : Nat), tabFind s.m.savis.conns conn = some c ∧
      c.role = some role ∧ id ≠ 0 ∧ s.m.savis.freeSess = some k ∧ s.m.upd.porch = false ∧ 1 ≤ lo ∧ lo ≤ min hi 4)
  ∧ (∃ (s : State) (conn id lo : Nat) (c : Conn) (role : SRole), tabFind s.m.savis.conns conn = some c ∧ c.role =
      some role ∧ id ≠ 0 ∧ s.m.upd.porch = false ∧ 4 < lo)
  ∧ (∃ (s : State) (k : Nat) (x : Sess), tabFind s.m.savis.sess k = some x ∧ s.m.test.dbgOpen ≠ some k)
  ∧ (∃ (s : State) (t k : Nat) (x : Sess), tabFind s.m.savis.sess k = some x ∧ s.m.test.dbgOpen ≠ some k ∧ x.last +
      60000000000 ≤ max s.m.now t)
  ∧ (∃ (s : State) (t k : Nat) (x : Sess), tabFind s.m.savis.sess k = some x ∧ s.m.test.dbgOpen ≠ some k ∧ max
      s.m.now t < x.last + 60000000000)
  ∧ (∃ (s : State) (k : Nat) (x : Sess), tabFind s.m.savis.sess k = some x ∧ s.m.test.dbgOpen = some k ∧
      s.m.pair.role = Role.alone)
  ∧ (∃ (s : State) (eng2 : Bool) (ip : Nat), s.m.answersIp eng2 ip = true)
  ∧ (∃ (s : State) (eng2 : Bool) (ip : Nat), s.m.answersIp eng2 ip = false)
  ∧ (∃ (s : State) (client id : Nat) (q : SReq) (o : Outc), q ∈ s.m.savis.reqs ∧ q.client = client ∧ q.id = id ∧
      q.outcome = some o)
  ∧ (∃ (s : State) (t : Nat) (u : Upload), s.m.savis.upload = some u ∧ u.last + 600000000000 ≤ max s.m.now t)
  ∧ (∃ (s : State) (t k no : Nat) (z : Sess) (y : Sub) (a : Area) (out : Bool), tabFind s.m.savis.sess k = some z ∧
      tabFind z.subs no = some y ∧ y.change = false ∧ y.due ≤ max s.m.now t ∧ y.unsent = false ∧ y.body.count = 0 ∧
      y.body.ofs = 0 ∧ objImage y.body.obj = some (a, out) ∧ y.body.len ≤ 1024 ∧ y.body.first + y.body.len ≤ areaSize
      a) :=
  ⟨⟨savis id, 3, false, true, by decide +kernel⟩,
   ⟨savis fun v => {v with conns := [(3, conn0)], sess := [(0,{conn := 1, client := 5})]}, 3, 7, 1, 9, conn0, .engineer,
     1, by decide +kernel⟩,
   ⟨savis fun v => {v with conns := [(3, conn0)], sess := [(0,{conn := 1, client := 5})]}, 3, 7, 5, conn0, .engineer,
     by decide +kernel⟩,
   ⟨savis fun v => {v with sess := [(2, session1)]}, 2, session1, by decide +kernel⟩,
   ⟨savis fun v => {v with sess := [(2, session1)]}, 60000000006, 2, session1, by decide +kernel⟩,
   ⟨savis fun v => {v with sess := [(2, session1)]}, 60000000005, 2, session1, by decide +kernel⟩,
   ⟨started .alone fun m =>
     {m with savis.sess := [(2, session1)], test.dbgOpen := some 2, test.halted := true, test.breaks := [(1,⟨1,2⟩)], lanes.a.mode := .halted},
     2, session1, by decide +kernel⟩,
   ⟨savis id, false, 0x0A000001, by decide +kernel⟩,
   ⟨savis id, true, 0x0A000001, by decide +kernel⟩,
   ⟨savis fun v => {v with reqs := [done1]}, 5, 1, done1, .done, by decide +kernel⟩,
   ⟨savis fun v => {v with upload := some {last := 7}}, 600000000007, {last := 7}, by decide +kernel⟩,
   ⟨started .alone fun m =>
     {m with savis.sess := [(2, {session1 with subs := [(3, notify9)]})], pantry.out0.imgOut := [(9,9)]}, 5000, 2, 3,
     {session1 with subs := [(3, notify9)]}, notify9, .imgOut, true, by decide +kernel⟩⟩

theorem witness_SavisSessionsOpenAndClose_more :
  (∃ (s : State) (conn : Nat) (eng2 ok : Bool), tabFind s.m.savis.conns conn = none ∧ (∀ (p : Nat × Sess), p ∈
      s.m.savis.sess → p.snd.conn ≠ conn) ∧ s.m.answersIp eng2 (s.m.ownIp eng2) = true ∧ s.m.savis.anchors ≠ [] ∧ (ok
      = true ∨ s.m.time.calValid = false))
  ∧ (∃ (s : State) (conn id lo hi : Nat) (c : Conn) (role : SRole) (k : Nat), tabFind s.m.savis.conns conn = some c ∧
      c.role = some role ∧ id ≠ 0 ∧ s.m.savis.freeSess = some k ∧ s.m.upd.porch = false ∧ 1 ≤ lo ∧ lo ≤ min hi 4)
  ∧ (∃ (s : State) (k : Nat) (x : Sess), tabFind s.m.savis.sess k = some x ∧ s.m.test.dbgOpen ≠ some k)
  ∧ (∃ (s : State) (k : Nat) (x : Sess), tabFind s.m.savis.sess k = some x ∧ s.m.test.dbgOpen = some k ∧
      s.m.pair.role = Role.alone)
  ∧ (∃ (s : State) (eng2 : Bool) (ip : Nat), s.m.answersIp eng2 ip = true)
  ∧ (∃ (s : State) (client id : Nat) (q : SReq) (o : Outc), q ∈ s.m.savis.reqs ∧ q.client = client ∧ q.id = id ∧
      q.outcome = some o)
  ∧ (∃ (s : State) (client id : Nat) (q : SReq) (o : Outc), q ∈ s.m.savis.reqs ∧ q.client = client ∧ q.id = id ∧
      q.outcome = some o) :=
  ⟨⟨savis id, 3, true, false, by decide +kernel⟩,
   ⟨savis fun v => {v with conns := [(3, conn0)]}, 3, 7, 4, 4, conn0, .engineer, 0, by decide +kernel⟩,
   ⟨savis fun v => {v with sess := [(2, {session1 with psa := true})], net.psa1 := 5}, 2, {session1 with psa := true},
     by decide +kernel⟩,
   ⟨started .alone fun m =>
     {m with savis.sess := [(2, session1)], test.dbgOpen := some 2, test.halting := true, test.haltKey := some (5,1), savis.reqs := [{client := 5, id := 1, session := 2}], test.breaks := [(1,⟨1,2⟩)]},
     2, session1, by decide +kernel⟩,
   ⟨savis id, true, 0x0A000101, by decide +kernel⟩,
   ⟨savis fun v => {v with reqs := [done1, {done1 with ended := 9}]}, 5, 1, done1, .done, by decide +kernel⟩,
   ⟨savis fun v => {v with reqs := [done1, {done1 with ended := 9}]}, 5, 1, {done1 with ended := 9}, .done,
     by decide +kernel⟩⟩

end Power

/-! ## Requests -/

namespace Requests

/-- A session with a role. -/
def session (r : SRole) : Sess := { conn := 4, client := 5, last := 6, ver := 4, role := r }

/-- A request with a valid body. -/
def rq : Req := ⟨5000, 2, 9, true⟩

/-- A module in a role with a key position and a session. -/
def with_ (ro : Role) (k : KeyPos) (r : SRole) (f : Mod → Mod) : Machine.State := started ro fun m => f
  {m with savis.anchors := [9], savis.sess := [(2, session r)], prog.pairKey := k, power.sag := false}

/-- The session of an engineer. -/
def engineer : Sess := session .engineer

/-- An answered request. -/
def old : SReq :=
  {client := 5, id := 8, session := 2, outcome := some .done, ended := 4000, reason := 3, data := [1,2]}

/-- As many requests as may run. -/
def many : List SReq := (List.range 32).map fun k => {old with id := 100 + k, outcome := none}

/-- A request that is not retained. -/
def rq0 : Req := {rq with id := 0}

/-- A writable card. -/
def withCard (m : Mod) : Mod :=
  {m with card := {m.card with card := some card0, locked := true, writable := true, nextSeq := 10, lastSb := some super0}}

/-- An image upload of which `n` bytes came. -/
def uploading (n : Nat) (m : Mod) : Mod := withCard {m with savis.upload := some ⟨true, 4096, n, 7⟩}

/-- A complete upload for a change. -/
def uploaded (f : Mod → Mod) (m : Mod) : Mod := f (withCard
  {m with savis.upload := some ⟨false, 4096, 4096, 7⟩, prog.image := some goodImage})

/-- A complete upload for a load. -/
def loaded (f : Mod → Mod) (m : Mod) : Mod := f (uploading 4096 m)

/-- A commit record. -/
def commit0 : Commit := ⟨1, 2, 3, 4, 5, 6, 77, []⟩

/-- An Attic with one retained word. -/
def atticOf (m : Mod) : Mod :=
  {m with prog.image := some goodImage, attic := {m.attic with hdrA := ⟨true, .valid, 4, 0, 0, some commit0⟩, home := [(3, 9)]}}

theorem witness_RequestsPassTheGeneralChecks :
  (∃ (s : State) (c : Instr) (r : Req) (x : Sess), engineerReq c = some r ∧ Fresh s r x ∧ x.role ≠ SRole.engineer ∧ 1
      ≤ x.ver)
  ∧ (∃ (s : State) (c : Instr) (r : Req) (x : Sess), ownerReq c = some r ∧ Fresh s r x ∧ x.role = SRole.engineer ∧ 1
      ≤ x.ver ∧ s.m.controls = false)
  ∧ (∃ (s : State) (c : Instr) (r : Req) (ks : List KeyPos) (x : Sess), modeReq c = some (r, ks) ∧ Fresh s r x ∧
      x.role = SRole.engineer ∧ 1 ≤ x.ver ∧ s.m.controls = true ∧ ¬s.m.prog.pairKey ∈ ks)
  ∧ (∃ (s : State) (c : Instr) (r : Req) (x : Sess) (q : SReq) (o : Outc), engineerReq c = some r ∧ tabFind
      s.m.savis.sess r.session = some x ∧ r.id ≠ 0 ∧ List.find? (fun (q : SReq) => decide (q.client = x.client) &&
      decide (q.id = r.id)) s.m.savis.reqs = some q ∧ q.outcome = some o ∧ max s.m.now r.moment < q.ended +
      60000000000 ∧ (∀ (p : SReq), p ∈ s.m.savis.reqs → p.cmd = none ∧ (p.client = x.client → p.id = r.id → p.outcome
      ≠ none)))
  ∧ (∃ (s : State) (c : Instr) (r : Req) (x : Sess), engineerReq c = some r ∧ tabFind s.m.savis.sess r.session = some
      x ∧ r.id ≠ 0 ∧ 1 ≤ x.ver ∧ (∀ (q : SReq), q ∈ s.m.savis.reqs → ¬(q.client = x.client ∧ q.id = r.id)) ∧ (∀ (q :
      SReq), q ∈ s.m.savis.reqs → q.cmd = none) ∧ s.m.queueFull r.session x.client = true)
  ∧ (∃ (s : State) (r : Req) (x : Sess), Fresh s r x ∧ x.ver < 3)
  ∧ (∃ (s : State) (r : Req) (x : Sess), tabFind s.m.savis.sess r.session = some x ∧ r.id = 0 ∧ s.m.test.dbgOpen ≠
      some r.session)
  ∧ (∃ (s : State) (r : Req) (x : Sess), tabFind s.m.savis.sess r.session = some x ∧ r.id ≠ 0 ∧ 1 ≤ x.ver ∧ r.bodyOk
      = true ∧ s.m.savis.anchors ≠ [] ∧ s.m.upd.porch = false)
  ∧ (∃ (s : State) (r : Req) (x : Sess) (no : Nat), tabFind s.m.savis.sess r.session = some x ∧ r.id ≠ 0 ∧ 2 ≤ x.ver
      ∧ r.bodyOk = true ∧ no < 16 ∧ s.m.savis.anchors ≠ [] ∧ s.m.upd.porch = false) :=
  ⟨⟨with_ .alone .run .operator id, .switchover rq, rq, session .operator, by decide +kernel⟩,
   ⟨with_ .shadow .halt .engineer id, .restartCold rq, rq, engineer, by decide +kernel⟩,
   ⟨with_ .alone .run .engineer id, .imgOpen rq true 3, rq, [.halt], engineer, by decide +kernel⟩,
   ⟨with_ .alone .edit .engineer fun m => {m with savis.reqs := [{old with id := 9}]}, .caSet rq [1], rq, engineer,
     {old with id := 9}, .done, by decide +kernel⟩,
   ⟨with_ .alone .edit .viewer fun m => {m with savis.reqs := many}, .switchover rq, rq, session .viewer,
     by decide +kernel⟩,
   ⟨with_ .alone .edit .viewer fun m => {m with savis.sess := [(2, {session .viewer with ver := 2})]}, rq,
     {session .viewer with ver := 2}, by decide +kernel⟩,
   ⟨with_ .alone .edit .viewer id, rq0, session .viewer, by decide +kernel⟩,
   ⟨with_ .alone .edit .viewer id, rq, session .viewer, by decide +kernel⟩,
   ⟨with_ .alone .edit .viewer fun m => {m with savis.sess := [(2, {session .viewer with subs := [(15, default)]})]},
     rq, {session .viewer with subs := [(15, default)]}, 15, by decide +kernel⟩⟩

theorem witness_RequestsPassTheGeneralChecks_more :
  (∃ (s : State) (c : Instr) (r : Req) (x : Sess), engineerReq c = some r ∧ Fresh s r x ∧ x.role ≠ SRole.engineer ∧ 1
      ≤ x.ver)
  ∧ (∃ (s : State) (c : Instr) (r : Req) (x : Sess), engineerReq c = some r ∧ Fresh s r x ∧ x.role ≠ SRole.engineer ∧
      1 ≤ x.ver)
  ∧ (∃ (s : State) (c : Instr) (r : Req) (x : Sess), ownerReq c = some r ∧ Fresh s r x ∧ x.role = SRole.engineer ∧ 1
      ≤ x.ver ∧ s.m.controls = false)
  ∧ (∃ (s : State) (c : Instr) (r : Req) (x : Sess), ownerReq c = some r ∧ Fresh s r x ∧ x.role = SRole.engineer ∧ 1
      ≤ x.ver ∧ s.m.controls = false)
  ∧ (∃ (s : State) (c : Instr) (r : Req) (ks : List KeyPos) (x : Sess), modeReq c = some (r, ks) ∧ Fresh s r x ∧
      x.role = SRole.engineer ∧ 1 ≤ x.ver ∧ s.m.controls = true ∧ ¬s.m.prog.pairKey ∈ ks)
  ∧ (∃ (s : State) (c : Instr) (r : Req) (ks : List KeyPos) (x : Sess), modeReq c = some (r, ks) ∧ Fresh s r x ∧
      x.role = SRole.engineer ∧ 1 ≤ x.ver ∧ s.m.controls = true ∧ ¬s.m.prog.pairKey ∈ ks)
  ∧ (∃ (s : State) (c : Instr) (r : Req) (x : Sess) (q : SReq) (o : Outc), engineerReq c = some r ∧ tabFind
      s.m.savis.sess r.session = some x ∧ r.id ≠ 0 ∧ List.find? (fun (q : SReq) => decide (q.client = x.client) &&
      decide (q.id = r.id)) s.m.savis.reqs = some q ∧ q.outcome = some o ∧ max s.m.now r.moment < q.ended +
      60000000000 ∧ (∀ (p : SReq), p ∈ s.m.savis.reqs → p.cmd = none ∧ (p.client = x.client → p.id = r.id → p.outcome
      ≠ none)))
  ∧ (∃ (s : State) (c : Instr) (r : Req) (x : Sess), engineerReq c = some r ∧ tabFind s.m.savis.sess r.session = some
      x ∧ r.id ≠ 0 ∧ 1 ≤ x.ver ∧ (∀ (q : SReq), q ∈ s.m.savis.reqs → ¬(q.client = x.client ∧ q.id = r.id)) ∧ (∀ (q :
      SReq), q ∈ s.m.savis.reqs → q.cmd = none) ∧ s.m.queueFull r.session x.client = true)
  ∧ (∃ (s : State) (r : Req) (x : Sess), tabFind s.m.savis.sess r.session = some x ∧ r.id ≠ 0 ∧ 1 ≤ x.ver ∧ r.bodyOk
      = true ∧ s.m.savis.anchors ≠ [] ∧ s.m.upd.porch = false) :=
  ⟨⟨with_ .alone .run .viewer id, .restartCold rq, rq, session .viewer, by decide +kernel⟩,
   ⟨with_ .out .run .viewer id, .dbgRead rq 3 4, rq, session .viewer, by decide +kernel⟩,
   ⟨with_ .out .halt .engineer id, .switchover rq, rq, engineer, by decide +kernel⟩,
   ⟨with_ .out .halt .engineer id, .projEnroll rq 3 true true, rq, engineer, by decide +kernel⟩,
   ⟨with_ .alone .halt .engineer id, .imgOpen rq false 3, rq, [.edit, .service], engineer, by decide +kernel⟩,
   ⟨with_ .alone .run .engineer id, .imgEndChange rq 3 image0, rq, [.edit, .service], engineer, by decide +kernel⟩,
   ⟨with_ .alone .edit .viewer fun m => {m with savis.reqs := [{old with id := 9}]}, .switchover rq, rq, session
     .viewer, {old with id := 9}, .done, by decide +kernel⟩,
   ⟨with_ .alone .edit .engineer fun m => {m with savis.reqs := many}, .dbgRead rq 1 2, rq, engineer, by decide +kernel⟩,
   ⟨with_ .out .run .engineer fun m => {m with savis.reqs := many}, rq, engineer, by decide +kernel⟩⟩

theorem witness_ReadsWritesAndSubscriptions :
  (∃ (s : State) (r : Req) (b : ReadBody) (x : Sess) (a : Area) (out : Bool), Fresh s r x ∧ 1 ≤ x.ver ∧ b.count = 0 ∧
      b.ofs = 0 ∧ objImage b.obj = some (a, out) ∧ b.len ≤ 32768 ∧ b.first + b.len ≤ areaSize a)
  ∧ (∃ (s : State) (r : Req) (x : Sess) (ofs len : Nat), Fresh s r x ∧ 1 ≤ x.ver ∧ ofs % 4 = 0 ∧ len % 4 = 0 ∧ ofs +
      len ≤ 44)
  ∧ (∃ (s : State) (r : Req) (b : ReadBody) (x : Sess), Fresh s r x ∧ 1 ≤ x.ver ∧ objShape b.obj = none ∧ objImage
      b.obj = none)
  ∧ (∃ (s : State) (r : Req) (b : ReadBody) (x : Sess) (n size : Nat), Fresh s r x ∧ 1 ≤ x.ver ∧ objShape b.obj =
      some (n, size) ∧ (b.count = 0 ∨ n < b.first + b.count ∨ size < b.ofs + b.len))
  ∧ (∃ (s : State) (r : Req) (b : ReadBody) (x : Sess) (a : Area) (out : Bool), Fresh s r x ∧ 3 ≤ x.ver ∧ b.count = 0
      ∧ b.ofs = 0 ∧ objImage b.obj = some (a, out) ∧ b.len ≤ 16384 ∧ b.first + b.len ≤ areaSize a)
  ∧ (∃ (s : State) (r : Req) (bs : List ReadBody) (x : Sess), Fresh s r x ∧ 3 ≤ x.ver ∧ 16 < bs.length)
  ∧ (∃ (s : State) (r : Req) (x : Sess) (v : W32), ByEngineer s r x ∧ BitVec.getLsbD v 31 = true)
  ∧ (∃ (s : State) (r : Req) (x : Sess) (v : W32), ByEngineer s r x ∧ BitVec.getLsbD v 31 = false)
  ∧ (∃ (s : State) (r : Req) (x : Sess) (obj first ofs n size : Nat), ByEngineer s r x ∧ objShape obj = some (n,
      size) ∧ obj ≠ 24 ∧ first < n ∧ ofs % 4 = 0 ∧ ofs + 4 ≤ size)
  ∧ (∃ (s : State) (r : Req) (x : Sess) (id : Nat) (q : SReq) (o : Outc), Fresh s r x ∧ 1 ≤ x.ver ∧ id ≠ r.id ∧
      List.find? (fun (q : SReq) => decide (q.client = x.client) && decide (q.id = id)) s.m.savis.reqs = some q ∧
      q.outcome = some o ∧ max s.m.now r.moment < q.ended + 60000000000)
  ∧ (∃ (s : State) (r : Req) (x : Sess) (id : Nat), Fresh s r x ∧ 1 ≤ x.ver ∧ id ≠ r.id ∧ (∀ (q : SReq), q ∈
      s.m.savis.reqs → ¬(q.client = x.client ∧ q.id = id)))
  ∧ (∃ (s : State) (r : Req) (x : Sess) (no : Nat) (b : ReadBody) (a : Area) (out : Bool) (ms : Nat), Fresh s r x ∧ 2
      ≤ x.ver ∧ no < 16 ∧ 10 ≤ ms ∧ ms ≤ 60000 ∧ b.count = 0 ∧ b.ofs = 0 ∧ objImage b.obj = some (a, out) ∧ b.len ≤
      1024 ∧ b.first + b.len ≤ areaSize a ∧ s.m.savis.subs < 64)
  ∧ (∃ (s : State) (r : Req) (x : Sess), tabFind s.m.savis.sess r.session = some x ∧ r.id ≠ 0 ∧ r.bodyOk = true ∧
      s.m.upd.porch = true ∧ 1 ≤ x.ver ∧ x.role = SRole.engineer ∧ s.m.savis.anchors ≠ [] ∧ (∀ (q : SReq), q ∈
      s.m.savis.reqs → ¬(q.client = x.client ∧ q.id = r.id)) ∧ (∀ (q : SReq), q ∈ s.m.savis.reqs → q.cmd = none) ∧
      s.m.queueFull r.session x.client = false ∧ (List.filter SReq.runs s.m.savis.reqs).length < 8)
  ∧ (∃ (s : State) (r : Req) (x : Sess), tabFind s.m.savis.sess r.session = some x ∧ r.id ≠ 0 ∧ r.bodyOk = true ∧
      s.m.upd.porch = true ∧ 1 ≤ x.ver ∧ x.role = SRole.engineer ∧ s.m.savis.anchors ≠ [] ∧ (∀ (q : SReq), q ∈
      s.m.savis.reqs → ¬(q.client = x.client ∧ q.id = r.id)) ∧ (∀ (q : SReq), q ∈ s.m.savis.reqs → q.cmd = none) ∧
      s.m.queueFull r.session x.client = false ∧ (List.filter SReq.runs s.m.savis.reqs).length < 8 ∧
      s.m.upd.porchByKey = true) :=
  ⟨⟨with_ .alone .run .viewer fun m => {m with pantry.out0.imgOut := [(9,7)]}, rq, ⟨0xF1, 8, 0, 0, 4⟩, session .viewer,
     .imgOut, true, by decide +kernel⟩,
   ⟨with_ .out .run .viewer id, rq, session .viewer, 0x14, 0x18, by decide +kernel⟩,
   ⟨with_ .alone .run .viewer id, rq, ⟨0xEE, 8, 0, 0, 4⟩, session .viewer, by decide +kernel⟩,
   ⟨with_ .alone .run .viewer id, rq, ⟨0x10, 1, 1, 0, 4⟩, session .viewer, 1, 0x28, by decide +kernel⟩,
   ⟨with_ .alone .run .viewer id, rq, ⟨0xF1, 8, 0, 0, 4⟩, session .viewer, .imgOut, true, by decide +kernel⟩,
   ⟨with_ .alone .run .viewer id, rq, List.replicate 17 ⟨0xF1, 8, 0, 0, 4⟩, session .viewer, by decide +kernel⟩,
   ⟨with_ .out .run .engineer fun m => {m with access.viol := 0x80000077, access.violCount := 7}, rq, engineer,
     0x80000000, by decide +kernel⟩,
   ⟨with_ .out .run .engineer fun m => {m with access.viol := 0x80000077, access.violCount := 7}, rq, engineer,
     0x7FFFFFFF, by decide +kernel⟩,
   ⟨with_ .out .run .engineer id, rq, engineer, 0x10, 0, 0, 1, 0x28, by decide +kernel⟩,
   ⟨with_ .out .run .viewer fun m => {m with savis.reqs := [old]}, rq, session .viewer, 8, old, .done, by decide +kernel⟩,
   ⟨with_ .out .run .viewer fun m => {m with savis.reqs := [old]}, rq, session .viewer, 7, by decide +kernel⟩,
   ⟨with_ .out .run .viewer id, rq, session .viewer, 15, ⟨0xF1, 8, 0, 0, 4⟩, .imgOut, true, 10, by decide +kernel⟩,
   ⟨with_ .out .run .engineer fun m => {m with upd.porch := true, power.boot := .porch}, rq, engineer, by decide +kernel⟩,
   ⟨with_ .out .run .engineer fun m =>
     {m with upd.porch := true, upd.porchByKey := true, upd.project := some 7, power.boot := .porch}, rq, engineer,
     by decide +kernel⟩⟩

theorem witness_ReadsWritesAndSubscriptions_more :
  (∃ (s : State) (r : Req) (b : ReadBody) (x : Sess) (a : Area) (out : Bool), Fresh s r x ∧ 1 ≤ x.ver ∧ b.count = 0 ∧
      b.ofs = 0 ∧ objImage b.obj = some (a, out) ∧ b.len ≤ 32768 ∧ b.first + b.len ≤ areaSize a)
  ∧ (∃ (s : State) (r : Req) (x : Sess) (ofs len : Nat), Fresh s r x ∧ 1 ≤ x.ver ∧ ofs % 4 = 0 ∧ len % 4 = 0 ∧ ofs +
      len ≤ 44)
  ∧ (∃ (s : State) (r : Req) (b : ReadBody) (x : Sess) (n size : Nat), Fresh s r x ∧ 1 ≤ x.ver ∧ objShape b.obj =
      some (n, size) ∧ (b.count = 0 ∨ n < b.first + b.count ∨ size < b.ofs + b.len))
  ∧ (∃ (s : State) (r : Req) (b : ReadBody) (x : Sess) (n size : Nat), Fresh s r x ∧ 1 ≤ x.ver ∧ objShape b.obj =
      some (n, size) ∧ (b.count = 0 ∨ n < b.first + b.count ∨ size < b.ofs + b.len))
  ∧ (∃ (s : State) (r : Req) (x : Sess) (obj first ofs n size : Nat), ByEngineer s r x ∧ objShape obj = some (n,
      size) ∧ obj ≠ 24 ∧ first < n ∧ ofs % 4 = 0 ∧ ofs + 4 ≤ size)
  ∧ (∃ (s : State) (r : Req) (x : Sess) (no : Nat) (b : ReadBody) (a : Area) (out : Bool) (ms : Nat), Fresh s r x ∧ 2
      ≤ x.ver ∧ no < 16 ∧ 10 ≤ ms ∧ ms ≤ 60000 ∧ b.count = 0 ∧ b.ofs = 0 ∧ objImage b.obj = some (a, out) ∧ b.len ≤
      1024 ∧ b.first + b.len ≤ areaSize a ∧ s.m.savis.subs < 64)
  ∧ (∃ (s : State) (r : Req) (x : Sess), tabFind s.m.savis.sess r.session = some x ∧ r.id ≠ 0 ∧ r.bodyOk = true ∧
      s.m.upd.porch = true ∧ 1 ≤ x.ver ∧ x.role = SRole.engineer ∧ s.m.savis.anchors ≠ [] ∧ (∀ (q : SReq), q ∈
      s.m.savis.reqs → ¬(q.client = x.client ∧ q.id = r.id)) ∧ (∀ (q : SReq), q ∈ s.m.savis.reqs → q.cmd = none) ∧
      s.m.queueFull r.session x.client = false ∧ (List.filter SReq.runs s.m.savis.reqs).length < 8) :=
  ⟨⟨with_ .out .run .viewer fun m =>
     {m with pantry.buf0.imgIn := [(9,7)], pantry.buf1.imgIn := [(8,7)], pantry.buf2.imgIn := [(10,7)]}, rq, ⟨0xF0,
     8, 0, 0, 4⟩, session .viewer, .imgIn, false, by decide +kernel⟩,
   ⟨with_ .alone .run .viewer (fun m => {m with access.violAddr := 0x12345678}), rq, session .viewer, 0, 0x2C,
     by decide +kernel⟩,
   ⟨with_ .alone .run .viewer id, rq, ⟨0x10, 0, 1, 0x28, 4⟩, session .viewer, 1, 0x28, by decide +kernel⟩,
   ⟨with_ .alone .run .viewer id, rq, ⟨0x3B, 0, 0, 0, 4⟩, session .viewer, 1, 0x30, by decide +kernel⟩,
   ⟨with_ .out .run .engineer id, rq, engineer, 0x3C, 0, 0x30, 1, 0x34, by decide +kernel⟩,
   ⟨with_ .alone .run .viewer id, rq, session .viewer, 0, ⟨0xF0, 8, 0, 0, 1024⟩, .imgIn, false, 60000, by decide +kernel⟩,
   ⟨with_ .out .run .engineer fun m =>
     {m with upd.porch := true, upd.project := some 7, power.boot := .porch, savis.serial := 7}, rq, engineer,
     by decide +kernel⟩⟩

theorem witness_ItemsAndImagesAreTaken :
  (∃ (s : State) (r : Req) (x : Sess) (stn ms idx sub : Nat), ItemReady s r x stn ms idx sub [])
  ∧ (∃ (s : State) (r : Req) (x : Sess) (stn ms idx sub : Nat) (data : List Byte), ItemReady s r x stn ms idx sub
      data)
  ∧ (∃ (s : State) (r : Req) (x : Sess) (stn : Nat) (data : List Byte), Fresh s r x ∧ x.role = SRole.operator ∧ 1 ≤
      x.ver ∧ s.m.controls = true ∧ data.length ≤ verData (s.m.stn stn).ver ∧ 8 ≤ (s.m.stn stn).items.length)
  ∧ (∃ (s : State) (r : Req) (x : Sess) (load : Bool) (len : Nat), ByEngineer s r x ∧ s.m.controls = true ∧
      (s.m.prog.pairKey = if load = true then KeyPos.halt else KeyPos.edit) ∧ 0 < len ∧ len ≤ 67043264 ∧
      s.m.savis.upload = none ∧ s.m.card.comp = none ∧ s.m.cardWritable = true)
  ∧ (∃ (s : State) (r : Req) (x : Sess) (u : Upload) (len : Nat), ByEngineer s r x ∧ s.m.controls = true ∧
      s.m.savis.upload = some u ∧ 0 < len ∧ len ≤ 65536 ∧ u.next + len ≤ u.length ∧ s.m.card.usable = true ∧
      s.m.powered 13 = true)
  ∧ (∃ (s : State) (r : Req) (x : Sess) (u : Upload) (len : Nat), ByEngineer s r x ∧ s.m.controls = true ∧
      s.m.savis.upload = some u ∧ 0 < len ∧ len ≤ 65536 ∧ u.next + len ≤ u.length)
  ∧ (∃ (s : State) (r : Req) (x : Sess) (u : Upload) (ofs : Nat), ByEngineer s r x ∧ s.m.controls = true ∧
      s.m.savis.upload = some u ∧ ofs ≠ u.next)
  ∧ (∃ (s : State) (r : Req) (x : Sess) (img : Image), ByEngineer s r x ∧ s.m.pair.role = Role.alone ∧
      s.m.prog.pairKey = KeyPos.edit ∧ s.m.uploadEnds false img.digest img = true ∧ s.m.prog.chgState ≠
      ChgState.checking ∧ s.m.prog.chgState ≠ ChgState.staged ∧ s.m.cardWritable = true ∧ (s.m.changeCheck img).fst =
      0)
  ∧ (∃ (s : State) (r : Req) (x : Sess) (img : Image), ByEngineer s r x ∧ s.m.controls = true ∧ s.m.prog.pairKey =
      KeyPos.halt ∧ s.m.uploadEnds true img.digest img = true ∧ s.m.prog.load = none ∧ s.m.cardWritable = true ∧
      imageCheck s.m.upd.project img = 0)
  ∧ (∃ (s : State) (r : Req) (x : Sess) (img : Image), ByEngineer s r x ∧ s.m.controls = true ∧ s.m.prog.pairKey =
      KeyPos.halt ∧ s.m.uploadEnds true img.digest img = true ∧ s.m.prog.load = none ∧ s.m.cardWritable = true ∧
      imageCheck s.m.upd.project img = 0 ∧ s.m.prog.image = none)
  ∧ (∃ (s : State) (r : Req) (x : Sess) (img : Image) (code : Nat), ByEngineer s r x ∧ s.m.controls = true ∧
      s.m.prog.pairKey = KeyPos.halt ∧ s.m.uploadEnds true img.digest img = true ∧ s.m.prog.load = none ∧
      s.m.cardWritable = true ∧ imageCheck s.m.upd.project img = code ∧ code ≠ 0)
  ∧ (∃ (s : State) (r : Req) (x : Sess) (u : Upload), ByEngineer s r x ∧ s.m.controls = true ∧ s.m.savis.upload =
      some u)
  ∧ (∃ (s : State) (r : Req) (x : Sess), ByEngineer s r x ∧ s.m.controls = true ∧ s.m.savis.upload = none) :=
  ⟨⟨with_ .alone .run .operator id, rq, session .operator, 1, 0, 65535, 255, by decide +kernel⟩,
   ⟨with_ .alone .run .operator id, rq, session .operator, 1, 0, 65535, 255, [1,2], by decide +kernel⟩,
   ⟨with_ .alone .run .operator fun m => m.setStn 1 fun z => {z with items := List.replicate 8 default}, rq, session
     .operator, 1, [1,2], by decide +kernel⟩,
   ⟨with_ .alone .halt .engineer withCard, rq, engineer, true, 67043264, by decide +kernel⟩,
   ⟨with_ .alone .edit .engineer (uploading 4000), rq, engineer, ⟨true, 4096, 4000, 7⟩, 96, by decide +kernel⟩,
   ⟨with_ .alone .edit .engineer (uploading 4000), rq, engineer, ⟨true, 4096, 4000, 7⟩, 96, by decide +kernel⟩,
   ⟨with_ .alone .edit .engineer (uploading 4000), rq, engineer, ⟨true, 4096, 4000, 7⟩, 3999, by decide +kernel⟩,
   ⟨with_ .alone .edit .engineer (uploaded id), rq, engineer, {goodImage with generation := 6}, by decide +kernel⟩,
   ⟨with_ .alone .halt .engineer (loaded id), rq, engineer, goodImage, by decide +kernel⟩,
   ⟨with_ .alone .halt .engineer (loaded fun m => {m with prog.image := none}), rq, engineer, goodImage,
     by decide +kernel⟩,
   ⟨with_ .alone .halt .engineer (loaded id), rq, engineer, {goodImage with magic := 0}, 1, by decide +kernel⟩,
   ⟨with_ .alone .halt .engineer (loaded id), rq, engineer, ⟨true, 4096, 4096, 7⟩, by decide +kernel⟩,
   ⟨with_ .alone .run .engineer id, rq, engineer, by decide +kernel⟩⟩

theorem witness_ItemsAndImagesAreTaken_more :
  (∃ (s : State) (r : Req) (x : Sess) (stn ms idx sub : Nat), ItemReady s r x stn ms idx sub [])
  ∧ (∃ (s : State) (r : Req) (x : Sess) (stn ms idx sub : Nat) (data : List Byte), ItemReady s r x stn ms idx sub
      data)
  ∧ (∃ (s : State) (r : Req) (x : Sess) (load : Bool) (len : Nat), ByEngineer s r x ∧ s.m.controls = true ∧
      (s.m.prog.pairKey = if load = true then KeyPos.halt else KeyPos.edit) ∧ 0 < len ∧ len ≤ 67043264 ∧
      s.m.savis.upload = none ∧ s.m.card.comp = none ∧ s.m.cardWritable = true) :=
  ⟨⟨with_ .alone .run .engineer id, rq, engineer, 1, 60000, 0, 0, by decide +kernel⟩,
   ⟨with_ .alone .run .operator fun m => m.setStn 1 fun z => {z with items := [default]}, rq, session .operator, 1, 0,
     65535, 255, [1,2], by decide +kernel⟩,
   ⟨with_ .alone .edit .engineer withCard, rq, engineer, false, 1, by decide +kernel⟩⟩

theorem witness_RestartsAndSwitchoverByCommand :
  (∃ (s : State) (r : Req) (x : Sess) (i : Image), ByEngineer s r x ∧ s.m.pair.role = Role.alone ∧ s.m.prog.pairKey =
      KeyPos.halt ∧ s.m.prog.load = none ∧ s.m.prog.image = some i ∧ s.m.hall.join = JPhase.none)
  ∧ (∃ (s : State) (r : Req) (x : Sess) (i : Image), ByEngineer s r x ∧ s.m.pair.role = Role.alone ∧ s.m.prog.pairKey
      = KeyPos.halt ∧ s.m.prog.load = none ∧ s.m.prog.image = some i ∧ s.m.hall.join = JPhase.none ∧ (s.m.start
      r.moment).committed = none)
  ∧ (∃ (s : State) (r : Req) (x : Sess) (i : Image), ByEngineer s r x ∧ s.m.pair.role = Role.alone ∧ s.m.prog.pairKey
      = KeyPos.halt ∧ s.m.prog.load = none ∧ s.m.prog.image = some i ∧ s.m.hall.join = JPhase.none ∧ ∃ (c : Commit)
      (home : Mem 64), (s.m.start r.moment).committed = some (c, home) ∧ c.digest = i.digest)
  ∧ (∃ (s : State) (r : Req) (x : Sess) (i : Image), ByEngineer s r x ∧ s.m.controls = true ∧ s.m.prog.pairKey =
      KeyPos.halt ∧ s.m.prog.load = some i)
  ∧ (∃ (s : State) (r : Req) (x : Sess), ByEngineer s r x ∧ s.m.pair.role = Role.owner ∧ s.m.pair.partner = some
      Role.shadow ∧ s.m.pair.partnerReady = true ∧ s.m.prog.pairKey = KeyPos.edit ∧ s.m.pair.plan.st ≠
      PlanState.waiting ∧ s.m.pair.plan.st ≠ PlanState.go ∧ s.m.relayPath = false ∧ s.m.prog.chgState ≠
      ChgState.staged)
  ∧ (∃ (s : State) (r : Req) (x : Sess), ByEngineer s r x ∧ s.m.pair.role = Role.alone ∧ s.m.prog.pairKey =
      KeyPos.edit ∧ s.m.pair.plan.st ≠ PlanState.waiting ∧ s.m.pair.plan.st ≠ PlanState.go)
  ∧ (∃ (s : State) (r : Req) (x : Sess), ByEngineer s r x ∧ s.m.pair.role = Role.out)
  ∧ (∃ (s : State) (r : Req) (x : Sess), ByEngineer s r x ∧ s.m.pair.role = Role.alone ∧ s.m.prog.pairKey =
      KeyPos.service ∧ s.m.serviceBusy = false)
  ∧ (∃ (s : State) (r : Req) (x : Sess), ByEngineer s r x ∧ s.m.pair.role = Role.owner ∧ s.m.prog.pairKey =
      KeyPos.service) :=
  ⟨⟨with_ .alone .halt .engineer id, rq, engineer, image0, by decide +kernel⟩,
   ⟨with_ .alone .halt .engineer id, rq, engineer, image0, by decide +kernel⟩,
   ⟨with_ .alone .halt .engineer atticOf, rq, engineer, goodImage, by decide +kernel, by decide +kernel,
     by decide +kernel, by decide +kernel, by decide +kernel, by decide +kernel, commit0, [(3, 9)], by decide +kernel⟩,
   ⟨with_ .alone .halt .engineer fun m => {m with prog.load := some goodImage}, rq, engineer, goodImage,
     by decide +kernel⟩,
   ⟨with_ .owner .edit .engineer fun m =>
     {m with pair.partner := some .shadow, pair.partnerReady := true, hall.link := .up, bolt.livePartner := true, bolt.ownSelf := true},
     rq, engineer, by decide +kernel⟩,
   ⟨with_ .alone .edit .engineer id, rq, engineer, by decide +kernel⟩,
   ⟨with_ .out .edit .engineer id, rq, engineer, by decide +kernel⟩,
   ⟨with_ .alone .service .engineer id, rq, engineer, by decide +kernel⟩,
   ⟨with_ .owner .service .engineer id, rq, engineer, by decide +kernel⟩⟩

end Requests

/-! ## Requests that act; what is passed to the partner -/

namespace Orders

/-- A session with a role. -/
def session (r : SRole) : Sess := { conn := 4, client := 5, last := 6, ver := 4, role := r }

/-- A request with a valid body. -/
def rq : Req := ⟨5000, 2, 9, true⟩

/-- The session of an engineer. -/
def engineer : Sess := session .engineer

/-- A superblock of layout 2. -/
def super2 : Super := ⟨true, 2, 0, 3, 0, 10, 0, 77⟩

/-- A card with it. -/
def card2 : Card := { card0 with sb0 := super2 }

/-- A module in a role with a key position, an engineer and a writable card. -/
def with_ (ro : Role) (k : KeyPos) (f : Mod → Mod) : Machine.State := started ro fun m => f
  {m with savis.anchors := [9], savis.sess := [(2, session .engineer)], prog.pairKey := k, power.sag := false, card := {m.card with card := some card2, locked := true, writable := true, nextSeq := 10, lastSb := some super2, layout := 2}}

/-- A time value at the end of a second. -/
def lastNs : TimeVal := ⟨1000, 999999999, 65535⟩

/-- A compaction. -/
def compacts : Comp := ⟨.compact, 1, goodImage, [], 10, 1, none⟩

/-- The pair of an owner. -/
def pairOwner (f : Mod → Mod) (m : Mod) : Mod := f
  {m with hall.link := .up, pair.partner := some .shadow, bolt.ownSelf := true, bolt.livePartner := true}

/-- A package header. -/
def package : PkgHdr :=
  { (default : PkgHdr) with magicOk := true, fmt := 1, hdrCrcOk := true, sizeOk := true, nblk := 2, svn := 3, fwVer := 9, family := 1, part := 4820, hwMin := 0, hwMax := 9, keySlot := 1, pubDigest := 55, blkCrc := [7, 8] }

/-- A public key digest in slot 1. -/
def fused (f : Update → Update) (m : Mod) : Mod := {m with upd := f {m.upd with slotDig := [none, some 55, none]}}

/-- A download of that package. -/
def receiving (u : Update) : Update :=
  {u with dl := .receiving, dlPkg := some package, dlBank := true, bank1 := {st := .writing, pkg := some package}}

/-- A signature section. -/
def signature : SignSec := ⟨88, true, true⟩

/-- A signed image. -/
def signedImage : Image := {image0 with sign := some signature}

/-- The pair of a shadow. -/
def pairShadow (f : Mod → Mod) (m : Mod) : Mod := f
  {m with hall.link := .up, pair.partner := some .owner, pair.ready := true, bolt.ownPartner := true, bolt.livePartner := true}

/-- A debug session is open. -/
def debugs (ro : Role) (f : Mod → Mod) : Machine.State := with_ ro .service fun m => f {m with test.dbgOpen := some 2}

/-- All lanes are halted. -/
def haltedThere (m : Mod) : Mod :=
  {m with test.halted := true, lanes.a.mode := .halted, lanes.b.mode := .halted, lanes.c.mode := .retired, prog.run := .haltedDebug}

/-- A Hallway message that checks. -/
def msg (q : Nat) : Msg := ⟨5000, q, 3, true⟩

/-- A module of a running pair. -/
def pairIn (ro : Role) (f : Mod → Mod) : Machine.State := with_ ro .run fun m => pairShadow f m

/-- A request that was passed to the partner. -/
def waitsForPartner (m : Mod) : Mod :=
  {m with savis.cmdOut := [(5, 9)], savis.caPend := some ([1,2],(5,9)), savis.reqs := [{client := 5, id := 9, session := 2}]}

/-- A module whose pair words are at their greatest. -/
def pairModule : Mod :=
  {(State.reset.m) with pair.pfl := 3, pair.lastFrom := 15, pair.lastTo := 15, pair.lastCause := 255, bolt.ownStuck := true, bolt.armed := true, pair.role := .shadow, pair.ready := true, hall.link := .up}

theorem witness_TrimsStepsAndSettingsByCommand :
  (∃ (s : State) (r : Req) (x : Sess) (ch : Nat) (z p : Int), ByEngineer s r x ∧ s.m.prog.pairKey = KeyPos.edit ∧ ch
      < 8 ∧ z.natAbs ≤ 200000 ∧ p.natAbs ≤ 10000 ∧ s.m.cardWritable = true ∧ s.m.trimBusy ch = false ∧
      s.m.conv.calBusy = false)
  ∧ (∃ (s : State) (r : Req) (x : Sess) (ch : Nat) (z p : Int), ByEngineer s r x ∧ s.m.prog.pairKey = KeyPos.edit ∧
      ch < 8 ∧ z.natAbs ≤ 200000 ∧ p.natAbs ≤ 10000 ∧ s.m.cardWritable = true ∧ s.m.trimBusy ch = false ∧
      s.m.conv.calBusy = true)
  ∧ (∃ (s : State) (r : Req) (x : Sess) (ch : Nat) (z p : Int), ByEngineer s r x ∧ s.m.prog.pairKey = KeyPos.edit ∧
      ch < 8 ∧ z.natAbs ≤ 200000 ∧ p.natAbs ≤ 10000 ∧ s.m.cardWritable = true ∧ s.m.trimBusy ch = true)
  ∧ (∃ (s : State) (r : Req) (x : Sess) (ch : Nat) (z p : Int), ByEngineer s r x ∧ s.m.prog.pairKey = KeyPos.edit ∧
      (8 ≤ ch ∨ 200000 < z.natAbs ∨ 10000 < p.natAbs))
  ∧ (∃ (s : State) (r : Req) (x : Sess) (port : Nat) (tx rx : Int), ByEngineer s r x ∧ s.m.prog.pairKey =
      KeyPos.service ∧ port < 4 ∧ tx.natAbs ≤ 50000 ∧ rx.natAbs ≤ 50000 ∧ s.m.cardWritable = true ∧ s.m.card.layout =
      2 ∧ s.m.portTested port = false)
  ∧ (∃ (s : State) (r : Req) (x : Sess) (port : Nat) (tx rx : Int), ByEngineer s r x ∧ s.m.prog.pairKey =
      KeyPos.service ∧ port < 4 ∧ tx.natAbs ≤ 50000 ∧ rx.natAbs ≤ 50000 ∧ s.m.cardWritable = true ∧ s.m.card.layout =
      2 ∧ s.m.portTested port = true)
  ∧ (∃ (s : State) (r : Req) (x : Sess) (v : TimeVal), ByEngineer s r x ∧ s.m.pair.role = Role.alone ∧
      s.m.prog.pairKey = KeyPos.service ∧ s.m.time.step = none ∧ v.ns < 1000000000 ∧ v.frac < 65536)
  ∧ (∃ (s : State) (r : Req) (x : Sess) (v : TimeVal), ByEngineer s r x ∧ s.m.pair.role = Role.alone ∧
      s.m.prog.pairKey = KeyPos.service ∧ s.m.time.step = none ∧ v.ns < 1000000000 ∧ v.frac < 65536 ∧ s.m.refQual =
      true)
  ∧ (∃ (s : State) (r : Req) (x : Sess) (v : TimeVal), ByEngineer s r x ∧ s.m.pair.role = Role.alone ∧
      s.m.prog.pairKey = KeyPos.service ∧ s.m.time.step = none ∧ v.ns < 1000000000 ∧ v.frac < 65536 ∧ s.m.refQual =
      false)
  ∧ (∃ (s : State) (r : Req) (x : Sess) (v : TimeVal), ByEngineer s r x ∧ s.m.prog.pairKey = KeyPos.run ∧ v.ns <
      1000000000 ∧ v.frac < 65536)
  ∧ (∃ (s : State) (r : Req) (x : Sess) (c : Card) (sc : CardScan) (img : Image), ByEngineer s r x ∧ s.m.card.comp =
      none ∧ s.m.card.rewriteDue = false ∧ s.m.savis.upload = none ∧ s.m.card.usable = true ∧ s.m.card.unread = false
      ∧ s.m.card.card = some c ∧ cardScan c (some s.m.cutSeq) = some sc ∧ sc.image = some img)
  ∧ (∃ (s : State) (r : Req) (x : Sess) (i : Image), ByEngineer s r x ∧ s.m.card.comp = none ∧ s.m.card.rewriteDue =
      false ∧ s.m.savis.upload = none ∧ s.m.card.usable = true ∧ s.m.prog.image = some i)
  ∧ (∃ (s : State) (r : Req) (x : Sess) (y : Comp), ByEngineer s r x ∧ s.m.card.comp = some y)
  ∧ (∃ (s : State) (r : Req) (x : Sess) (addr pfx gw : Nat), ByEngineer s r x ∧ s.m.prog.pairKey = KeyPos.service ∧
      s.m.test.dbgOpen = none ∧ 8 ≤ pfx ∧ pfx ≤ 30 ∧ addr < 2 ^ 32 ∧ gw < 2 ^ 32)
  ∧ (∃ (s : State) (r : Req) (x : Sess) (pfx : Nat), ByEngineer s r x ∧ s.m.prog.pairKey = KeyPos.service ∧ (pfx < 8
      ∨ 30 < pfx))
  ∧ (∃ (s : State) (r : Req) (x : Sess) (as : List Nat), ByEngineer s r x ∧ s.m.prog.pairKey = KeyPos.halt ∧
      as.length ≤ 4 ∧ s.m.cmdPartner = false)
  ∧ (∃ (s : State) (r : Req) (x : Sess) (as : List Nat), ByEngineer s r x ∧ s.m.prog.pairKey = KeyPos.halt ∧
      as.length ≤ 4 ∧ s.m.cmdPartner = true ∧ s.m.savis.caPend = none) :=
  ⟨⟨with_ .alone .edit id, rq, engineer, 7, -200000, 10000, by decide +kernel⟩,
   ⟨with_ .alone .edit fun m => {m with conv.calBusy := true}, rq, engineer, 7, -200000, 10000, by decide +kernel⟩,
   ⟨with_ .alone .edit fun m => {m with conv.trim := some ⟨7, true⟩}, rq, engineer, 7, -200000, 10000, by decide +kernel⟩,
   ⟨with_ .alone .edit id, rq, engineer, 8, 0, 0, by decide +kernel⟩,
   ⟨with_ .alone .service id, rq, engineer, 3, -50000, 50000, by decide +kernel⟩,
   ⟨with_ .alone .service fun m => {m with test.portJobs := [⟨3,true,none,(1,1),false⟩]}, rq, engineer, 3, -50000,
     50000, by decide +kernel⟩,
   ⟨with_ .alone .service id, rq, engineer, lastNs, by decide +kernel⟩,
   ⟨with_ .alone .service fun m => {m with time.extM := some ⟨3,8,5,true,9⟩}, rq, engineer, lastNs, by decide +kernel⟩,
   ⟨with_ .alone .service fun m => {m with time.extM := some ⟨3,8,5,false,9⟩}, rq, engineer, lastNs, by decide +kernel⟩,
   ⟨with_ .alone .run id, rq, engineer, lastNs, by decide +kernel⟩,
   ⟨with_ .alone .run id, rq, engineer, card2, Option.get (cardScan card2 (some (with_ .alone .run id).m.cutSeq)) (by
     decide), goodImage, by decide +kernel⟩,
   ⟨with_ .alone .run id, rq, engineer, image0, by decide +kernel⟩,
   ⟨with_ .alone .run fun m => {m with card.comp := some compacts}, rq, engineer, compacts, by decide +kernel⟩,
   ⟨with_ .alone .service id, rq, engineer, 4294967295, 30, 7, by decide +kernel⟩,
   ⟨with_ .alone .service id, rq, engineer, 31, by decide +kernel⟩,
   ⟨with_ .alone .halt id, rq, engineer, [1,2,3,4], by decide +kernel⟩,
   ⟨with_ .owner .halt (pairOwner id), rq, engineer, [1,2,3,4], by decide +kernel⟩⟩

theorem witness_TrimsStepsAndSettingsByCommand_more :
  (∃ (s : State) (r : Req) (x : Sess) (ch : Nat) (z p : Int), ByEngineer s r x ∧ s.m.prog.pairKey = KeyPos.edit ∧ ch
      < 8 ∧ z.natAbs ≤ 200000 ∧ p.natAbs ≤ 10000 ∧ s.m.cardWritable = true ∧ s.m.trimBusy ch = false ∧
      s.m.conv.calBusy = false)
  ∧ (∃ (s : State) (r : Req) (x : Sess) (ch : Nat) (z p : Int), ByEngineer s r x ∧ s.m.prog.pairKey = KeyPos.edit ∧
      ch < 8 ∧ z.natAbs ≤ 200000 ∧ p.natAbs ≤ 10000 ∧ s.m.cardWritable = true ∧ s.m.trimBusy ch = true)
  ∧ (∃ (s : State) (r : Req) (x : Sess) (ch : Nat) (z p : Int), ByEngineer s r x ∧ s.m.prog.pairKey = KeyPos.edit ∧
      (8 ≤ ch ∨ 200000 < z.natAbs ∨ 10000 < p.natAbs))
  ∧ (∃ (s : State) (r : Req) (x : Sess) (ch : Nat) (z p : Int), ByEngineer s r x ∧ s.m.prog.pairKey = KeyPos.edit ∧
      (8 ≤ ch ∨ 200000 < z.natAbs ∨ 10000 < p.natAbs))
  ∧ (∃ (s : State) (r : Req) (x : Sess) (v : TimeVal), ByEngineer s r x ∧ s.m.prog.pairKey = KeyPos.run ∧ v.ns <
      1000000000 ∧ v.frac < 65536)
  ∧ (∃ (s : State) (r : Req) (x : Sess) (addr pfx gw : Nat), ByEngineer s r x ∧ s.m.prog.pairKey = KeyPos.service ∧
      s.m.test.dbgOpen = none ∧ 8 ≤ pfx ∧ pfx ≤ 30 ∧ addr < 2 ^ 32 ∧ gw < 2 ^ 32)
  ∧ (∃ (s : State) (r : Req) (x : Sess) (pfx : Nat), ByEngineer s r x ∧ s.m.prog.pairKey = KeyPos.service ∧ (pfx < 8
      ∨ 30 < pfx))
  ∧ (∃ (s : State) (r : Req) (x : Sess) (as : List Nat), ByEngineer s r x ∧ s.m.prog.pairKey = KeyPos.halt ∧
      as.length ≤ 4 ∧ s.m.cmdPartner = false) :=
  ⟨⟨with_ .owner .edit fun m => {m with bolt.side := true, hall.link := .up, pair.partner := some .shadow}, rq,
     engineer, 0, 200000, -10000, by decide +kernel⟩,
   ⟨with_ .owner .edit fun m =>
     {m with hall.link := .up, pair.partner := some .shadow, card.queue := [⟨.trim ⟨false,0,7,1,1⟩,none,none,false⟩]},
     rq, engineer, 7, -200000, 10000, by decide +kernel⟩,
   ⟨with_ .alone .edit id, rq, engineer, 0, 200001, 0, by decide +kernel⟩,
   ⟨with_ .owner .edit id, rq, engineer, 0, 0, -10001, by decide +kernel⟩,
   ⟨with_ .owner .run id, rq, engineer, lastNs, by decide +kernel⟩,
   ⟨with_ .owner .service fun m => {m with bolt.side := true}, rq, engineer, 4294967295, 8, 7, by decide +kernel⟩,
   ⟨with_ .alone .service id, rq, engineer, 7, by decide +kernel⟩,
   ⟨with_ .alone .halt id, rq, engineer, [], by decide +kernel⟩⟩

theorem witness_FirmwareRequestsStepTheDownload :
  (∃ (s : State) (r : Req) (x : Sess) (h : PkgHdr), ByEngineer s r x ∧ s.m.upd.dl = DlState.idle ∧ headerCheck
      s.m.upd s.m.savis.hwRev h = 0 ∧ s.m.upd.running.st = BankSt.good ∧ s.m.upd.runBank = false)
  ∧ (∃ (s : State) (r : Req) (x : Sess) (h : PkgHdr) (why : Nat), ByEngineer s r x ∧ s.m.upd.dl = DlState.idle ∧
      headerCheck s.m.upd s.m.savis.hwRev h = why ∧ why ≠ 0)
  ∧ (∃ (s : State) (r : Req) (x : Sess) (h g : PkgHdr), ByEngineer s r x ∧ s.m.upd.dl = DlState.receiving ∧
      s.m.upd.dlPkg = some g ∧ h = g)
  ∧ (∃ (s : State) (r : Req) (x : Sess) (h g : PkgHdr), ByEngineer s r x ∧ s.m.upd.dl = DlState.receiving ∧
      s.m.upd.dlPkg = some g ∧ h ≠ g)
  ∧ (∃ (s : State) (r : Req) (x : Sess) (h : PkgHdr) (i : Nat) (crc : W32), ByEngineer s r x ∧ s.m.upd.dl =
      DlState.receiving ∧ s.m.upd.dlPkg = some h ∧ i < h.nblk ∧ h.blkCrc[i]? = some crc ∧ ¬i ∈ s.m.upd.dlDone)
  ∧ (∃ (s : State) (r : Req) (x : Sess) (h : PkgHdr) (i : Nat) (crc : W32), ByEngineer s r x ∧ s.m.upd.dl =
      DlState.receiving ∧ s.m.upd.dlPkg = some h ∧ h.blkCrc[i]? ≠ some crc)
  ∧ (∃ (s : State) (r : Req) (x : Sess), ByEngineer s r x ∧ s.m.upd.dl = DlState.receiving ∧ s.m.upd.complete = true)
  ∧ (∃ (s : State) (r : Req) (x : Sess), ByEngineer s r x ∧ s.m.upd.dl = DlState.receiving ∧ s.m.upd.complete = false)
  ∧ (∃ (s : State) (r : Req) (x : Sess), ByEngineer s r x ∧ s.m.upd.dl = DlState.receiving ∧ s.m.upd.dlQueue = [] ∧
      s.m.upd.dlKey = none)
  ∧ (∃ (s : State) (r : Req) (x : Sess) (minPfl : Nat), ByEngineer s r x ∧ s.m.prog.pairKey = KeyPos.service ∧
      s.m.pair.role = Role.alone ∧ s.m.serviceBusy = false ∧ minPfl ≤ 3 ∧ s.m.upd.bank1.st = BankSt.staged)
  ∧ (∃ (s : State) (r : Req) (x : Sess) (minPfl : Nat), ByEngineer s r x ∧ s.m.prog.pairKey = KeyPos.service ∧
      s.m.pair.role = Role.alone ∧ s.m.serviceBusy = false ∧ minPfl ≤ 3 ∧ s.m.upd.bank1.st = BankSt.failed)
  ∧ (∃ (s : State) (r : Req) (x : Sess) (d : Nat) (i : Image) (g : SignSec), ByEngineer s r x ∧ s.m.pair.role =
      Role.alone ∧ s.m.prog.pairKey = KeyPos.halt ∧ s.m.prog.image = some i ∧ i.sign = some g ∧ g.pubDigest = d ∧
      g.sigOk = true)
  ∧ (∃ (s : State) (r : Req) (x : Sess) (d : Nat) (i : Image) (g : SignSec), ByEngineer s r x ∧ s.m.pair.role =
      Role.alone ∧ s.m.prog.pairKey = KeyPos.halt ∧ s.m.prog.image = some i ∧ i.sign = some g ∧ g.pubDigest = d ∧
      g.sigOk = true ∧ s.m.upd.project ≠ none) :=
  ⟨⟨with_ .alone .run (fused id), rq, engineer, package, by decide +kernel⟩,
   ⟨with_ .alone .run (fused id), rq, engineer, {package with nblk := 0}, 7, by decide +kernel⟩,
   ⟨with_ .alone .run (fused receiving), rq, engineer, package, package, by decide +kernel⟩,
   ⟨with_ .alone .run (fused receiving), rq, engineer, {package with fwVer := 10}, package, by decide +kernel⟩,
   ⟨with_ .alone .run (fused receiving), rq, engineer, package, 1, 8, by decide +kernel⟩,
   ⟨with_ .alone .run (fused receiving), rq, engineer, package, 1, 7, by decide +kernel⟩,
   ⟨with_ .alone .run (fused fun u => {receiving u with dlDone := [1, 0]}), rq, engineer, by decide +kernel⟩,
   ⟨with_ .alone .run (fused fun u => {receiving u with dlDone := [1]}), rq, engineer, by decide +kernel⟩,
   ⟨with_ .alone .run (fused receiving), rq, engineer, by decide +kernel⟩,
   ⟨with_ .alone .service (fused fun u =>
     {u with bank1 := {st := .staged, pkg := some {package with pflMin := 1, pflMax := 3, hofMin := 1, hofMax := 1}, fwVer := 9, tries := 2}, bank0 := {st := .good, seq := 4}}),
     rq, engineer, 3, by decide +kernel⟩,
   ⟨with_ .alone .service (fused fun u => {u with bank1 := {st := .failed}}), rq, engineer, 0, by decide +kernel⟩,
   ⟨with_ .alone .halt fun m => {m with prog.image := some signedImage}, rq, engineer, 88, signedImage, signature,
     by decide +kernel⟩,
   ⟨with_ .alone .halt fun m => {m with prog.image := some signedImage, upd.project := some 7}, rq, engineer, 88,
     signedImage, signature, by decide +kernel⟩⟩

theorem witness_FirmwareRequestsStepTheDownload_more :
  (∃ (s : State) (r : Req) (x : Sess) (h : PkgHdr), ByEngineer s r x ∧ s.m.upd.dl = DlState.idle ∧ headerCheck
      s.m.upd s.m.savis.hwRev h = 0 ∧ s.m.upd.running.st = BankSt.good ∧ s.m.upd.runBank = false)
  ∧ (∃ (s : State) (r : Req) (x : Sess) (h : PkgHdr) (i : Nat) (crc : W32), ByEngineer s r x ∧ s.m.upd.dl =
      DlState.receiving ∧ s.m.upd.dlPkg = some h ∧ h.blkCrc[i]? ≠ some crc)
  ∧ (∃ (s : State) (r : Req) (x : Sess) (d : Nat) (i : Image) (g : SignSec), ByEngineer s r x ∧ s.m.pair.role =
      Role.alone ∧ s.m.prog.pairKey = KeyPos.halt ∧ s.m.prog.image = some i ∧ i.sign = some g ∧ g.pubDigest = d ∧
      g.sigOk = true) :=
  ⟨⟨with_ .shadow .run (fused fun u => {u with bank1 := {st := .failed, tries := 3, seq := 7, reason := 9}}), rq,
     engineer, package, by decide +kernel⟩,
   ⟨with_ .alone .run (fused receiving), rq, engineer, package, 2, 7, by decide +kernel⟩,
   ⟨with_ .alone .halt fun m => {m with prog.image := some signedImage, upd.project := some 7}, rq, engineer, 88,
     signedImage, signature, by decide +kernel⟩⟩

theorem witness_TestAndDebugRequestsAct :
  (∃ (s : State) (r : Req) (x : Sess), Services s r x ∧ s.m.pair.role = Role.shadow ∧ s.m.pair.ready = true ∧
      s.m.pair.partner = some Role.owner ∧ (∀ (l : LaneId), (s.m.lane l).mode = LaneMode.serving))
  ∧ (∃ (s : State) (r : Req) (x : Sess), Services s r x ∧ s.m.pair.role = Role.alone)
  ∧ (∃ (s : State) (r : Req) (x : Sess) (port : Nat), ByEngineer s r x ∧ port < 4 ∧ s.m.powered (7 + port) = true ∧
      (s.m.port port).link = false)
  ∧ (∃ (s : State) (r : Req) (x : Sess) (port : Nat), ByEngineer s r x ∧ port < 4 ∧ (s.m.port port).link = true)
  ∧ (∃ (s : State) (r : Req) (x : Sess), Services s r x ∧ (s.m.pair.role = Role.alone ∨ s.m.pair.role = Role.shadow))
  ∧ (∃ (s : State) (r : Req) (x : Sess) (n : Nat), ByEngineer s r x ∧ s.m.prog.pairKey = KeyPos.service ∧
      s.m.pair.role = Role.alone ∧ s.m.test.dbgOpen = some n)
  ∧ (∃ (s : State) (r : Req) (x : Sess), Debugs s r x ∧ s.m.pair.role = Role.alone)
  ∧ (∃ (s : State) (r : Req) (x : Sess) (n : Nat), Debugs s r x ∧ s.m.serviceOk = true ∧ 0 < n ∧ n < 2 ^ 32 ∧
      s.m.test.halting = false ∧ s.m.test.halted = false)
  ∧ (∃ (s : State) (r : Req) (x : Sess) (n : Nat), Debugs s r x ∧ s.m.serviceOk = true ∧ 0 < n ∧ n < 2 ^ 32 ∧
      s.m.test.halting = false ∧ s.m.test.halted = true)
  ∧ (∃ (s : State) (r : Req) (x : Sess), Debugs s r x ∧ s.m.test.halted = false ∧ s.m.test.halting = false)
  ∧ (∃ (s : State) (r : Req) (x : Sess), Debugs s r x ∧ s.m.pair.role = Role.alone ∧ s.m.test.halted = true ∧
      s.m.test.halting = false ∧ s.m.test.haltKey = none)
  ∧ (∃ (s : State) (r : Req) (x : Sess), Debugs s r x ∧ s.m.pair.role = Role.shadow ∧ s.m.test.halted = true ∧
      s.m.test.haltKey = none)
  ∧ (∃ (s : State) (r : Req) (x : Sess) (sel eng pc : Nat), Debugs s r x ∧ sel < 8 ∧ eng < 16 ∧ pc < 2 ^ 24)
  ∧ (∃ (s : State) (r : Req) (x : Sess) (ofs len : Nat), Debugs s r x ∧ ofs % 64 = 0 ∧ len % 4 = 0 ∧ 0 < len ∧ len ≤
      64 ∧ ofs + len ≤ 20971520 ∧ s.m.checkAccess 69 AccType.r (301989888 + ofs) len = none)
  ∧ (∃ (s : State) (r : Req) (x : Sess) (len : Nat), Debugs s r x ∧ (32768 < len ∨ len % 4 ≠ 0))
  ∧ (∃ (s : State) (r : Req) (x : Sess) (addr : Nat) (bytes : List Byte), Debugs s r x ∧ s.m.test.halted = false ∧
      addr + bytes.length ≤ 2 ^ 32 ∧ bytes.length ≤ 32768 ∧ bytes.length % 4 = 0)
  ∧ (∃ (s : State) (r : Req) (x : Sess) (ofs : Nat) (bytes : List Byte), Debugs s r x ∧ s.m.test.halted = true ∧
      bytes.length % 4 = 0 ∧ 0 < bytes.length ∧ bytes.length ≤ 64 ∧ ofs % 64 = 0 ∧ ofs + bytes.length ≤ 20971520 ∧
      s.m.checkAccess 69 AccType.w (402653184 + ofs) bytes.length = none) :=
  ⟨⟨with_ .shadow .service (pairShadow id), rq, engineer, by decide +kernel, by decide +kernel, by decide +kernel,
     by decide +kernel, by intro x; cases x <;> decide +kernel⟩,
   ⟨with_ .alone .service id, rq, engineer, by decide +kernel⟩,
   ⟨with_ .alone .run id, rq, engineer, 3, by decide +kernel⟩,
   ⟨with_ .owner .run fun m => m.setPort 3 fun p => {p with link := true}, rq, engineer, 3, by decide +kernel⟩,
   ⟨with_ .alone .service id, rq, engineer, by decide +kernel⟩,
   ⟨with_ .alone .service fun m => {m with test.dbgOpen := some 1}, rq, engineer, 1, by decide +kernel⟩,
   ⟨debugs .alone haltedThere, rq, engineer, by decide +kernel⟩,
   ⟨debugs .alone id, rq, engineer, 5, by decide +kernel⟩,
   ⟨debugs .alone haltedThere, rq, engineer, 1, by decide +kernel⟩,
   ⟨debugs .alone id, rq, engineer, by decide +kernel⟩,
   ⟨debugs .alone haltedThere, rq, engineer, by decide +kernel⟩,
   ⟨debugs .shadow fun m => haltedThere (pairShadow id m), rq, engineer, by decide +kernel⟩,
   ⟨debugs .alone id, rq, engineer, 7, 15, 16777215, by decide +kernel⟩,
   ⟨debugs .alone fun m => {m with lanes.a.inst := [(8, 0x1122334455667788)]}, rq, engineer, 64, 12, by decide +kernel⟩,
   ⟨debugs .alone id, rq, engineer, 32772, by decide +kernel⟩,
   ⟨debugs .alone id, rq, engineer, 64, [1,2,3,4], by decide +kernel⟩,
   ⟨debugs .alone fun m => haltedThere {m with lanes.a.inst := [(8, 0x1122334455667788)]}, rq, engineer, 64,
     [1,2,3,4,5,6,7,8,9,10,11,12], by decide +kernel⟩⟩

theorem witness_TestAndDebugRequestsAct_more :
  (∃ (s : State) (r : Req) (x : Sess) (port : Nat), ByEngineer s r x ∧ port < 4 ∧ s.m.powered (7 + port) = true ∧
      (s.m.port port).link = false)
  ∧ (∃ (s : State) (r : Req) (x : Sess), Services s r x ∧ (s.m.pair.role = Role.alone ∨ s.m.pair.role = Role.shadow))
  ∧ (∃ (s : State) (r : Req) (x : Sess) (n : Nat), ByEngineer s r x ∧ s.m.prog.pairKey = KeyPos.service ∧
      s.m.pair.role = Role.alone ∧ s.m.test.dbgOpen = some n)
  ∧ (∃ (s : State) (r : Req) (x : Sess), Debugs s r x ∧ s.m.pair.role = Role.alone)
  ∧ (∃ (s : State) (r : Req) (x : Sess) (n : Nat), Debugs s r x ∧ s.m.serviceOk = true ∧ 0 < n ∧ n < 2 ^ 32 ∧
      s.m.test.halting = false ∧ s.m.test.halted = false)
  ∧ (∃ (s : State) (r : Req) (x : Sess) (sel eng pc : Nat), Debugs s r x ∧ sel < 8 ∧ eng < 16 ∧ pc < 2 ^ 24)
  ∧ (∃ (s : State) (r : Req) (x : Sess) (len : Nat), Debugs s r x ∧ (32768 < len ∨ len % 4 ≠ 0)) :=
  ⟨⟨with_ .owner .run fun m => {m with test.portJobs := [⟨3,true,none,(1,1),false⟩]}, rq, engineer, 3, by decide +kernel⟩,
   ⟨with_ .shadow .service (pairShadow id), rq, engineer, by decide +kernel⟩,
   ⟨with_ .alone .service fun m => {m with test.dbgOpen := some 2}, rq, engineer, 2, by decide +kernel⟩,
   ⟨debugs .alone fun m =>
     {m with test.halting := true, test.haltKey := some (5, 3), savis.reqs := [{client := 5, id := 3, session := 2}]},
     rq, engineer, by decide +kernel⟩,
   ⟨debugs .shadow (pairShadow id), rq, engineer, 4294967295, by decide +kernel⟩,
   ⟨debugs .alone fun m => {m with test.breaks := [(7,⟨1,2⟩)]}, rq, engineer, 7, 15, 16777215, by decide +kernel⟩,
   ⟨debugs .alone id, rq, engineer, 3, by decide +kernel⟩⟩

theorem witness_PassedRequestsAreAnswered :
  (∃ (s : State) (x : Msg) (k id : Nat), Hears s x 2 ∧ id ≠ 0 ∧ (∀ (q : SReq), q ∈ s.m.savis.reqs → ¬(q.client = k ∧
      q.id = id)))
  ∧ (∃ (s : State) (x : Msg) (k id ch : Nat), Hears s x 2 ∧ id ≠ 0 ∧ (∀ (q : SReq), q ∈ s.m.savis.reqs → ¬(q.client =
      k ∧ q.id = id)) ∧ ch < 8 ∧ s.m.cardWritable = true ∧ s.m.trimBusy ch = true)
  ∧ (∃ (s : State) (x : Msg) (k id ch : Nat), Hears s x 2 ∧ id ≠ 0 ∧ (∀ (q : SReq), q ∈ s.m.savis.reqs → ¬(q.client =
      k ∧ q.id = id)) ∧ ch < 8 ∧ s.m.cardWritable = true ∧ s.m.trimBusy ch = false ∧ s.m.conv.calBusy = false)
  ∧ (∃ (s : State) (x : Msg), Hears s x 2 ∧ (s.m.pair.role = Role.out ∨ s.m.pair.role = Role.joining) ∧
      s.m.upd.project = none)
  ∧ (∃ (s : State) (x : Msg) (d : Nat), Hears s x 2 ∧ (s.m.pair.role = Role.out ∨ s.m.pair.role = Role.joining) ∧
      s.m.upd.project = some d)
  ∧ (∃ (s : State) (x : Msg) (d : Nat), Hears s x 2 ∧ (s.m.pair.role = Role.out ∨ s.m.pair.role = Role.joining) ∧ ∃ g
      : Nat, s.m.upd.project = some g ∧ g ≠ d)
  ∧ (∃ (s : State) (x : Msg), Hears s x 2 ∧ s.m.pair.role ≠ Role.out ∧ s.m.pair.role ≠ Role.joining)
  ∧ (∃ (s : State) (x : Msg) (k id : Nat) (as : List Nat), Hears s x 2 ∧ (k, id) ∈ s.m.savis.cmdOut ∧
      s.m.savis.caPend = some (as, k, id))
  ∧ (∃ (s : State) (x : Msg) (k id : Nat) (o : Outc) (q : SReq), Hears s x 2 ∧ (k, id) ∈ s.m.savis.cmdOut ∧ q ∈
      s.m.savis.reqs ∧ q.client = k ∧ q.id = id ∧ q.outcome = none ∧ o.final = true)
  ∧ (∃ (s : State) (x : Msg) (k id : Nat), Hears s x 2 ∧ ¬(k, id) ∈ s.m.savis.cmdOut) :=
  ⟨⟨pairIn .shadow id, msg 7, 5, 9, by decide +kernel⟩,
   ⟨pairIn .shadow fun m => {m with conv.trim := some ⟨7, true⟩}, msg 7, 5, 9, 7, by decide +kernel⟩,
   ⟨pairIn .shadow id, msg 7, 5, 9, 7, by decide +kernel⟩,
   ⟨pairIn .joining id, msg 7, by decide +kernel⟩,
   ⟨pairIn .joining fun m => {m with upd.project := some 88}, msg 7, 88, by decide +kernel⟩,
   ⟨pairIn .joining fun m => {m with upd.project := some 87}, msg 7, 88, by decide +kernel, by decide +kernel, 87,
     by decide +kernel⟩,
   ⟨pairIn .shadow fun m => {m with upd.project := some 87}, msg 7, by decide +kernel⟩,
   ⟨pairIn .shadow waitsForPartner, msg 7, 5, 9, [1,2], by decide +kernel⟩,
   ⟨pairIn .shadow waitsForPartner, msg 7, 5, 9, .busyTest, {client := 5, id := 9, session := 2}, by decide +kernel⟩,
   ⟨pairIn .shadow waitsForPartner, msg 7, 5, 8, by decide +kernel⟩⟩

theorem witness_PassedRequestsAreAnswered_more :
  ∃ (s : State) (x : Msg) (k id : Nat), Hears s x 2 ∧ id ≠ 0 ∧ (∀ (q : SReq), q ∈ s.m.savis.reqs → ¬(q.client = k ∧
      q.id = id)) :=
  ⟨pairIn .shadow fun m => {m with prog.image := some signedImage}, msg 7, 5, 9, by decide +kernel⟩

theorem witness_PairWordsShowThePair :
  ∃ m : Mod, m.pair.pfl < 4 ∧ m.pair.lastFrom < 16 ∧ m.pair.lastTo < 16 ∧ m.pair.lastCause < 256 :=
  ⟨pairModule, by decide +kernel⟩

theorem witness_PairWordsShowThePair_more :
  ∃ m : Mod, m.pair.pfl < 4 ∧ m.pair.lastFrom < 16 ∧ m.pair.lastTo < 16 ∧ m.pair.lastCause < 256 :=
  ⟨State.reset.m, by decide +kernel⟩

theorem witness_SettlingKeepsTheEffect :
  ∃ a m : Mod, a.switched m = false ∧ (m.controls = true ∨ ∀ (x : Nat × Sess), x ∈ m.savis.sess → x.snd.psa = false) :=
  ⟨(pairIn .shadow id).m, (pairIn .shadow fun m => {m with prog.ownKey := .edit}).m, by decide +kernel⟩

theorem witness_MemoriesKeepOneFormAndReadBack :
  (∃ (w : Nat) (m : Mem w), Memory.wf m = true)
  ∧ (∃ v : View, Memory.wf v.inst = true) :=
  ⟨⟨8, [(3, 4)], by decide +kernel⟩,
   ⟨view1 0, by decide +kernel⟩⟩

end Orders

/-! ## The statements that speak of every command or every step -/

namespace Whole

/-- What a command leaves. -/
def after (c : Instr) (s : State) : Mod :=
  match exec c s with
  | .next t => t.m
  | _ => s.m

theorem witness_MemoriesKeepOneFormAndReadBack :
    (∃ m : Mem 64, Memory.wf m = true ∧ m ≠ []) ∧ (∃ v : View, Memory.wf v.inst = true ∧ v.inst ≠ [])
    ∧ (∃ m n : Mem 64, Memory.wf m = true ∧ Memory.wf n = true ∧ m ≠ [] ∧ ∀ b, memGet m b = memGet n b) :=
  ⟨⟨[(2, 5), (7, 1)], by decide +kernel⟩, ⟨view1 0, by decide +kernel⟩,
   ⟨[(2, 5)], [(2, 5)], by decide, by decide, by decide, fun _ => rfl⟩⟩

theorem witness_SettlingKeepsTheEffect :
    (∃ a m : Mod, Mod.switched a m = false ∧ m.controls = true)
    ∧ (∃ a m : Mod, Mod.switched a m = false ∧ m.controls = false ∧ ∀ x ∈ m.savis.sess, x.2.psa = false) :=
  ⟨⟨(started .alone id).m, (started .alone id).m, by decide +kernel⟩,
   ⟨(started .shadow id).m, (started .shadow id).m, by decide +kernel⟩⟩

theorem witness_OperationsStayInTheirLane :
    (∃ (c : Instr) (e : EngRef) (s : State) (m : Mod) (l : LaneId), opOf c = some e ∧ Gives c s m ∧ l ≠ e.lane)
    ∧ (∃ v : View, Memory.wf v.eng.regs = true ∧ v.eng.regs ≠ []) :=
  ⟨⟨.mov e1 3 6, e1, at1 (opWord 0x01 3 6 0), after (.mov e1 3 6) (at1 (opWord 0x01 3 6 0)), .B, rfl, rfl, by decide⟩,
   ⟨view1 0, by decide +kernel⟩⟩

/-- A module alone, its own line high, with a command in front. -/
def first (c : Instr) : State := { started .alone (fun m => { m with bolt.ownSelf := true, upd.svnFused := 2 }) with pending := [c] }

theorem witness_OwnershipAndRetainedWordsStaySound :
    (∃ s t : State, s.m.bolt.sound = true ∧ s.m.bolt.ownSelf = true ∧ Machine.step s = .next t)
    ∧ (∃ s t : State, s.m.attic.sound = true ∧ Machine.step s = .next t) :=
  ⟨⟨first (.ownFallNoLive 5), ⟨after (.ownFallNoLive 5) (first (.ownFallNoLive 5)), []⟩, by decide, by decide, rfl⟩,
   ⟨first (.atticCommit 5), ⟨after (.atticCommit 5) (first (.atticCommit 5)), []⟩, by decide, rfl⟩⟩

theorem witness_FusesStayBlown : ∃ s t : State, s.m.upd.svnFused = 2 ∧ Machine.step s = .next t :=
  ⟨first (.fwSignVerified 5 true), ⟨after (.fwSignVerified 5 true) (first (.fwSignVerified 5 true)), []⟩, rfl, rfl⟩

theorem witness_HardwareSettingsStay :
    (∃ (c : Instr) (s : State) (m : Mod), Gives c s m ∧ (∀ t p, c ≠ .keySwitchChange t p))
    ∧ (∃ (c : Instr) (s : State) (m : Mod), Gives c s m ∧ s.m.power.boot = .off ∧ ∀ t b h, c ≠ .powerOnStart t b h)
    ∧ (∃ (c : Instr) (s : State) (m : Mod), Gives c s m ∧ s.m.power.boot ≠ .off) :=
  ⟨⟨.stroke 5, started .alone id, after (.stroke 5) (started .alone id), rfl, by intro t p h; cases h⟩,
   ⟨.stroke 5, State.reset, after (.stroke 5) State.reset, rfl, rfl, by intro t b h x; cases x⟩,
   ⟨.stroke 5, started .alone id, after (.stroke 5) (started .alone id), rfl, by decide⟩⟩

theorem witness_StepRunsTheFrontCommand : ∃ s : State, s.pending = [] ∧ s.m.controls = true := ⟨started .alone id, by decide⟩

theorem witness_ResetIsSafeAndReadsAsTabled : ∃ k : Nat, k < 3 := ⟨2, by decide⟩

end Whole

/-! ## The checks of WellFormed: each refuses an ill-formed command -/

namespace Forms

/-- A message header. -/
def m0 : Msg := ⟨5, 2 ^ 32 - 1, 2 ^ 32 - 1, true⟩

/-- A request header. -/
def rq0 : Req := ⟨5, 1, 1, true⟩

/-- A time value at the end of its ranges. -/
def t0 : TimeVal := ⟨1, 999999999, 65535⟩

/-- A self-test result. -/
def b0 : BistRes := ⟨[true, true, true], [true, true, true], true, true, true, true, 3⟩

/-- Three lanes without a record. -/
def f0 : VoteFaults := ⟨false, [], [.A, .B, .C]⟩

/-- A read at the end of its ranges. -/
def r0 : ReadBody := ⟨2 ^ 16 - 1, 2 ^ 16 - 1, 2 ^ 16 - 1, 0, 4⟩

theorem wellFormed_takes_1 :
    ([
      .mHello m0 default,
      .mAgree m0 default,
      .mIdle m0,
      .mRole m0 default true true default default default,
      .mTime m0 t0 t0 1 1 default 1 t0,
      .mTimeEcho m0 1 t0 t0 t0 t0,
      .mPlan m0 true 1 default,
      .mPayload m0 1 1 default default,
      .mClose m0 1 default default default,
      .mSample m0 default,
      .mLive m0 1 1 1 1 1 default default,
      .mDigest m0 default 1 1 true default default,
      .mRelayUp m0 1 true 1 1 default,
      .mRelayDn m0 1 1 default,
      .mRelayRpt m0 1 1 1 1,
      .mMirror m0 1 true true 1 1 1 default 1 default,
      .mMirrorAck m0 1 1 1,
      .mCmd m0 1 1 1 default,
      .mCmdRsp m0 1 1 default default,
      .mStnstate m0 1 1 1 1,
      .mImage m0 true default,
      .mVerdict m0 true 1,
      .mHoOpen m0 1 default 1 1,
      .mPage m0 1 1 1 (List.replicate 512 0),
      .mSection m0 1 true default,
      .mHeld m0 1 1 default,
      .mHoCut m0 1 1 1,
      .mHoEnd m0 1,
      .checkpointVote 1 default f0,
      .voteDeadline 1 default f0,
      .frameLaunch 1 1 1,
      .badOpcode default 0xFF000000,
      .breakpointHit 1 1,
      .masterAccess 1 1 default 1 1,
      .seal 1 default,
      .tableError 1 1 true,
      .rxFrameStore 1 1 default,
      .cycIn 1 1,
      .announce 1 1,
      .ready 1 1,
      .acyRsp 1 1,
      .peerFrame 1 1,
      .startTimeout 1 1,
      .revalTimeout 1 1,
      .acyItemSend 1 1,
      .acyResend 1 1] : List Instr).all WellFormed = true := by decide +kernel

theorem wellFormed_takes_2 :
    ([
      .acyTimeout 1 1,
      .testWaitEnd 1 1,
      .portLinkChange 1 1 true,
      .velocity 1 1 1 1 1,
      .stop 1 1 1,
      .quickStop 1 1,
      .setpos 1 1 1 1,
      .gear 1 1 1 true 1 1 1,
      .cam 1 1 1 true 1 1,
      .phase 1 1 1 1,
      .disengage 1 1,
      .regOn 1 1,
      .regOff 1 1,
      .masterLost 1 1,
      .reflexPinChange 1 1 true,
      .edgeCapture 1 1 1 true 1,
      .reflexMismatch 1 1 default,
      .loopCommandApply 1 1,
      .readbackSample 1 1 true 1 1 1 default 1 true,
      .headroomCheck 1 1 1 1,
      .ne43FilterExpiry 1 1,
      .conversionDone 1 1 1,
      .urgentConversionDone 1 1 1 true,
      .ptpSync 1 true 1 1 1 1,
      .delayReq 1 1 1 1 1 true,
      .hallLaneTrained 1 1,
      .hallLaneLost 1 1,
      .hallLinkBlock 1 1 1 true,
      .sfpFault 1 1,
      .sfpRetry 1 1 true true,
      .domainTrip 1 1,
      .domainRestore 1 1,
      .bistDone 1 b0,
      .portTestDone 1 1 1 1,
      .arpRequest 1 true 1,
      .icmpEcho 1 true 1,
      .ping rq0,
      .read rq0 r0,
      .readMulti rq0 default,
      .violValidClear rq0 default,
      .write rq0 1 1 1 default,
      .outcome rq0 1,
      .subscribe rq0 1 r0 true 1,
      .unsubscribe rq0 1,
      .notifyDue 1 1 1 true,
      .itemPread rq0 1 true 1 1 1 default] : List Instr).all WellFormed = true := by decide +kernel

theorem wellFormed_takes_3 :
    ([
      .itemPwrite rq0 1 true 1 1 1 default,
      .itemCommand rq0 1 true 1 1 1 default,
      .itemDiag rq0 1 true 1 1 1 default,
      .imgOpen rq0 true 1,
      .imgBlock rq0 1 1 true,
      .imgEndChange rq0 1 default,
      .imgEndCold rq0 1 default,
      .imgEndMapped rq0 1 default,
      .imgAbandon rq0,
      .restartCold rq0,
      .restartWarm rq0,
      .restartAuto rq0,
      .switchover rq0,
      .hearthReset rq0,
      .loopTrim rq0 true 1 1 1,
      .latTrim rq0 true 1 1 1,
      .restep rq0,
      .setTime rq0 t0,
      .fwOpen rq0 default,
      .fwBlock rq0 1 default,
      .fwSign rq0,
      .fwAbandon rq0,
      .fwActivate rq0 1 1,
      .projEnroll rq0 1 true true,
      .projClear rq0,
      .rotTest rq0 default,
      .portTest rq0 1 true,
      .dbgOpen rq0 true,
      .dbgClose rq0,
      .dbgHalt rq0 1,
      .dbgStep rq0 1,
      .dbgResume rq0,
      .dbgBreak rq0 1 1 1 true,
      .dbgRead rq0 1 4,
      .dbgWrite rq0 1 default,
      .cardCompact rq0 true,
      .cardRewrite rq0,
      .netSet rq0 1 true 1 1 1 1,
      .caSet rq0 default,
      .status rq0,
      .porchReset rq0,
      .sfpRemoved 1 1,
      .readMulti rq0 [r0]] : List Instr).all WellFormed = true := by decide +kernel

theorem wellFormed_refuses_1 :
    ([
      .mHello { m0 with mseq := 2 ^ 32 } default,
      .mAgree { m0 with mseq := 2 ^ 32 } default,
      .mIdle { m0 with mseq := 2 ^ 32 },
      .mRole { m0 with mseq := 2 ^ 32 } default true true default default default,
      .mTime { m0 with mseq := 2 ^ 32 } t0 t0 1 1 default 1 t0,
      .mTime m0 { t0 with ns := 1000000000 } t0 1 1 default 1 t0,
      .mTime m0 t0 { t0 with ns := 1000000000 } 1 1 default 1 t0,
      .mTime m0 t0 t0 1 1 default 1 { t0 with ns := 1000000000 },
      .mTimeEcho { m0 with mseq := 2 ^ 32 } 1 t0 t0 t0 t0,
      .mTimeEcho m0 1 { t0 with ns := 1000000000 } t0 t0 t0,
      .mTimeEcho m0 1 t0 { t0 with ns := 1000000000 } t0 t0,
      .mTimeEcho m0 1 t0 t0 { t0 with ns := 1000000000 } t0,
      .mTimeEcho m0 1 t0 t0 t0 { t0 with ns := 1000000000 },
      .mPlan { m0 with mseq := 2 ^ 32 } true 1 default,
      .mPayload { m0 with mseq := 2 ^ 32 } 1 1 default default,
      .mPayload m0 1 2048 default default,
      .mClose { m0 with mseq := 2 ^ 32 } 1 default default default,
      .mSample { m0 with mseq := 2 ^ 32 } default,
      .mLive { m0 with mseq := 2 ^ 32 } 1 1 1 1 1 default default,
      .mLive m0 16 1 1 1 1 default default,
      .mDigest { m0 with mseq := 2 ^ 32 } default 1 1 true default default,
      .mRelayUp { m0 with mseq := 2 ^ 32 } 1 true 1 1 default,
      .mRelayUp m0 4 true 1 1 default,
      .mRelayDn { m0 with mseq := 2 ^ 32 } 1 1 default,
      .mRelayDn m0 4 1 default,
      .mRelayDn m0 1 1024 default,
      .mRelayRpt { m0 with mseq := 2 ^ 32 } 1 1 1 1,
      .mRelayRpt m0 4 1 1 1,
      .mRelayRpt m0 1 1024 1 1,
      .mMirror { m0 with mseq := 2 ^ 32 } 1 true true 1 1 1 default 1 default,
      .mMirror m0 1 true true (2 ^ 16) 1 1 default 1 default,
      .mMirror m0 1 true true 1 (2 ^ 32) 1 default 1 default,
      .mMirrorAck { m0 with mseq := 2 ^ 32 } 1 1 1,
      .mMirrorAck m0 (2 ^ 32) 1 1,
      .mMirrorAck m0 1 (2 ^ 32) 1,
      .mCmd { m0 with mseq := 2 ^ 32 } 1 1 1 default,
      .mCmd m0 1 (2 ^ 32) 1 default,
      .mCmdRsp { m0 with mseq := 2 ^ 32 } 1 1 default default,
      .mCmdRsp m0 1 (2 ^ 32) default default,
      .mStnstate { m0 with mseq := 2 ^ 32 } 1 1 1 1,
      .mStnstate m0 2048 1 1 1,
      .mImage { m0 with mseq := 2 ^ 32 } true default,
      .mVerdict { m0 with mseq := 2 ^ 32 } true 1,
      .mHoOpen { m0 with mseq := 2 ^ 32 } 1 default 1 1] : List Instr).all (fun c => !WellFormed c) = true := by decide +kernel

theorem wellFormed_refuses_2 :
    ([
      .mPage { m0 with mseq := 2 ^ 32 } 1 1 1 (List.replicate 512 0),
      .mPage m0 8 1 1 (List.replicate 512 0),
      .mPage m0 1 1 1 [],
      .mSection { m0 with mseq := 2 ^ 32 } 1 true default,
      .mHeld { m0 with mseq := 2 ^ 32 } 1 1 default,
      .mHeld m0 2048 1 default,
      .mHoCut { m0 with mseq := 2 ^ 32 } 1 1 1,
      .mHoEnd { m0 with mseq := 2 ^ 32 } 1,
      .checkpointVote 1 default { f0 with missing := [.A, .B, .C, .A] },
      .voteDeadline 1 default { f0 with missing := [.A, .B, .C, .A] },
      .frameLaunch 1 4 1,
      .frameLaunch 1 1 1024,
      .badOpcode default 0,
      .breakpointHit 1 8,
      .masterAccess 1 0x3C default 1 1,
      .masterAccess 1 0x46 default 1 1,
      .masterAccess 1 1 default (2 ^ 32) 1,
      .seal 1 [.perm 0x3C 0 default],
      .seal 1 [.perm 0 32 default],
      .seal 1 [.region 0x3F 0 0 64 default default],
      .seal 1 [.region 0x46 0 0 64 default default],
      .seal 1 [.region 0x40 16 0 64 default default],
      .seal 1 [.region 0x40 0 1 64 default default],
      .seal 1 [.region 0x40 0 0 65 default default],
      .tableError 1 0x3C true,
      .tableError 1 0x46 true,
      .rxFrameStore 1 4 default,
      .cycIn 1 4,
      .announce 1 4,
      .ready 1 4,
      .acyRsp 1 4,
      .peerFrame 1 4,
      .startTimeout 1 2048,
      .revalTimeout 1 2048,
      .acyItemSend 1 2048,
      .acyResend 1 2048,
      .acyTimeout 1 2048,
      .testWaitEnd 1 2048,
      .portLinkChange 1 4 true,
      .velocity 32 1 1 1 1,
      .velocity 1 256 1 1 1,
      .velocity 1 1 1 (-1) 1,
      .velocity 1 1 1 1 (-1),
      .stop 32 1 1] : List Instr).all (fun c => !WellFormed c) = true := by decide +kernel

theorem wellFormed_refuses_3 :
    ([
      .stop 1 256 1,
      .stop 1 1 (-1),
      .quickStop 32 1,
      .quickStop 1 256,
      .setpos 32 1 1 1,
      .setpos 1 256 1 1,
      .setpos 1 1 (2 ^ 47) 1,
      .setpos 1 1 (-2 ^ 47 - 1) 1,
      .setpos 1 1 1 (2 ^ 16),
      .gear 1024 1 1 true 1 1 1,
      .gear 1 256 1 true 1 1 1,
      .gear 1 1 256 true 1 1 1,
      .gear 1 1 1 true (2 ^ 32) 1 1,
      .cam 1024 1 1 true 1 1,
      .cam 1 256 1 true 1 1,
      .cam 1 1 256 true 1 1,
      .cam 1 1 1 true (2 ^ 32) 1,
      .cam 1 1 1 true 1 (2 ^ 32),
      .phase 1024 1 1 1,
      .phase 1 256 1 1,
      .phase 1 1 (2 ^ 32) 1,
      .disengage 1024 1,
      .disengage 1 256,
      .regOn 1024 1,
      .regOn 1 256,
      .regOff 1024 1,
      .regOff 1 256,
      .masterLost 1 32,
      .reflexPinChange 1 16 true,
      .edgeCapture 1 16 1 true 1,
      .reflexMismatch 1 16 default,
      .loopCommandApply 1 8,
      .readbackSample 1 8 true 1 1 1 default 1 true,
      .headroomCheck 1 8 1 1,
      .ne43FilterExpiry 1 8,
      .conversionDone 1 32 1,
      .urgentConversionDone 1 32 1 true,
      .ptpSync 1 true 256 1 1 1,
      .delayReq 1 4 1 1 1 true,
      .hallLaneTrained 1 2,
      .hallLaneLost 1 2,
      .hallLinkBlock 1 2 1 true,
      .sfpFault 1 4,
      .sfpRetry 1 4 true true] : List Instr).all (fun c => !WellFormed c) = true := by decide +kernel

theorem wellFormed_refuses_4 :
    ([
      .domainTrip 1 0,
      .domainTrip 1 15,
      .domainRestore 1 0,
      .domainRestore 1 15,
      .bistDone 1 { b0 with lbist := [] },
      .bistDone 1 { b0 with mbist := [] },
      .portTestDone 1 4 1 1,
      .arpRequest 1 true (2 ^ 32),
      .icmpEcho 1 true (2 ^ 32),
      .ping { rq0 with id := 0 },
      .read { rq0 with id := 0 } r0,
      .read rq0 { r0 with obj := 2 ^ 16 },
      .read rq0 { r0 with first := 2 ^ 16 },
      .read rq0 { r0 with count := 2 ^ 16 },
      .readMulti { rq0 with id := 0 } default,
      .violValidClear { rq0 with id := 0 } default,
      .write { rq0 with id := 0 } 1 1 1 default,
      .write rq0 (2 ^ 16) 1 1 default,
      .write rq0 1 (2 ^ 16) 1 default,
      .write rq0 1 1 (2 ^ 16) default,
      .outcome { rq0 with id := 0 } 1,
      .subscribe { rq0 with id := 0 } 1 r0 true 1,
      .subscribe rq0 16 r0 true 1,
      .subscribe rq0 1 { r0 with obj := 2 ^ 16 } true 1,
      .subscribe rq0 1 { r0 with first := 2 ^ 16 } true 1,
      .subscribe rq0 1 { r0 with count := 2 ^ 16 } true 1,
      .unsubscribe { rq0 with id := 0 } 1,
      .unsubscribe rq0 16,
      .notifyDue 1 1 16 true,
      .itemPread { rq0 with id := 0 } 1 true 1 1 1 default,
      .itemPread rq0 2048 true 1 1 1 default,
      .itemPread rq0 1 true (2 ^ 16) 1 1 default,
      .itemPread rq0 1 true 1 (2 ^ 16) 1 default,
      .itemPread rq0 1 true 1 1 256 default,
      .itemPread rq0 1 true 1 1 1 (List.replicate (2 ^ 16) default),
      .itemPwrite { rq0 with id := 0 } 1 true 1 1 1 default,
      .itemPwrite rq0 2048 true 1 1 1 default,
      .itemPwrite rq0 1 true (2 ^ 16) 1 1 default,
      .itemPwrite rq0 1 true 1 (2 ^ 16) 1 default,
      .itemPwrite rq0 1 true 1 1 256 default,
      .itemCommand { rq0 with id := 0 } 1 true 1 1 1 default,
      .itemCommand rq0 2048 true 1 1 1 default,
      .itemCommand rq0 1 true (2 ^ 16) 1 1 default,
      .itemCommand rq0 1 true 1 (2 ^ 16) 1 default] : List Instr).all (fun c => !WellFormed c) = true := by decide +kernel

theorem wellFormed_refuses_5 :
    ([
      .itemCommand rq0 1 true 1 1 256 default,
      .itemDiag { rq0 with id := 0 } 1 true 1 1 1 default,
      .itemDiag rq0 2048 true 1 1 1 default,
      .itemDiag rq0 1 true (2 ^ 16) 1 1 default,
      .itemDiag rq0 1 true 1 (2 ^ 16) 1 default,
      .itemDiag rq0 1 true 1 1 256 default,
      .imgOpen { rq0 with id := 0 } true 1,
      .imgOpen rq0 true (2 ^ 32),
      .imgBlock { rq0 with id := 0 } 1 1 true,
      .imgBlock rq0 (2 ^ 32) 1 true,
      .imgBlock rq0 1 0 true,
      .imgBlock rq0 1 65537 true,
      .imgEndChange { rq0 with id := 0 } 1 default,
      .imgEndCold { rq0 with id := 0 } 1 default,
      .imgEndMapped { rq0 with id := 0 } 1 default,
      .imgAbandon { rq0 with id := 0 },
      .restartCold { rq0 with id := 0 },
      .restartWarm { rq0 with id := 0 },
      .restartAuto { rq0 with id := 0 },
      .switchover { rq0 with id := 0 },
      .hearthReset { rq0 with id := 0 },
      .loopTrim { rq0 with id := 0 } true 1 1 1,
      .loopTrim rq0 true 8 1 1,
      .loopTrim rq0 true 1 (2 ^ 31) 1,
      .loopTrim rq0 true 1 (-2 ^ 31 - 1) 1,
      .loopTrim rq0 true 1 1 (2 ^ 31),
      .loopTrim rq0 true 1 1 (-2 ^ 31 - 1),
      .latTrim { rq0 with id := 0 } true 1 1 1,
      .latTrim rq0 true 4 1 1,
      .latTrim rq0 true 1 (2 ^ 31) 1,
      .latTrim rq0 true 1 (-2 ^ 31 - 1) 1,
      .latTrim rq0 true 1 1 (2 ^ 31),
      .latTrim rq0 true 1 1 (-2 ^ 31 - 1),
      .restep { rq0 with id := 0 },
      .setTime { rq0 with id := 0 } t0,
      .setTime rq0 { t0 with ns := 1000000000 },
      .fwOpen { rq0 with id := 0 } default,
      .fwBlock { rq0 with id := 0 } 1 default,
      .fwBlock rq0 (2 ^ 16) default,
      .fwSign { rq0 with id := 0 },
      .fwAbandon { rq0 with id := 0 },
      .fwActivate { rq0 with id := 0 } 1 1,
      .fwActivate rq0 2 1,
      .fwActivate rq0 1 4] : List Instr).all (fun c => !WellFormed c) = true := by decide +kernel

theorem wellFormed_refuses_6 :
    ([
      .projEnroll { rq0 with id := 0 } 1 true true,
      .projClear { rq0 with id := 0 },
      .rotTest { rq0 with id := 0 } default,
      .portTest { rq0 with id := 0 } 1 true,
      .portTest rq0 4 true,
      .dbgOpen { rq0 with id := 0 } true,
      .dbgClose { rq0 with id := 0 },
      .dbgHalt { rq0 with id := 0 } 1,
      .dbgStep { rq0 with id := 0 } 1,
      .dbgResume { rq0 with id := 0 },
      .dbgBreak { rq0 with id := 0 } 1 1 1 true,
      .dbgBreak rq0 8 1 1 true,
      .dbgBreak rq0 1 16 1 true,
      .dbgBreak rq0 1 1 (2 ^ 24) true,
      .dbgRead { rq0 with id := 0 } 1 4,
      .dbgRead rq0 (2 ^ 32) 4,
      .dbgRead rq0 1 32772,
      .dbgRead rq0 1 6,
      .dbgWrite { rq0 with id := 0 } 1 default,
      .dbgWrite rq0 (2 ^ 32) default,
      .dbgWrite rq0 1 (List.replicate 32772 0),
      .dbgWrite rq0 1 [1],
      .cardCompact { rq0 with id := 0 } true,
      .cardRewrite { rq0 with id := 0 },
      .netSet { rq0 with id := 0 } 1 true 1 1 1 1,
      .netSet rq0 2 true 1 1 1 1,
      .netSet rq0 1 true (2 ^ 16) 1 1 1,
      .netSet rq0 1 true 1 (2 ^ 32) 1 1,
      .netSet rq0 1 true 1 1 256 1,
      .netSet rq0 1 true 1 1 1 (2 ^ 32),
      .caSet { rq0 with id := 0 } default,
      .caSet rq0 (List.replicate 5 default),
      .status { rq0 with id := 0 },
      .porchReset { rq0 with id := 0 },
      .sfpRemoved 1 4,
      .readMulti rq0 [r0, { r0 with obj := 2 ^ 16 }],
      .readMulti { rq0 with id := 2 ^ 32 } [r0]] : List Instr).all (fun c => !WellFormed c) = true := by decide +kernel

end Forms

/-! ## Single commands; the expected values are worked out by hand from the rules named -/

namespace Commands

/-- What a command leaves. -/
def after (c : Instr) (s : State) : Mod :=
  match exec c s with
  | .next t => t.m
  | _ => s.m

/-- Engine 1 of lane A in class M. -/
def engineOf (m : Mod) : Eng :=
  match tabFind m.lanes.a.ctxs 0 with
  | some x => (tabFind x.engs 1).getD Eng.idle
  | none => Eng.idle

/-- A working register after an operation. -/
def regAfter (c : Instr) (w : W32) (k : Nat) : W64 := memGet (engineOf (after c (at1 w))).regs k

/-- −1 + 3 (R152). -/
theorem test_add_wraps : regAfter (.add e1 1 2) (opWord 0x10 1 2 0) 1 = 2 := by decide +kernel
/-- −2^63 / −1 gives −2^63 (table of R152). -/
theorem test_div_least : regAfter (.div e1 3 1) (opWord 0x15 3 1 0) 3 = 0x8000000000000000 := by decide +kernel
/-- A division by zero stops the engine and writes nothing (R171). -/
theorem test_div_zero : (engineOf (after (.div e1 3 0) (at1 (opWord 0x15 3 0 0)))).st ≠ .run
    ∧ regAfter (.div e1 3 0) (opWord 0x15 3 0 0) 3 = 0x8000000000000000 := by decide +kernel
/-- −2^63 × 7 saturates. -/
theorem test_muls_saturates : regAfter (.muls e1 3 4) (opWord 0x1C 3 4 0) 3 = 0x8000000000000000 := by decide +kernel
/-- 2 + (−3) = −1 in binary64 (R153). -/
theorem test_fadd : regAfter (.fadd e1 .b64 5 6) (opWord 0x20 5 6 0) 5 = 0xBFF0000000000000 := by decide +kernel
/-- 2 / ∞ = 0 (R153). -/
theorem test_fdiv_inf : regAfter (.fdiv e1 .b64 5 10) (opWord 0x23 5 10 0) 5 = 0 := by decide +kernel
/-- 3 rotated right by 1. -/
theorem test_shi_rotates : regAfter (.shi e1 4 2 0xC1) (opWord 0x5A 4 2 0xC1) 4 = 0x8000000000000001 := by decide +kernel
/-- Bits [3:0] of 7, sign-extended from bit 2: width 3 gives −1. -/
theorem test_ext_signed : regAfter (.ext e1 5 4 0x1002) (opWord 0x5F 5 4 0x1002) 5 = 0xFFFFFFFFFFFFFFFF := by decide +kernel
/-- Zero has 64 leading zero bits. -/
theorem test_clz_zero : regAfter (.clz e1 4 0) (opWord 0x5E 4 0 0) 4 = 64 := by decide +kernel
/-- A write to register 0 is discarded (R133). -/
theorem test_register_zero : regAfter (.movi e1 0 5) (opWord 0x02 0 0 5) 0 = 0 := by decide +kernel
/-- BZ is taken on register 0: from word 2 by 5. -/
theorem test_bz_taken : (engineOf (after (.bz e1 0 5) (at1 (opWord 0xA1 0 0 5)))).pc = 7 := by decide +kernel
/-- BZ is not taken on 3. -/
theorem test_bz_not_taken : (engineOf (after (.bz e1 2 5) (at1 (opWord 0xA1 0 2 5)))).pc = 3 := by decide +kernel
/-- END ends the share. -/
theorem test_end : (engineOf (after (.endShare e1) (at1 (opWord 0x93 0 0 0)))).st = .ended := by decide +kernel
/-- The self-test begins at the start condition (R591, R601). -/
theorem test_power_on : (after (.powerOnStart 5 true false) State.reset).power.boot = .bist := by decide +kernel
/-- A lane that stops carries POISON until the vote; a memory error counts (R107). -/
theorem test_lane_stop : (after (.laneStop 5 .B true) (started .alone id)).lanes.b.stopped = some true
    ∧ (after (.laneStop 5 .B true) (started .alone id)).lanes.b.poisoned = 1 := by decide +kernel
/-- A shadow that sees the owner's line fall takes the decision (R455). -/
theorem test_partner_fall : (after (.partnerOwnFall 5) (started .shadow fun m =>
    { m with bolt.ownPartner := true, pair.ready := true })).pair.decider = true := by decide +kernel
/-- The time base does not run back. -/
theorem test_time : (after (.stroke 5) (started .alone fun m => { m with now := 9 })).now = 9 := by decide +kernel
/-- The oldest command runs, the rest waits. -/
theorem test_step_takes_front : (match Machine.step { State.reset with pending := [.stroke 5, .status ⟨6, 1, 1, true⟩] } with
    | .next t => t.pending | _ => []) = [.status ⟨6, 1, 1, true⟩] := by decide +kernel
/-- A failed module shows FAIL and its code in hex (R667, and the worked case of R676); its FAULT LED is red (R668). -/
theorem test_display_fail : ((started .out fun m => { m with newel.failed := true, newel.failCode := .comparatorSplit }).m.display
      = "FAIL 03")
    ∧ (started .out fun m => { m with newel.failed := true }).m.ledFault = .red := by decide +kernel
/-- An owner with open ORIG gate shows role and mode, and OWN green (R667, R668). -/
theorem test_display_owner : let m := (started .owner fun m => { m with bolt.ownSelf := true, bolt.ownPartner := false }).m
    m.display = "OWNR " ++ keyText m.prog.pairKey ∧ m.ledOwn = .green := by decide +kernel

end Commands

end Sys2Proof.Tests
end

section
/-! How the statements about block code follow from what an operation's meaning does: one lemma for each form of a statement
(`Retires`, `Raises`, `Result`). The command's own meaning enters as the hypothesis `hc`, which holds by `rfl`. -/

namespace Sys2Proof.Proofs

open Sys2Proof Sys2Proof.Machine Sys2Proof.Claims

variable {c : Instr} {s : State} {e : EngRef} {word : W32} {v : View} {cost : Nat}

theorem retires_of_op {f : View → Res} {v' : View} (hc : exec c s = s.op e word cost f) (hs : Stands s e word v)
    (hf : f (v.next 1) = .ok v') : Retires c s e v' cost := hc.trans (State.op_ok hs hf)

theorem raises_of_op {f : View → Res} {x : Exc} (hc : exec c s = s.op e word cost f) (hs : Stands s e word v)
    (hf : f (v.next 1) = .error x) : Raises c s e v x cost := hc.trans (State.op_error hs hf)

/-- An operation that writes one register, its value given in the words of the statement. -/
theorem result_of_opReg {d : Reg} {f g : View → W64} (hc : ∀ s, exec c s = s.opReg e word cost d g)
    (hg : ∀ v : View, g (v.next 1) = f v) : Result c e word d cost f := fun s v hs => by
  rw [Retires, Gives, hc, State.opReg_eq hs, hg]

/-! ### Handles and fields -/

/-- The checks on a handle, as a proposition (R143). -/
theorem instOk_iff (v : View) (h : Nat) : v.instOk h = true ↔ HandleOk v h := by
  simp [View.instOk, HandleOk, and_assoc]

theorem field_past {h i : Nat} (hi : instWords v h ≤ i) :
    v.field h i = .error ⟨xFieldRange, false, some (instAddr h i)⟩ := if_pos hi

theorem field_state {h i : Nat} (hi : i < 2 + instState v.inst h) : v.field h i = .ok (memGet v.inst (h / 8 + i)) := by
  simp [View.field, isScratch, show ¬ 2 + instState v.inst h + instScratch v.inst h ≤ i by omega,
    show ¬ 2 + instState v.inst h ≤ i by omega]

/-- A scratch word reads zero until the class writes it in the same execution (R142). -/
theorem field_scratch {h i : Nat} (hlo : 2 + instState v.inst h ≤ i) (hhi : i < instWords v h) :
    v.field h i = .ok (if (tabFind v.ctx.scratch (h / 8 + i)).isSome then memGet v.inst (h / 8 + i) else 0) := by
  have hin : ¬ 2 + instState v.inst h + instScratch v.inst h ≤ i := Nat.not_le.2 hhi
  cases hw : tabFind v.ctx.scratch (h / 8 + i) <;> simp [View.field, isScratch, hin, hlo, hw]

theorem store_header {h i : Nat} {x : W64} (hi : i < 2) :
    v.store h i x = .error ⟨xHeaderWrite, true, some (instAddr h i)⟩ := if_pos hi

theorem store_past {h i : Nat} {x : W64} (h2 : 2 ≤ i) (hi : instWords v h ≤ i) :
    v.store h i x = .error ⟨xFieldRange, true, some (instAddr h i)⟩ := (if_neg (Nat.not_lt.2 h2)).trans (if_pos hi)

theorem store_ok {h i : Nat} {x : W64} (h2 : 2 ≤ i) (hi : i < instWords v h) : v.store h i x = .ok (v.poke h i x) :=
  (if_neg (Nat.not_lt.2 h2)).trans (if_neg (Nat.not_le.2 hi))

/-- A load of word `i` at handle `h`, for LD, LDX and LDR. -/
theorem readsWord_of_field {f : View → Res} {d : Reg} {h i : Nat} (hc : exec c s = s.op e word cost f)
    (hs : Stands s e word v) (hf : f (v.next 1) = ((v.next 1).field h i).map ((v.next 1).w d)) :
    ReadsWord c s e v d h i cost := by
  rw [View.next_field] at hf
  refine ⟨fun hi => raises_of_op hc hs ?_, fun hi => retires_of_op hc hs ?_, fun hlo hhi => retires_of_op hc hs ?_⟩
  · rw [hf, field_past hi]; rfl
  · rw [hf, field_state hi]; rfl
  · rw [hf, field_scratch hlo hhi]; rfl

/-- A store to word `i` at handle `h`, for ST, STX and STR. -/
theorem storesWord_of_store {f : View → Res} {d : Reg} {h i : Nat} (hc : exec c s = s.op e word cost f)
    (hs : Stands s e word v) (hf : f (v.next 1) = (v.next 1).store h i (v.r d)) :
    StoresWord c s e v d h i cost :=
  ⟨fun hi => raises_of_op hc hs (hf.trans (store_header hi)),
   fun h2 hi => raises_of_op hc hs (hf.trans (store_past h2 hi)),
   fun h2 hi => retires_of_op hc hs (hf.trans (store_ok h2 hi))⟩

end Sys2Proof.Proofs
end

section
/-! MOVE (R142, R146, R151, R152): moves, loads, stores and link words. -/

namespace Sys2Proof.Proofs

open Sys2Proof Sys2Proof.Machine Sys2Proof.Claims

variable {s : State} {e : EngRef} {v : View} {d r : Reg} {i : Imm}

theorem signImm_eq (i : Imm) : signImm i = BitVec.ofInt 64 i.toInt := rfl

/-- i + Ws, the sum unsigned over 64 bits (R152). -/
theorem fieldIndex_toNat (i : Imm) (x : W64) : (i.zeroExtend 64 + x).toNat = (i.toNat + x.toNat) % 2 ^ 64 := by
  have := i.isLt
  simp only [BitVec.toNat_add, BitVec.toNat_setWidth]
  omega

/-- MOVH's result as a number: the low 14 bits of the shifted word are free for `i`. -/
theorem shiftIn_imm (i : Imm) (x : W64) : (x <<< 14 ||| i.zeroExtend 64) = BitVec.ofNat 64 (x.toNat * 2 ^ 14 + i.toNat) := by
  have hi := i.isLt
  apply BitVec.eq_of_toNat_eq
  rw [BitVec.toNat_or, BitVec.toNat_shiftLeft, BitVec.toNat_setWidth, BitVec.toNat_ofNat, Nat.shiftLeft_eq,
    Nat.mod_eq_of_lt (by omega : i.toNat < 2 ^ 64), show x.toNat * 2 ^ 14 % 2 ^ 64 = 2 ^ 14 * (x.toNat % 2 ^ 50) by omega,
    ← Nat.two_pow_add_eq_or_of_lt hi]
  omega

/-- LDR and STR check the handle in Ws before the field (R143, R146). -/
theorem readsWord_ldr (hs : Stands s e (opWord 0x08 d r i) v) (hh : HandleOk v (uns v r)) :
    ReadsWord (.ldr e d r i) s e v d (uns v r) i.toNat 3 :=
  readsWord_of_field rfl hs (if_pos ((instOk_iff v _).2 hh))

theorem raises_ldr (hs : Stands s e (opWord 0x08 d r i) v) (hh : ¬HandleOk v (uns v r)) :
    Raises (.ldr e d r i) s e v ⟨xBadInstance, false, some (instAddr (uns v r) 0)⟩ 3 :=
  raises_of_op rfl hs (if_neg (mt (instOk_iff v _).1 hh))

theorem storesWord_str (hs : Stands s e (opWord 0x09 d r i) v) (hh : HandleOk v (uns v r)) :
    StoresWord (.str e d r i) s e v d (uns v r) i.toNat 2 :=
  storesWord_of_store rfl hs (if_pos ((instOk_iff v _).2 hh))

theorem raises_str (hs : Stands s e (opWord 0x09 d r i) v) (hh : ¬HandleOk v (uns v r)) :
    Raises (.str e d r i) s e v ⟨xBadInstance, true, some (instAddr (uns v r) 0)⟩ 2 :=
  raises_of_op rfl hs (if_neg (mt (instOk_iff v _).1 hh))

theorem readsWord_ldx (hs : Stands s e (opWord 0x06 d r i) v) :
    ReadsWord (.ldx e d r i) s e v d v.eng.ib ((i.toNat + uns v r) % 2 ^ 64) 3 := by
  rw [uns, ← fieldIndex_toNat]
  exact readsWord_of_field rfl hs rfl

theorem storesWord_stx (hs : Stands s e (opWord 0x07 d r i) v) :
    StoresWord (.stx e d r i) s e v d v.eng.ib ((i.toNat + uns v r) % 2 ^ 64) 2 := by
  rw [uns, ← fieldIndex_toNat]
  exact storesWord_of_store rfl hs rfl

theorem retires_ldc {x : W64} (hs : Stands s e (opWord 0x03 d 0 i) v) (hx : v.img.consts[i.toNat]? = some x) :
    Retires (.ldc e d i) s e ((v.next 1).w d x) 2 := by
  have hget : v.img.consts.getD i.toNat 0 = x := by simp [hx]
  subst hget
  exact State.opReg_eq hs

/-- A link word is written once in an execution (R151). -/
theorem retires_lkw (hs : Stands s e (opWord 0x0D d 0 i) v) (hl : tabFind v.ctx.links i.toNat = none) :
    Retires (.lkw e d i) s e ((v.next 1).linkWrite i.toNat (v.r d)) 1 :=
  retires_of_op rfl hs (by simp [hl])

theorem raises_lkw {l : Link} (hs : Stands s e (opWord 0x0D d 0 i) v) (hl : tabFind v.ctx.links i.toNat = some l) :
    Raises (.lkw e d i) s e v (exc xLinkTwice) 1 :=
  raises_of_op rfl hs (by simp [hl])

theorem exec_lkr : exec (.lkr e d i) s = s.does fun m => m.quiet.linkRead e (opWord 0x0C d 0 i) d i.toNat := rfl

/-- LKR of a written word: the value, no earlier than it was written (R78, R151). -/
theorem retires_lkr {l : Link} (hs : Stands s e (opWord 0x0C d 0 i) v) (hl : tabFind v.ctx.links i.toNat = some l) :
    let w := (v.next 1).w d l.value
    Retires (.lkr e d i) s e { w with eng := { w.eng with cyc := max w.eng.cyc l.cyc } } 2 := by
  simp only [Retires, Gives, exec_lkr, State.does, Mod.linkRead, Mod.fetch_quiet, hs, hl]

/-- LKR of a word not yet written: the engine waits at the operation (R151). -/
theorem waits_lkr (hs : Stands s e (opWord 0x0C d 0 i) v) (hl : tabFind v.ctx.links i.toNat = none) :
    Gives (.lkr e d i) s (s.m.quiet.putView e { v with eng := { v.eng with st := .wait i.toNat } } 0 false) := by
  simp only [Gives, exec_lkr, State.does, Mod.linkRead, Mod.fetch_quiet, hs, hl]

/-- Settles O4: each command is its operation, whose result on the view the lemmas above give. -/
theorem movesAndLinkWords : Obligations.MovesAndLinkWords :=
  ⟨fun _ _ _ hs => retires_of_op rfl hs rfl,
    fun _ _ _ => result_of_opReg (fun _ => rfl) fun _ => rfl,
    fun _ _ i => result_of_opReg (fun _ => rfl) fun _ => signImm_eq i,
    fun _ _ _ _ _ _ => retires_ldc,
    fun _ _ _ _ _ hs => readsWord_of_field rfl hs rfl,
    fun _ _ _ _ _ hs => storesWord_of_store rfl hs rfl,
    fun _ _ _ _ _ _ => readsWord_ldx,
    fun _ _ _ _ _ _ => storesWord_stx,
    fun _ _ _ _ _ _ hs => ⟨readsWord_ldr hs, raises_ldr hs⟩,
    fun _ _ _ _ _ _ hs => ⟨storesWord_str hs, raises_str hs⟩,
    fun _ d i => result_of_opReg (fun _ => rfl) fun v => shiftIn_imm i (v.r d),
    fun _ _ _ _ _ => retires_lkw,
    fun _ _ _ _ _ _ => raises_lkw,
    fun _ _ _ _ _ _ => retires_lkr,
    fun _ _ _ _ _ => waits_lkr⟩

end Sys2Proof.Proofs
end

section
/-! EDGE, TIMER and COUNT (R152, R157-R161): blocks of state words. -/

namespace Sys2Proof.Proofs

open Sys2Proof Sys2Proof.Machine Sys2Proof.Claims

variable {c : Instr} {e : EngRef} {word : W32} {cost : Nat} {d r : Reg} {i : Imm}

/-! ### Blocks -/

theorem boolWord_eq_oneIf {b : Bool} {p : Prop} [Decidable p] (h : b = true ↔ p) : boolWord b = oneIf p := by
  simp only [boolWord, oneIf, h]

/-- The words that a block takes are state words of the block code's own fields (R152). -/
theorem stateWords_iff (v : View) (i : Imm) (n : Nat) : v.stateWords i.toNat n = true ↔ InState v i n := by
  simp [View.stateWords, InState]

@[simp] theorem next_stateWords (v : View) (k i n : Nat) : (v.next k).stateWords i n = v.stateWords i n := rfl
@[simp] theorem next_blockWord (v : View) (n k : Nat) : blockWord (v.next n) i k = blockWord v i k := rfl
@[simp] theorem next_previous (v : View) (n k : Nat) : previous (v.next n) i k = previous v i k := rfl

theorem st_zero (v : View) (i : Imm) : v.st i.toNat = blockWord v i 0 := rfl
theorem st_add (v : View) (i : Imm) (k : Nat) : v.st (i.toNat + k) = blockWord v i k := by
  rw [View.st, blockWord, Nat.add_assoc]

theorem prev_eq_previous (v : View) (i : Imm) (k : Nat) (inp : Bool) :
    v.prev (blockWord v i 0) k inp = previous v i k inp := by
  cases hb : instInitEdge v.inst v.eng.ib <;> simp [View.prev, previous, hb]

/-- An operation on a block that answers FIELD_RANGE for every block that does not lie in the state words. -/
theorem blockFault_of_op {f : View → Res} {n : Nat} {write : Bool} (hc : ∀ s, exec c s = s.op e word cost f)
    (hf : ∀ v : View, ¬v.stateWords i.toNat n = true → f v = .error (v.blockExc i.toNat write)) :
    BlockFault c e word i n write cost := fun s v hs hout =>
  raises_of_op (hc s) hs (hf (v.next 1) (mt (stateWords_iff v i n).1 hout))

/-! ### Edges (R158) -/

/-- An edge operation: the edge word holds the input afterwards, `p` is the edge asked for. -/
theorem retires_edge {s : State} {v : View} {f : Bool → Bool → Bool} {p : Prop} [Decidable p]
    (hc : exec c s = s.op e word cost fun v => v.edge d (v.r r) i.toNat f) (hs : Stands s e word v) (hin : InState v i 1)
    (hp : f (v.r r != 0) (previous v i 0 (v.r r != 0)) = true ↔ p) :
    Retires c s e (((v.next 1).poke v.eng.ib i.toNat (oneIf ((v.r r != 0) = true))).w d (oneIf p)) cost :=
  retires_of_op hc hs (by
    simp only [View.edge, next_stateWords, (stateWords_iff v i 1).2 hin, if_true, st_zero, prev_eq_previous]
    simp only [next_previous, View.next_r, View.next_ib, boolWord_eq_oneIf hp, boolWord_eq_oneIf Iff.rfl])

theorem rising_iff (inp prev : Bool) : (inp && !prev) = true ↔ inp = true ∧ prev = false := by simp
theorem falling_iff (inp prev : Bool) : (!inp && prev) = true ↔ inp = false ∧ prev = true := by simp
theorem changing_iff (inp prev : Bool) : (inp != prev) = true ↔ inp ≠ prev := bne_iff_ne

theorem blockFault_edge {f : Bool → Bool → Bool}
    (hc : ∀ s, exec c s = s.op e word cost fun v => v.edge d (v.r r) i.toNat f) : BlockFault c e word i 1 true cost :=
  blockFault_of_op hc fun _ hout => if_neg hout

/-! ### Timers (R159) -/

/-- A timer's flags as the statements write them: its line, and whether START is assigned. -/
def lineStart (t : TimerSt) : TimerLine × Bool := (⟨t.q, t.run, t.done⟩, t.start)

/-- `step` is what a timer of kind `kind` does before the time is judged; `rises` and `pulse` say what its expiry leaves. -/
structure IsTimer (kind : Nat) (rises pulse : Bool) (step : Bool → Bool → W64 → TimerSt → TimerSt) : Prop where
  first : ∀ inp prev pt q run done, lineStart (step inp prev pt ⟨q, run, done, false⟩)
    = timerFirst kind inp prev pt.toNat ⟨q, run, done⟩
  expire : ∀ inp prev pt el t, let u := timerFirst kind inp prev pt t
    (u.1.run && decide (pt ≤ if u.2 then 0 else el)) = true →
      timerStep kind inp prev pt el t = (⟨rises, false, if pulse then inp else true⟩, u.2)

theorem isTimer_ton : IsTimer 0 true false tonStep where
  first inp prev pt q run done := by
    cases inp with
    | false => rfl
    | true => cases h : !run && !q <;> simp [tonStep, timerFirst, lineStart, h]
  expire _ _ _ _ _ h := if_pos h

theorem isTimer_tof : IsTimer 1 false false tofStep where
  first inp prev pt q run done := by
    cases inp with
    | false => cases h : prev && q <;> simp [tofStep, timerFirst, lineStart, h]
    | true => rfl
  expire _ _ _ _ _ h := if_pos h

theorem bne_zero_eq_decide_pos (x : W64) : (x != 0) = decide (0 < x.toNat) := by
  rw [Bool.eq_iff_iff, bne_iff_ne, decide_eq_true_iff, Nat.pos_iff_ne_zero, Ne, ← BitVec.toNat_inj]
  rfl

theorem isTimer_tp : IsTimer 2 false true tpStep where
  first inp prev pt q run done := by
    cases inp with
    | false => rfl
    | true =>
      simp only [tpStep, timerFirst, bne_zero_eq_decide_pos, Bool.not_true, Bool.false_eq_true, if_false]
      generalize (true && !prev && !run && decide (0 < pt.toNat)) = rise
      cases rise <;> rfl
  expire _ _ _ _ _ h := if_pos h

/-- Where no running timer has reached its time, the step is its first part. -/
theorem timerStep_of_not_due {kind : Nat} {inp prev : Bool} {pt el : Nat} {t : TimerLine}
    (h : ¬((timerFirst kind inp prev pt t).1.run
      && decide (pt ≤ if (timerFirst kind inp prev pt t).2 then 0 else el)) = true) :
    timerStep kind inp prev pt el t = timerFirst kind inp prev pt t := if_neg h

/-- A timer's flags after the step that `t` is the first part of (R159): the elapsed time counts as 0 where START is assigned. -/
def judged (rises pulse inp : Bool) (pt el : W64) (t : TimerSt) : TimerSt :=
  if t.run && pt.ule (if t.start then 0 else el) then timerExpire rises pulse inp t else t

/-- The step of a timer, its expiry included, is that of the statements. -/
theorem IsTimer.timerStep_eq {kind : Nat} {rises pulse : Bool} {step : Bool → Bool → W64 → TimerSt → TimerSt}
    (h : IsTimer kind rises pulse step) (inp prev : Bool) (pt el ctl : W64) :
    timerStep kind inp prev pt.toNat el.toNat ⟨ctl.getLsbD 1, ctl.getLsbD 2, ctl.getLsbD 3⟩
      = lineStart (judged rises pulse inp pt el (step inp prev pt (timerOf ctl))) := by
  have hfirst := h.first inp prev pt (ctl.getLsbD 1) (ctl.getLsbD 2) (ctl.getLsbD 3)
  rw [← timerOf] at hfirst
  generalize step inp prev pt (timerOf ctl) = t at hfirst ⊢
  have hel : (if t.start then 0 else el.toNat) = (if t.start then (0 : W64) else el).toNat := by
    cases t.start <;> rfl
  by_cases hdue : (t.run && pt.ule (if t.start then 0 else el)) = true
  · have hexpire := h.expire inp prev pt.toNat el.toNat ⟨ctl.getLsbD 1, ctl.getLsbD 2, ctl.getLsbD 3⟩
    simp only [← hfirst, lineStart, hel, ← BitVec.ule_eq_decide] at hexpire
    rw [hexpire hdue, judged, if_pos hdue]
    rfl
  · rw [judged, if_neg hdue, hfirst]
    refine timerStep_of_not_due ?_
    simpa only [← hfirst, lineStart, hel, ← BitVec.ule_eq_decide] using hdue

/-- The expiry leaves START alone. -/
theorem judged_start (rises pulse inp : Bool) (pt el : W64) (t : TimerSt) :
    (judged rises pulse inp pt el t).start = t.start := by
  rw [judged]
  generalize (t.run && _) = due
  cases due <;> rfl

theorem timerWord_false (t : TimerSt) (prev : Bool) : timerWord false t prev
    = BitVec.ofNat 64 ((if t.done then 8 else 0) + (if t.run then 4 else 0) + (if t.q then 2 else 0)
      + (if prev then 1 else 0)) := by
  simp [timerWord]

theorem timerOp_of_op {kind : Nat} {rises pulse : Bool} {step : Bool → Bool → W64 → TimerSt → TimerSt}
    (h : IsTimer kind rises pulse step)
    (hc : ∀ s, exec c s = s.op e word 4 fun v => v.timerOp d (v.r r) i.toNat rises pulse step) :
    TimerOp c e word d r i kind := fun s v hs hin => by
  refine retires_of_op (hc s) hs ?_
  simp only [View.timerOp, next_stateWords, (stateWords_iff v i 3).2 hin, if_true, st_zero, st_add, prev_eq_previous]
  simp only [next_previous, next_blockWord, View.next_r, View.next_ib, h.timerStep_eq, lineStart, judged_start,
    ← timerWord_false]
  rfl

theorem blockFault_timerOp {rises pulse : Bool} {step : Bool → Bool → W64 → TimerSt → TimerSt}
    (hc : ∀ s, exec c s = s.op e word cost fun v => v.timerOp d (v.r r) i.toNat rises pulse step) :
    BlockFault c e word i 3 true cost := blockFault_of_op hc fun _ hout => if_neg hout

/-! ### TELAP and TRST (R159) -/

/-- What TELAP shows, as a number: while RUN the elapsed time up to PT, while DONE PT. -/
theorem telap_eq (run done : Bool) (el pt : W64) :
    (if run then (if el.ult pt then el else pt) else if done then pt else 0)
      = BitVec.ofNat 64 (if run then min el.toNat pt.toNat else if done then pt.toNat else 0) := by
  cases run with
  | true =>
    simp only [if_true, BitVec.ult_eq_decide, decide_eq_true_eq]
    split
    · rw [Nat.min_eq_left (by omega), BitVec.ofNat_toNat, BitVec.setWidth_eq]
    · rw [Nat.min_eq_right (by omega), BitVec.ofNat_toNat, BitVec.setWidth_eq]
  | false => cases done <;> simp

/-- A control word with INIT and PREV alone, bit by bit. -/
theorem getLsbD_timerWord_idle : ∀ (init prev : Bool) (k : Fin 64),
    (timerWord init ⟨false, false, false, false⟩ prev).getLsbD k = if k = 63 then init else k = 0 && prev := by
  decide

theorem getLsbD_initPrev : ∀ k : Fin 64, (0x8000000000000001#64).getLsbD k = (k = 63 || k = 0 : Bool) := by
  decide

/-- The control word of an idle timer: INIT and PREV as they were. -/
theorem timerWord_idle (c : W64) :
    timerWord (c.getLsbD 63) ⟨false, false, false, false⟩ (c.getLsbD 0) = c &&& 0x8000000000000001#64 := by
  refine BitVec.eq_of_getLsbD_eq fun k hk => ?_
  rw [BitVec.getLsbD_and, getLsbD_timerWord_idle _ _ ⟨k, hk⟩, getLsbD_initPrev ⟨k, hk⟩]
  by_cases h63 : (⟨k, hk⟩ : Fin 64) = 63
  · obtain rfl : k = 63 := congrArg Fin.val h63
    simp
  · by_cases h0 : (⟨k, hk⟩ : Fin 64) = 0
    · obtain rfl : k = 0 := congrArg Fin.val h0
      simp
    · simp [h63, h0]

theorem retires_telap {s : State} {v : View} (hs : Stands s e (opWord 0x73 d 0 i) v) (hin : InState v i 3) :
    let el := (BitVec.ofNat 64 v.ctx.snap.clk - blockWord v i 2).toNat
    let pt := (blockWord v i 1).toNat
    Retires (.telap e d i) s e ((v.next 1).w d (BitVec.ofNat 64
      (if (blockWord v i 0).getLsbD 2 then min el pt else if (blockWord v i 0).getLsbD 3 then pt else 0))) 3 := by
  refine retires_of_op rfl hs ?_
  simp only [next_stateWords, (stateWords_iff v i 3).2 hin, if_true, st_zero, st_add, timerOf, telap_eq]
  rfl

theorem retires_trst {s : State} {v : View} (hs : Stands s e (opWord 0x74 0 0 i) v) (hin : InState v i 3) :
    Retires (.trst e i) s e ((v.next 1).poke v.eng.ib i.toNat (blockWord v i 0 &&& 0x8000000000000001#64)) 2 := by
  refine retires_of_op rfl hs ?_
  simp only [next_stateWords, (stateWords_iff v i 3).2 hin, if_true, st_zero, timerOf, timerWord_idle]
  rfl

/-! ### Counters (R161) -/

/-- A signed word is at most 2^63 − 1, so a counter below its bound is one that is not at it. -/
theorem countUp_toInt (x : W64) : countUp x.toInt = countsUp x.toInt := by
  have hmax := x.toInt_lt
  by_cases h : x.toInt = 2 ^ 63 - 1
  · rw [countsUp, if_pos h, countUp, if_neg (by omega)]
  · rw [countsUp, if_neg h, countUp, if_pos (by omega)]

theorem countDown_toInt (x : W64) : countDown x.toInt = countsDown x.toInt := by
  have hmin := x.le_toInt
  by_cases h : x.toInt = -(2 ^ 63)
  · rw [countsDown, if_pos h, countDown, if_neg (by omega)]
  · rw [countsDown, if_neg h, countDown, if_pos (by omega)]

/-- A counter operation, its step and its result given in the words of the statement. -/
theorem counterOp_of_op {step : CountStep} {res : Int → Int → W64}
    {step' : Bool → Bool → Bool → Bool → Int → Int → Option Int} {res' : Int → Int → W64}
    (hc : ∀ s, exec c s = s.op e word 3 fun v => v.counter d (v.r r) i.toNat step res)
    (hstep : ∀ up dn rst ld (cv : W64) pv, step up dn rst ld cv.toInt pv = step' up dn rst ld cv.toInt pv)
    (hres : ∀ cv pv, res cv pv = res' cv pv) : CounterOp c e word d r i step' res' := fun s v hs hin => by
  refine retires_of_op (hc s) hs ?_
  simp only [View.counter, next_stateWords, (stateWords_iff v i 3).2 hin, if_true, st_zero, st_add, prev_eq_previous,
    hstep, hres]
  rfl

theorem blockFault_counter {step : CountStep} {res : Int → Int → W64}
    (hc : ∀ s, exec c s = s.op e word cost fun v => v.counter d (v.r r) i.toNat step res) :
    BlockFault c e word i 3 true cost := blockFault_of_op hc fun _ hout => if_neg hout

theorem ctuResult_eq (cv pv : Int) : ctuResult cv pv = oneIf (pv ≤ cv) := boolWord_eq_oneIf decide_eq_true_iff

theorem ctdResult_eq (cv pv : Int) : ctdResult cv pv = oneIf (cv ≤ 0) := boolWord_eq_oneIf decide_eq_true_iff

/-- CTUD's two bits do not overlap: their union is their sum. -/
theorem ctudResult_eq (cv pv : Int) :
    ctudResult cv pv = BitVec.ofNat 64 ((if pv ≤ cv then 1 else 0) + (if cv ≤ 0 then 2 else 0)) := by
  unfold ctudResult
  split <;> split <;> rfl

theorem ctuStep_eq (cu cd rst ld : Bool) (cv : W64) (pv : Int) :
    ctuStep cu cd rst ld cv.toInt pv = if rst then some 0 else if cu then countsUp cv.toInt else none := by
  rw [← countUp_toInt]; rfl

theorem ctdStep_eq (cu cd rst ld : Bool) (cv : W64) (pv : Int) :
    ctdStep cu cd rst ld cv.toInt pv = if ld then some pv else if cd then countsDown cv.toInt else none := by
  rw [← countDown_toInt]; rfl

/-- Rising inputs CU and CD together count neither way. -/
theorem ctudStep_eq (cu cd rst ld : Bool) (cv : W64) (pv : Int) : ctudStep cu cd rst ld cv.toInt pv
    = if rst then some 0 else if ld then some pv
      else if cu && !cd then countsUp cv.toInt else if cd && !cu then countsDown cv.toInt else none := by
  cases cu <;> cases cd <;> simp [ctudStep, countUp_toInt, countDown_toInt]

/-- Settles O6: each command is its block operation, whose step the lemmas above give. -/
theorem edgeTimerAndCounterBlocks : Obligations.EdgeTimerAndCounterBlocks :=
  ⟨fun _ _ _ _ _ _ hs hin => retires_edge rfl hs hin (rising_iff _ _),
    fun _ _ _ _ _ _ hs hin => retires_edge rfl hs hin (falling_iff _ _),
    fun _ _ _ _ _ _ hs hin => retires_edge rfl hs hin (changing_iff _ _),
    fun _ _ _ _ => blockFault_edge fun _ => rfl,
    fun _ _ _ _ => blockFault_edge fun _ => rfl,
    fun _ _ _ _ => blockFault_edge fun _ => rfl,
    fun _ _ _ _ => timerOp_of_op isTimer_ton fun _ => rfl,
    fun _ _ _ _ => timerOp_of_op isTimer_tof fun _ => rfl,
    fun _ _ _ _ => timerOp_of_op isTimer_tp fun _ => rfl,
    fun _ _ _ _ _ => retires_telap,
    fun _ _ _ _ => retires_trst,
    fun _ _ _ _ => blockFault_timerOp fun _ => rfl,
    fun _ _ _ _ => blockFault_timerOp fun _ => rfl,
    fun _ _ _ _ => blockFault_timerOp fun _ => rfl,
    fun _ _ _ => blockFault_of_op (fun _ => rfl) fun _ h => if_neg h,
    fun _ _ => blockFault_of_op (fun _ => rfl) fun _ h => if_neg h,
    fun _ _ _ _ => counterOp_of_op (fun _ => rfl) ctuStep_eq ctuResult_eq,
    fun _ _ _ _ => counterOp_of_op (fun _ => rfl) ctdStep_eq ctdResult_eq,
    fun _ _ _ _ => counterOp_of_op (fun _ => rfl) ctudStep_eq ctudResult_eq,
    fun _ _ _ _ => blockFault_counter fun _ => rfl,
    fun _ _ _ _ => blockFault_counter fun _ => rfl,
    fun _ _ _ _ => blockFault_counter fun _ => rfl⟩

end Sys2Proof.Proofs
end

section
/-! AXIS (R152, R165, R335): axis records, the master table and TURN96 pairs. -/

namespace Sys2Proof.Proofs

open Sys2Proof Sys2Proof.Machine Sys2Proof.Claims

variable {s : State} {e : EngRef} {v : View} {d r : Reg} {i : Imm}

/-! ### Axis records and the master table -/

theorem toNat_r (v : View) (k : Reg) : (v.r k).toNat = uns v k := rfl

/-- Word `i` of the record of a configured axis. -/
theorem axisWord_configured {c : AxisCfg} {a : Nat} (hc : v.img.axis = some c) (ha : a < 1024)
    (hax : (c.axes.any fun x => x.axis = a) = true) (i : Nat) : v.axisWord a i = some (64 * a + 8 * i) := by
  simp [View.axisWord, hc, ha, hax]

theorem axisWord_past {a : Nat} (ha : 1024 ≤ a) (i : Nat) : v.axisWord a i = none := by
  rw [View.axisWord]
  split
  · simp [Nat.not_lt.2 ha]
  · rfl

@[simp] theorem next_axisWord (v : View) (n a i : Nat) : (v.next n).axisWord a i = v.axisWord a i := rfl

/-- What an engine may read and write does not depend on where it stands. -/
@[simp] theorem next_readBytes (v : View) (k : Nat) (a : Area) (o n : Nat) :
    (v.next k).readBytes a o n = v.readBytes a o n := by
  induction n generalizing o with
  | zero => rfl
  | succ n ih => rw [View.readBytes, View.readBytes, ih]; rfl

@[simp] theorem next_writable (v : View) (k : Nat) (a : Area) (o n : Nat) :
    (v.next k).writable a o n = v.writable a o n := by
  induction n generalizing o with
  | zero => rfl
  | succ n ih => rw [View.writable, View.writable, ih]; rfl

theorem retires_axrd {c : AxisCfg} {bs : List Byte} (hs : Stands s e (opWord 0xC0 d r i) v) (hc : v.img.axis = some c)
    (ha : uns v r < 1024) (hax : (c.axes.any fun x => x.axis = uns v r) = true)
    (hb : v.readBytes .axIn (64 * uns v r + 8 * i.toNat) 8 = some bs) :
    Retires (.axrd e d r i) s e ((v.next 1).w d (BitVec.ofNat 64 (leNat bs))) 3 :=
  retires_of_op rfl hs (by
    simp only [View.next_r, next_axisWord, next_readBytes, toNat_r, axisWord_configured hc ha hax, hb])

theorem retires_axwr {c : AxisCfg} (hs : Stands s e (opWord 0xC1 d r i) v) (hc : v.img.axis = some c)
    (ha : uns v r < 1024) (hax : (c.axes.any fun x => x.axis = uns v r) = true)
    (hw : v.writable .axOut (64 * uns v r + 8 * i.toNat) 8 = true) :
    Retires (.axwr e d r i) s e ((v.next 1).putBytes .axOut (64 * uns v r + 8 * i.toNat) (leBytes (uns v d) 8)) 2 :=
  retires_of_op rfl hs (by
    simp only [View.next_r, next_axisWord, next_writable, toNat_r, axisWord_configured hc ha hax, hw, if_true])

theorem raises_axrd (hs : Stands s e (opWord 0xC0 d r i) v) (ha : 1024 ≤ uns v r) :
    Raises (.axrd e d r i) s e v (exc xBadAxis) 3 :=
  raises_of_op rfl hs (by simp only [View.next_r, toNat_r, axisWord_past ha])

theorem raises_axwr (hs : Stands s e (opWord 0xC1 d r i) v) (ha : 1024 ≤ uns v r) :
    Raises (.axwr e d r i) s e v (exc xBadAxis) 2 :=
  raises_of_op rfl hs (by simp only [View.next_r, toNat_r, axisWord_past ha])

theorem retires_axmp (hs : Stands s e (opWord 0xC2 d 0 i) v) (hd : pairOk d = true)
    (hm : (v.img.cls v.cls).mtable = true) :
    Retires (.axmp e d i) s e ((v.next 1).w2 d (BitVec.ofNat 64 (memNat v.ctx.mtab (32 * i.toNat) 8))
      (BitVec.ofNat 64 (memNat v.ctx.mtab (32 * i.toNat + 8) 4))) 4 :=
  retires_of_op rfl hs (by simp [hd, hm])

theorem retires_axmv (hs : Stands s e (opWord 0xC3 d 0 i) v) (hm : (v.img.cls v.cls).mtable = true) :
    Retires (.axmv e d i) s e ((v.next 1).w d (BitVec.ofNat 64 (memNat v.ctx.mtab (32 * i.toNat + 16) 8))) 3 :=
  retires_of_op rfl hs (by simp [hm])

theorem raises_axmp (hs : Stands s e (opWord 0xC2 d 0 i) v) (hd : pairOk d = false) :
    Raises (.axmp e d i) s e v (exc xBadReg) 4 :=
  raises_of_op rfl hs (by simp [hd])

theorem raises_axmv (hs : Stands s e (opWord 0xC3 d 0 i) v) (hm : (v.img.cls v.cls).mtable = false) :
    Raises (.axmv e d i) s e v ⟨xImgRange, false, none⟩ 3 :=
  raises_of_op rfl hs (by simp [hm])

/-! ### TURN96 pairs (R165) -/

theorem wTurn_eq_putTurns (v : View) (k : Reg) (x : Int) : v.wTurn k x = putTurns v k x := rfl

theorem retires_tadd (hs : Stands s e (opWord 0xC4 d r 0) v) (hd : pairOk d = true) (hr : pairOk r = true) :
    Retires (.tadd e d r) s e (putTurns (v.next 1) d (turns v d + turns v r)) 2 :=
  retires_of_op rfl hs (if_pos (by rw [hd, hr]; rfl))

theorem retires_tsub (hs : Stands s e (opWord 0xC5 d r 0) v) (hd : pairOk d = true) (hr : pairOk r = true) :
    Retires (.tsub e d r) s e (putTurns (v.next 1) d (turns v d - turns v r)) 2 :=
  retires_of_op rfl hs (if_pos (by rw [hd, hr]; rfl))

theorem retires_ttof (hs : Stands s e (opWord 0xC6 d r 0) v) (hr : pairOk r = true) :
    Retires (.ttof e d r) s e ((v.next 1).w d
      (fpRound .b64 (decide (turns v r < 0)) (turns v r).natAbs (-32) false).1) 4 :=
  retires_of_op rfl hs (if_pos hr)

/-- A magnitude is no negative number, and TURN_RANGE is judged on it as a natural number. -/
theorem le_fpNearest_toNat_iff (m : Nat) (x : Int) :
    2 ^ 95 ≤ (fpNearest false m x).toNat ↔ 2 ^ 95 ≤ fpNearest false m x := by
  omega

theorem retires_tfrf {n : Bool} {m : Nat} {x : Int} (hs : Stands s e (opWord 0xC7 d r 0) v) (hd : pairOk d = true)
    (hf : fpOf .b64 (v.r r) = .fin n m x) (hx : fpNearest false m (x + 32) < 2 ^ 95) :
    Retires (.tfrf e d r) s e (putTurns (v.next 1) d (fpNearest n m (x + 32))) 4 :=
  retires_of_op rfl hs (by
    simp only [hd, if_true, View.next_r, hf, le_fpNearest_toNat_iff, Int.not_le.2 hx, if_false, wTurn_eq_putTurns])

/-- TFRF of a NaN, an infinity or a magnitude of 2^63 turns or more (R165). -/
theorem raises_tfrf (hs : Stands s e (opWord 0xC7 d r 0) v) (hd : pairOk d = true)
    (hx : ∀ n m x, fpOf .b64 (v.r r) = .fin n m x → 2 ^ 95 ≤ fpNearest false m (x + 32)) :
    Raises (.tfrf e d r) s e v (exc xTurnRange) 4 := by
  refine raises_of_op rfl hs ?_
  simp only [hd, if_true, View.next_r]
  cases hf : fpOf .b64 (v.r r) with
  | nan _ => rfl
  | inf _ => rfl
  | fin n m x => exact if_pos ((le_fpNearest_toNat_iff m (x + 32)).2 (hx n m x hf))

/-- The word of −1, 0 or 1 as one value is less than, equal to or greater than another. -/
theorem ofInt_order (x y : Int) : BitVec.ofInt 64 (if x < y then -1 else if x = y then 0 else 1)
    = if x < y then BitVec.allOnes 64 else if x = y then 0 else 1 := by
  simp only [apply_ite (BitVec.ofInt 64)]
  rfl

theorem retires_tcmp (hs : Stands s e (opWord 0xC8 d r 0) v) (hd : pairOk d = true) (hr : pairOk r = true) :
    Retires (.tcmp e d r) s e ((v.next 1).w d (BitVec.ofInt 64
      (if turns v d < turns v r then -1 else if turns v d = turns v r then 0 else 1))) 2 := by
  rw [ofInt_order]
  exact retires_of_op rfl hs (if_pos (by rw [hd, hr]; rfl))

/-- Settles O8: each command is its operation, whose result on the view the lemmas above give. -/
theorem axisOperations : Obligations.AxisOperations :=
  ⟨fun _ _ _ _ _ _ _ _ => retires_axrd, fun _ _ _ _ _ _ _ => retires_axwr,
    fun _ _ _ _ _ _ => ⟨raises_axrd, raises_axwr⟩, fun _ _ _ _ _ => retires_axmp, fun _ _ _ _ _ => retires_axmv,
    fun _ _ _ _ _ => ⟨raises_axmp, raises_axmv⟩, fun _ _ _ _ _ => retires_tadd, fun _ _ _ _ _ => retires_tsub,
    fun _ _ _ _ _ => retires_ttof, fun _ _ _ _ _ _ _ _ => retires_tfrf, fun _ _ _ _ _ => raises_tfrf,
    fun _ _ _ _ _ => retires_tcmp⟩

end Sys2Proof.Proofs
end

section
/-! ARITH-FLOAT (R152-R156): the operations of both formats, the canonical NaN and the zeros. -/

namespace Sys2Proof.Proofs

open Sys2Proof Sys2Proof.Machine Sys2Proof.Claims

/-! ### Operations -/

theorem fpCost_same (w : FWidth) (n : Nat) : fpCost w n n = n := by cases w <;> rfl

/-- A floating-point operation, its result and flags given in the words of the statement. -/
theorem floatResult_of_fp {c : Instr} {e : EngRef} {w : FWidth} {x : BitVec 8} {d r : Reg} {i : Imm} {c64 c32 : Nat}
    {f g : View → W64 × BitVec 5} (hc : ∀ s, exec c s = s.fp e w x d r i c64 c32 g)
    (hg : ∀ v : View, g (v.next 1) = f v) : FloatResult c e (opWord (fpOpcode w x) d r i) d (fpCost w c64 c32) f :=
  fun s v hs => hg v ▸ by
    cases w <;> exact retires_of_op (hc s) hs rfl

/-- The same for an operation with one cost in both formats. -/
theorem floatResult_of_fp_same {c : Instr} {e : EngRef} {w : FWidth} {x : BitVec 8} {d r : Reg} {i : Imm} {cost : Nat}
    {f g : View → W64 × BitVec 5} (hc : ∀ s, exec c s = s.fp e w x d r i cost cost g)
    (hg : ∀ v : View, g (v.next 1) = f v) : FloatResult c e (opWord (fpOpcode w x) d r i) d cost f :=
  fpCost_same w cost ▸ floatResult_of_fp hc hg

/-! ### FNEG and FABS (R154) -/

theorem ofNat_signBits (w : FWidth) : BitVec.ofNat 64 (signBits w true) = 1#64 <<< (FWidth.bits w - 1) := by
  cases w <;> rfl

/-- The model's FNEG in the words of the statement. -/
theorem fpCut_flipSign (w : FWidth) (x : W64) : fpCut w (x ^^^ BitVec.ofNat 64 (signBits w true))
    = BitVec.ofNat 64 ((x ^^^ (1#64 <<< (FWidth.bits w - 1))).toNat % 2 ^ FWidth.bits w) := by
  rw [ofNat_signBits]
  rfl

/-- With its sign bit cleared a datum is what stands below that bit. -/
theorem fpCut_clearSign (w : FWidth) (x : W64) : fpCut w (x &&& ~~~BitVec.ofNat 64 (signBits w true))
    = BitVec.ofNat 64 (x.toNat % 2 ^ (FWidth.bits w - 1)) := by
  obtain ⟨k, hk⟩ : ∃ k, FWidth.bits w = k + 1 := by cases w <;> exact ⟨_, rfl⟩
  refine BitVec.eq_of_getLsbD_eq fun j hj => ?_
  have hsign : (1#64 <<< k).getLsbD j = decide (j = k) := by
    rw [← BitVec.twoPow_eq, BitVec.getLsbD_twoPow]
    grind
  simp only [fpCut, ofNat_signBits, hk, Nat.add_sub_cancel, BitVec.getLsbD_ofNat, Nat.testBit_mod_two_pow,
    BitVec.testBit_toNat, BitVec.getLsbD_and, BitVec.getLsbD_not, hsign, hj]
  grind

/-! ### NaN operands and NaN results (R154) -/

theorem isNan_iff (x : Fp) : x.isNan = true ↔ ∃ a, x = .nan a := by cases x <;> simp [Fp.isNan]

/-- An operation of two operands that delivers the canonical NaN for a NaN on either side. -/
theorem canonNan_of_isNan {w : FWidth} {op : Fp → Fp → W64 × BitVec 5} (hl : ∀ a y, (op (.nan a) y).1 = canonNan w)
    (hr : ∀ x b, (op x (.nan b)).1 = canonNan w) {x y : Fp} (h : (x.isNan || y.isNan) = true) :
    (op x y).1 = canonNan w := by
  rw [Bool.or_eq_true, isNan_iff, isNan_iff] at h
  obtain ⟨a, rfl⟩ | ⟨b, rfl⟩ := h
  · exact hl a y
  · exact hr x b

theorem fpAdd_of_isNan (w : FWidth) {x y : Fp} (h : (x.isNan || y.isNan) = true) : (fpAdd w x y).1 = canonNan w :=
  canonNan_of_isNan (fun _ _ => rfl) (fun x _ => by cases x <;> rfl) h

theorem fpMul_of_isNan (w : FWidth) {x y : Fp} (h : (x.isNan || y.isNan) = true) : (fpMul w x y).1 = canonNan w :=
  canonNan_of_isNan (fun _ _ => rfl) (fun x _ => by cases x <;> rfl) h

theorem fpDiv_of_isNan (w : FWidth) {x y : Fp} (h : (x.isNan || y.isNan) = true) : (fpDiv w x y).1 = canonNan w :=
  canonNan_of_isNan (fun _ _ => rfl) (fun x _ => by cases x <;> rfl) h

theorem fpSqrt_of_isNan (w : FWidth) {x : Fp} (h : x.isNan = true) : (fpSqrt w x).1 = canonNan w := by
  obtain ⟨a, rfl⟩ := (isNan_iff x).1 h
  rfl

theorem fpConv_of_isNan (w : FWidth) {x : Fp} (h : x.isNan = true) : (fpConv w x).1 = canonNan w := by
  obtain ⟨a, rfl⟩ := (isNan_iff x).1 h
  rfl

theorem fpToInt_of_isNan {x : Fp} (h : x.isNan = true) : (fpToInt x).1 = 0 := by
  obtain ⟨a, rfl⟩ := (isNan_iff x).1 h
  rfl

/-- FMA with a NaN among its operands, zero times infinity included. -/
theorem fpFma_of_isNan (w : FWidth) (o : Bool) {x y z : Fp} (h : (x.isNan || y.isNan || z.isNan) = true) :
    (fpFma w o x y z).1 = canonNan w := by
  unfold fpFma
  extract_lets zeroInf
  rw [if_pos h]
  split
  · rfl
  · split <;> rfl

theorem fpMinMax_of_isNan (w : FWidth) (l : Bool) {x y : W64} (h : ((fpOf w x).isNan || (fpOf w y).isNan) = true) :
    (fpMinMax w l x y).1 = canonNan w := by
  rw [fpMinMax, if_pos h]; rfl

theorem fpEq_of_isNan {x y : Fp} (h : (x.isNan || y.isNan) = true) : (fpEq x y).1 = 0 := by
  rw [fpEq, if_pos h]

theorem fpCmp_of_isNan (l : Bool) {x y : Fp} (h : (x.isNan || y.isNan) = true) : fpCmp l x y = (0, fInvalid) := if_pos h

theorem fpAdd_inf_sub_inf (w : FWidth) (n : Bool) : (fpAdd w (.inf n) (.inf !n)).1 = canonNan w := by
  cases n <;> rfl

theorem fpSqrt_neg (w : FWidth) {m : Nat} (e : Int) (hm : 0 < m) : (fpSqrt w (.fin true m e)).1 = canonNan w := by
  rw [fpSqrt, if_neg (Nat.ne_of_gt hm), if_pos rfl]
  rfl

/-- Zero times infinity is invalid in FMA, whatever is added. -/
theorem fpFma_inf_zero (w : FWidth) (o n k : Bool) (e : Int) (z : Fp) :
    (fpFma w o (.inf n) (.fin k 0 e) z).1 = canonNan w ∧ (fpFma w o (.fin k 0 e) (.inf n) z).1 = canonNan w := by
  constructor <;>
  · unfold fpFma
    extract_lets zeroInf
    rw [if_pos (show zeroInf = true from rfl)]
    split <;> rfl

/-- FMA of an infinite product and the opposite infinity. -/
theorem fpFma_inf_sub_inf (w : FWidth) (o n k : Bool) {m : Nat} (hm : 0 < m) (e : Int) :
    (fpFma w o (.inf n) (.fin k m e) (.inf (n == k))).1 = canonNan w
      ∧ (fpFma w o (.fin k m e) (.inf n) (.inf (n == k))).1 = canonNan w := by
  cases m with
  | zero => exact absurd hm (Nat.lt_irrefl 0)
  | succ m => cases n <;> cases k <;> exact ⟨rfl, rfl⟩

theorem fpFma_inf_inf_sub_inf (w : FWidth) (o n k : Bool) :
    (fpFma w o (.inf n) (.inf k) (.inf (n == k))).1 = canonNan w := by
  cases n <;> cases k <;> rfl

/-! ### Zeros and FEQ's flag (R154) -/

theorem snan_iff (x : Fp) : x.snan = true ↔ x = .nan true := by cases x <;> simp [Fp.snan]

/-- FEQ is quiet: only a signalling NaN sets invalid. -/
theorem fpEq_flags (x y : Fp) : (fpEq x y).2 = if x = .nan true ∨ y = .nan true then fInvalid else 0 := by
  simp only [← snan_iff, ← Bool.or_eq_true]
  by_cases h : (x.isNan || y.isNan) = true
  · rw [fpEq, if_pos h]
  · have hs : ¬(x.snan || y.snan) = true := by
      rw [Bool.or_eq_true, snan_iff, snan_iff]
      rintro (rfl | rfl) <;> simp [Fp.isNan] at h
    rw [fpEq, if_neg h, if_neg hs]

theorem fpOf_zeroBits (w : FWidth) (n : Bool) : fpOf w (zeroBits w n) = .fin n 0 (FWidth.minUlp w) := by
  cases w <;> cases n <;> rfl

/-- The two zeros of a format, as the statement lists them. -/
theorem exists_zeroBits {w : FWidth} {a : W64} (ha : a ∈ [0#64, 1#64 <<< (FWidth.bits w - 1)]) :
    ∃ n, a = zeroBits w n := by
  simp only [List.mem_cons, List.not_mem_nil, or_false] at ha
  obtain rfl | rfl := ha
  · exact ⟨false, rfl⟩
  · exact ⟨true, (ofNat_signBits w).symm⟩

theorem zeroBits_and (w : FWidth) (n k : Bool) : zeroBits w n &&& zeroBits w k = zeroBits w (n && k) := by
  cases w <;> cases n <;> cases k <;> rfl

theorem zeroBits_or (w : FWidth) (n k : Bool) : zeroBits w n ||| zeroBits w k = zeroBits w (n || k) := by
  cases w <;> cases n <;> cases k <;> rfl

theorem fpCut_zeroBits (w : FWidth) (n : Bool) : fpCut w (zeroBits w n) = zeroBits w n := by
  cases w <;> cases n <;> rfl

/-- No zero lies below another one. -/
theorem fpLess_zeros (n k : Bool) (e : Int) : fpLess (.fin n 0 e) (.fin k 0 e) = false := by simp [fpLess]

/-- Zeros compare equal whatever their signs. -/
theorem fpEq_zeros (n k : Bool) (e : Int) : (fpEq (.fin n 0 e) (.fin k 0 e)).1 = 1 := by
  simp [fpEq, Fp.isNan, fpLess_zeros]

/-- FMAX and FMIN take −0 as below +0. -/
theorem fpMinMax_zeros (w : FWidth) (l n k : Bool) :
    (fpMinMax w l (zeroBits w n) (zeroBits w k)).1 = zeroBits w (if l then n && k else n || k) := by
  simp only [fpMinMax, fpOf_zeroBits, Fp.isNan, fpLess_zeros, Fp.neg]
  cases l <;> cases n <;> cases k <;> exact fpCut_zeroBits w _

/-- Settles O2: the seventeen operations are their results by definition, but for FNEG and FABS; then what a NaN operand gives,
what the invalid operations give, and the zeros. -/
theorem floatOperationsDeliverResultAndFlags : Obligations.FloatOperationsDeliverResultAndFlags := by
  refine ⟨fun _ _ _ _ => floatResult_of_fp (fun _ => rfl) fun _ => rfl,
    fun _ _ _ _ => floatResult_of_fp (fun _ => rfl) fun _ => rfl,
    fun _ _ _ _ => floatResult_of_fp (fun _ => rfl) fun _ => rfl,
    fun _ _ _ _ => floatResult_of_fp (fun _ => rfl) fun _ => rfl,
    fun _ _ _ _ => floatResult_of_fp (fun _ => rfl) fun _ => rfl,
    fun _ _ _ _ _ => floatResult_of_fp (fun _ => rfl) fun _ => rfl,
    fun _ _ _ _ => floatResult_of_fp_same (fun _ => rfl) fun _ => rfl,
    fun _ _ _ _ => floatResult_of_fp_same (fun _ => rfl) fun _ => rfl,
    fun _ w _ r => floatResult_of_fp_same (fun _ => rfl) fun v => congrArg (·, 0) (fpCut_flipSign w (v.r r)),
    fun _ w _ r => floatResult_of_fp_same (fun _ => rfl) fun v => congrArg (·, 0) (fpCut_clearSign w (v.r r)),
    fun _ _ _ _ => floatResult_of_fp_same (fun _ => rfl) fun _ => rfl,
    fun _ _ _ _ => floatResult_of_fp_same (fun _ => rfl) fun _ => rfl,
    fun _ _ _ => floatResult_of_fp_same (w := .b64) (x := 0xC) (fun _ => rfl) fun _ => rfl,
    fun _ _ _ => floatResult_of_fp_same (w := .b32) (x := 0xC) (fun _ => rfl) fun _ => rfl,
    fun _ _ _ _ => floatResult_of_fp_same (fun _ => rfl) fun _ => rfl,
    fun _ _ _ _ => floatResult_of_fp_same (fun _ => rfl) fun _ => rfl,
    fun _ _ _ _ => floatResult_of_fp_same (fun _ => rfl) fun _ => rfl,
    fun w x y z o => ⟨fun h => ?nanOperand, ⟨rfl, rfl⟩, fun n k e _ => ?invalidOperation, ⟨rfl, rfl⟩, ?zeros,
      fpEq_flags _ _⟩⟩
  case nanOperand =>
    have hxy : ((fpOf w x).isNan || (fpOf w y).isNan) = true := by rw [h, Bool.true_or]
    have hyx : ((fpOf w y).isNan || (fpOf w x).isNan) = true := by rw [h, Bool.or_true]
    exact ⟨fpAdd_of_isNan w hxy, fpAdd_of_isNan w hyx, fpMul_of_isNan w hxy, fpMul_of_isNan w hyx, fpDiv_of_isNan w hxy,
      fpDiv_of_isNan w hyx, fpSqrt_of_isNan w h, fpFma_of_isNan w o (by simp [h]), fpFma_of_isNan w o (by simp [h]),
      fpFma_of_isNan w o (by simp [h]), fun l => ⟨fpMinMax_of_isNan w l hxy, fpMinMax_of_isNan w l hyx⟩,
      fun u => fpConv_of_isNan u h, fpToInt_of_isNan h, fpEq_of_isNan hxy, fpEq_of_isNan hyx,
      fun l => ⟨fpCmp_of_isNan l hxy, fpCmp_of_isNan l hyx⟩⟩
  case invalidOperation =>
    exact ⟨fpAdd_inf_sub_inf w n, rfl, rfl, rfl, rfl, rfl, fun _ => fpSqrt_neg w e, fpFma_inf_zero w o n k e,
      fun _ hm => fpFma_inf_sub_inf w o n k hm e, fpFma_inf_inf_sub_inf w o n k⟩
  case zeros =>
    intro minus a ha b hb
    obtain ⟨n, rfl⟩ := exists_zeroBits ha
    obtain ⟨k, rfl⟩ := exists_zeroBits hb
    rw [fpOf_zeroBits, fpOf_zeroBits, zeroBits_and, zeroBits_or]
    exact ⟨fpEq_zeros n k _, fpMinMax_zeros w true n k, fpMinMax_zeros w false n k⟩

end Sys2Proof.Proofs
end

section
/-! PAIR (R490-R493): the words of a status object, and the field tables of PAIR. -/

namespace Sys2Proof.Proofs

open Sys2Proof Sys2Proof.Machine Sys2Proof.Claims

/-! ### Words of a status object -/

@[simp] theorem length_leBytes (v n : Nat) : (leBytes v n).length = n := by
  induction n generalizing v with
  | zero => rfl
  | succ n ih => rw [leBytes, List.length_cons, ih]

theorem leNat_leBytes (v n : Nat) : leNat (leBytes v n) = v % 2 ^ (8 * n) := by
  induction n generalizing v with
  | zero => exact (Nat.mod_one v).symm
  | succ n ih => rw [leBytes, leNat, ih, BitVec.toNat_ofNat, Nat.mul_succ, Nat.add_comm (8 * n), Nat.pow_add, Nat.mod_mul]

theorem words_cons (x : Nat) (l : List Nat) : words (x :: l) = leBytes x 4 ++ words l := List.flatMap_cons

theorem drop_words (l : List Nat) (k : Nat) : (words l).drop (4 * k) = words (l.drop k) := by
  induction l generalizing k with
  | nil => simp only [words, List.flatMap_nil, List.drop_nil]
  | cons x l ih =>
    cases k with
    | zero => rfl
    | succ k => rw [words_cons, List.drop_append, length_leBytes, List.drop_of_length_le (by rw [length_leBytes]; omega),
        List.nil_append, show 4 * (k + 1) - 4 = 4 * k by omega, ih, List.drop_succ_cons]

/-- A word of an object is the value listed for it, cut to 32 bits (R11, R30). -/
theorem objWord_objBytes (pl : W32 × W32 × W32 × W32) {l : List Nat} {k : Nat} (hk : k < l.length) :
    objWord (objBytes pl l) k = l[k] % 2 ^ 32 := by
  rw [objWord, objBytes, show 16 + 4 * k = 4 * (k + 4) by omega, drop_words]
  simp only [List.cons_append, List.nil_append, List.drop_succ_cons]
  rw [List.drop_eq_getElem_cons hk, words_cons, List.take_left' (length_leBytes _ 4), leNat_leBytes]

/-! ### Field tables, highest field first -/

/-- The word of the fields `(width, value)` below bit `hi`. -/
def packFields : Nat → List (Nat × Nat) → Nat
  | _, [] => 0
  | hi, (n, x) :: fs => x * 2 ^ (hi - n) + packFields (hi - n) fs

/-- The fields find room below bit `hi`, and each value fits its width. -/
def FieldsFit : Nat → List (Nat × Nat) → Prop
  | _, [] => True
  | hi, (n, x) :: fs => n ≤ hi ∧ x < 2 ^ n ∧ FieldsFit (hi - n) fs

/-- A word shows the fields one below the other from bit `hi` down. -/
def ShowsFields (w : Nat) : Nat → List (Nat × Nat) → Prop
  | _, [] => True
  | hi, (n, x) :: fs => field w (hi - n) n = x ∧ ShowsFields w (hi - n) fs

theorem packFields_lt {fs : List (Nat × Nat)} {hi : Nat} (h : FieldsFit hi fs) : packFields hi fs < 2 ^ hi := by
  induction fs generalizing hi with
  | nil => exact Nat.two_pow_pos hi
  | cons f fs ih =>
    obtain ⟨n, x⟩ := f
    obtain ⟨hn, hx, hfs⟩ := h
    calc x * 2 ^ (hi - n) + packFields (hi - n) fs
      _ < x * 2 ^ (hi - n) + 2 ^ (hi - n) := Nat.add_lt_add_left (ih hfs) _
      _ = (x + 1) * 2 ^ (hi - n) := (Nat.succ_mul _ _).symm
      _ ≤ 2 ^ n * 2 ^ (hi - n) := Nat.mul_le_mul_right _ hx
      _ = 2 ^ hi := by rw [← Nat.pow_add, Nat.add_sub_cancel' hn]

/-- No field carries into the next one: a word whose low bits are the packed fields shows them. -/
theorem showsFields_of_mod {w : Nat} {fs : List (Nat × Nat)} {hi : Nat} (h : FieldsFit hi fs)
    (hw : w % 2 ^ hi = packFields hi fs) : ShowsFields w hi fs := by
  induction fs generalizing hi with
  | nil => trivial
  | cons f fs ih =>
    obtain ⟨n, x⟩ := f
    obtain ⟨hn, hx, hfs⟩ := h
    have hlow := packFields_lt hfs
    have hsplit : 2 ^ hi = 2 ^ (hi - n) * 2 ^ n := by rw [← Nat.pow_add, Nat.sub_add_cancel hn]
    refine ⟨?_, ih hfs ?_⟩
    · calc field w (hi - n) n
        _ = w % 2 ^ hi / 2 ^ (hi - n) := by rw [hsplit, Nat.mod_mul_right_div_self, field]
        _ = x := by
          rw [hw, packFields, Nat.mul_comm, Nat.mul_add_div (Nat.two_pow_pos _), Nat.div_eq_of_lt hlow, Nat.add_zero]
    · calc w % 2 ^ (hi - n)
        _ = w % 2 ^ hi % 2 ^ (hi - n) := by rw [hsplit, Nat.mod_mul_right_mod]
        _ = packFields (hi - n) fs := by rw [hw, packFields, Nat.mul_add_mod_self_right, Nat.mod_eq_of_lt hlow]

/-- A word of an object that lists the packed fields shows them. -/
theorem showsFields_objWord (pl : W32 × W32 × W32 × W32) {l : List Nat} {k : Nat} {fs : List (Nat × Nat)}
    (h : FieldsFit 32 fs) (hk : k < l.length) (hl : l[k] = packFields 32 fs) :
    ShowsFields (objWord (objBytes pl l) k) 32 fs :=
  showsFields_of_mod h (by rw [objWord_objBytes pl hk, Nat.mod_mod, hl, Nat.mod_eq_of_lt (packFields_lt h)])

/-! ### The tables of PAIR -/

theorem bit_lt (b : Bool) : bit b < 2 := by cases b <;> decide

theorem side_lt (m : Mod) : m.side < 2 := by unfold Mod.side; split <;> decide

theorem role_code_lt (r : Role) : r.code < 8 := by cases r <;> decide

theorem partnerCode_lt (m : Mod) : partnerCode m < 8 := by
  unfold partnerCode
  split
  · exact role_code_lt _
  · decide

theorem planCode_lt (p : PlanState) : planCode p < 16 := by cases p <;> decide

/-- The plan states are declared in the order of their codes. -/
theorem ctorIdx_planState (p : PlanState) : p.ctorIdx = planCode p := by cases p <;> rfl

/-- PAIR.ROLE (R491). -/
def roleTable (m : Mod) : List (Nat × Nat) :=
  [(3, m.pair.role.code), (3, partnerCode m), (1, m.side), (1, bit (m.pair.role = .shadow && m.pair.ready)),
    (1, bit m.redundantReady), (2, m.pair.pfl), (1, bit (m.hall.link = .up)), (4, planCode m.pair.plan.st), (16, 0)]

/-- PAIR.BOLT (R492). -/
def boltTable (m : Mod) : List (Nat × Nat) :=
  [(1, bit m.bolt.ownSelf), (1, bit m.bolt.ownPartner), (1, bit m.bolt.liveSelf), (1, bit m.bolt.livePartner),
    (1, bit m.gate), (1, bit (!m.bolt.ownSelf && m.bolt.ownPartner)), (1, bit m.bolt.armed), (1, bit m.bolt.bistLatch),
    (1, bit m.bolt.ownStuck), (1, bit m.bolt.contention), (1, bit m.bolt.wdExpired), (21, 0)]

/-- PAIR.LAST_CHANGE (R493). -/
def lastChangeTable (m : Mod) : List (Nat × Nat) :=
  [(4, m.pair.lastFrom), (4, m.pair.lastTo), (8, m.pair.lastCause), (16, 0)]

theorem roleTable_fits {m : Mod} (hpfl : m.pair.pfl < 4) : FieldsFit 32 (roleTable m) := by
  simp only [roleTable, FieldsFit, Nat.reduceLeDiff, Nat.reduceSub, Nat.reducePow, role_code_lt, partnerCode_lt, side_lt, bit_lt,
    hpfl, planCode_lt, Nat.reduceLT, and_self]

theorem boltTable_fits (m : Mod) : FieldsFit 32 (boltTable m) := by
  simp only [boltTable, FieldsFit, Nat.reduceLeDiff, Nat.reduceSub, Nat.reducePow, bit_lt, Nat.reduceLT, and_self]

theorem lastChangeTable_fits {m : Mod} (hfrom : m.pair.lastFrom < 16) (hto : m.pair.lastTo < 16)
    (hcause : m.pair.lastCause < 256) : FieldsFit 32 (lastChangeTable m) := by
  simp only [lastChangeTable, FieldsFit, Nat.reduceLeDiff, Nat.reduceSub, Nat.reducePow, hfrom, hto, hcause, Nat.reduceLT,
    and_self]

theorem objPair_shows_role {m : Mod} (hpfl : m.pair.pfl < 4) : ShowsFields (objWord m.objPair 0) 32 (roleTable m) := by
  refine showsFields_objWord m.placeMod (roleTable_fits hpfl) (by simp) ?_
  cases hpartner : m.pair.partner <;>
    simp only [List.getElem_cons_zero, hpartner, ctorIdx_planState, roleTable, packFields, partnerCode, Nat.reduceSub,
      Nat.add_assoc, Nat.zero_mul, Nat.add_zero]

theorem objPair_shows_bolt (m : Mod) : ShowsFields (objWord m.objPair 1) 32 (boltTable m) := by
  refine showsFields_objWord m.placeMod (boltTable_fits m) (by simp) ?_
  simp only [List.getElem_cons_succ, List.getElem_cons_zero, boltTable, packFields, Nat.reduceSub, Nat.add_assoc,
    Nat.zero_mul, Nat.add_zero]

theorem objPair_shows_lastChange {m : Mod} (hfrom : m.pair.lastFrom < 16) (hto : m.pair.lastTo < 16)
    (hcause : m.pair.lastCause < 256) : ShowsFields (objWord m.objPair 3) 32 (lastChangeTable m) := by
  refine showsFields_objWord m.placeMod (lastChangeTable_fits hfrom hto hcause) (by simp) ?_
  simp only [List.getElem_cons_succ, List.getElem_cons_zero, lastChangeTable, packFields, Nat.reduceSub, Nat.add_assoc,
    Nat.zero_mul, Nat.add_zero]

theorem objPair_reset {m : Mod} (hm : m = State.reset.m) :
    objWord m.objPair 0 = 0x1C000000 ∧ objWord m.objPair 1 = 0 ∧ objWord m.objPair 3 = 0xF0000000 := by
  subst hm
  exact ⟨rfl, rfl, rfl⟩

/-- Settles O53: each word packs its table, and packed fields that fit their widths are shown one by one. -/
theorem pairWordsShowThePair : Obligations.PairWordsShowThePair := by
  intro m hpfl hfrom hto hcause
  have hrole := objPair_shows_role hpfl
  have hbolt := objPair_shows_bolt m
  have hlast := objPair_shows_lastChange hfrom hto hcause
  simpa only [roleTable, boltTable, lastChangeTable, ShowsFields, and_true, and_assoc] using
    And.intro hrole (And.intro hbolt (And.intro hlast objPair_reset))

end Sys2Proof.Proofs
end
